-- ==== Sys2Proof/Word.lean ====
section
/-! DEFINITION. The words of the part: bytes, two-byte fields, time stamps, and times counted in periods of the clock input. -/

namespace Sys2Proof

/-- One byte of a frame, of a port block or of the configuration image. -/
abbrev Byte := BitVec 8

/-- A two-byte field. -/
abbrev Half := BitVec 16

/-- A time stamp: milliseconds since the last reset, 32 bits, wrapping (0.7). -/
abbrev Stamp := BitVec 32

/-- A time or a duration, in periods of the 20 MHz clock input (0.6). -/
abbrev Clocks := Nat

end Sys2Proof
end

