-- ==== Sys2Proof/Syntax.lean ====
section
/-! DEFINITION. The commands of the block: one constructor for each row of spec/opcode_table.json.

Operands. A command whose moment the outside world chooses carries `dt`, the clock periods since the command
before it (DESIGN CHOICE, unsafe: log entry 2). A command whose moment the part itself counts out (the expiry of a timer, a boundary, a
pulse position, the end of a frame whose bit times are counted) carries no time: it happens when it is due. -/

namespace Sys2Proof

/-- The light of one bit time on the string link, half by half (R1). -/
structure BitTime where
  first : Bool
  second : Bool
  deriving DecidableEq, Repr

/-- What is heard in the bit time `index` of the own frame, counted from 0 (R10). -/
structure HeardBit where
  index : Nat
  heard : BitTime
  deriving DecidableEq, Repr

/-- The commands. `none` for a reading is a reading whose validity flag is off. -/
inductive Instr where
  /-- Power-on reset with the strap pins as given, first pin most significant. -/
  | coldReset (straps : BitVec 4)
  /-- Reset through the reset line. -/
  | warmReset (dt : Clocks) (straps : BitVec 4)
  /-- The dark count reaches 16. -/
  | idleGap
  /-- A further boundary in IDLE. -/
  | boundary
  /-- Light is seen in IDLE. -/
  | arbitrationStart (dt : Clocks)
  /-- The pulse position of the contender's digit; whether a pulse was heard earlier in the round (DEDUCED, safe: log entry 29). -/
  | pulsePosition (heardEarlier : Bool)
  /-- Bit time 64 of the arbitration; whether another station's light is on the line in it. -/
  | survival (lit : Bool)
  /-- A bit time of the own frame is heard otherwise than it was sent. -/
  | echoMismatch (bit : HeardBit)
  /-- The last bit of the own frame is sent, every bit time agreeing. -/
  | frameSent
  /-- Light follows the 1592nd bit. -/
  | frameTooLong
  /-- A frame ends that is short, or whose header is uncorrectable or of unknown kind; `heard` is its bit times. -/
  | frameDiscarded (heard : List BitTime)
  | statusReceived (heard : List BitTime)
  | noticeReceived (heard : List BitTime)
  | replyOrRecordReceived (heard : List BitTime)
  /-- A COMMAND frame with code 1 ends. -/
  | start (heard : List BitTime)
  | stop (heard : List BitTime)
  | yawHold (heard : List BitTime)
  | yawRelease (heard : List BitTime)
  | untwist (heard : List BitTime)
  /-- A COMMAND frame with code 6 ends; `zone` is what the twist zone sensor then reads. -/
  | faultReset (heard : List BitTime) (zone : Option Int)
  | recordRequest (heard : List BitTime)
  | stringCap (heard : List BitTime)
  | stringStop (heard : List BitTime)
  /-- A COMMAND frame with a code outside 1..9 ends. -/
  | unknownCommand (heard : List BitTime)
  | statusTimerExpiry
  | duplicateTimerExpiry
  | ageTimerStale (peer : Fin 12)
  | ageTimerLost (peer : Fin 12)
  | isolationTimerExpiry
  | foreignTimerExpiry
  | controlPeriod
  | selectAsserted (dt : Clocks)
  | selectReleased (dt : Clocks)
  /-- The rising edge that completes type byte 0x31. -/
  | readSetpoint (dt : Clocks)
  /-- The rising edge that completes the sixth setpoint byte. -/
  | readSetpointEnd (dt : Clocks)
  /-- The rising edge that completes type byte 0x32. -/
  | writeMeasurement (dt : Clocks)
  /-- The rising edge, with `bit` on data in, that completes a type byte other than 0x31 and 0x32. -/
  | unknownPortType (dt : Clocks) (bit : Bool)
  /-- The rising edge, with `bit` on data in, that completes the tenth measurement byte. -/
  | measurementArrival (dt : Clocks) (bit : Bool)
  | pauseTimerExpiry
  | strobeTimerExpiry
  | silenceTimerExpiry
  | curveDeadline
  | recoveryTimerExpiry
  | overvoltageTimerExpiry
  /-- An encoder reading; `zone` is what the twist zone sensor reads with it, none when its valid flag is off
  (DESIGN CHOICE, safe: log entry 21). -/
  | encoderReading (dt : Clocks) (angle : Fin 3600) (zone : Option Int)
  | platformHeadingReading (dt : Clocks) (reading : Option (Fin 3600))
  | vaneReading (dt : Clocks) (reading : Option (Fin 3600))
  | windSpeedReading (dt : Clocks) (reading : Option (Fin 801))
  | vaneInvalidTimerExpiry
  | yawEvaluation
  | waitPowerTimerExpiry
  | brakeReleasedInput (dt : Clocks) (level : Bool)
  | releaseMonitorExpiry
  | applyMonitorExpiry
  | brakeRetryTimerExpiry
  /-- Drives are numbered from 0 here: drive d of the spec is d - 1. -/
  | driveReadyInput (dt : Clocks) (drive : Fin 6) (level : Bool)
  | driveRunningInput (dt : Clocks) (drive : Fin 6) (level : Bool)
  | driveFeedbackTimerExpiry (drive : Fin 6)
  /-- Temperature channels are numbered from 0 here: channel c of the spec is c - 1. -/
  | temperatureReading (dt : Clocks) (channel : Fin 8) (reading : Option Int)
  | holdTimerExpiry (channel : Fin 8)
  | flowReading (dt : Clocks) (reading : Option (Fin 2001))
  | flowMonitorExpiry
  /-- Pumps are numbered from 0 here: P1 is 0. -/
  | pumpRunningInput (dt : Clocks) (pump : Fin 2) (level : Bool)
  | pumpFeedbackTimerExpiry (pump : Fin 2)
  | coolingEvaluation
  /-- Fans are numbered from 0 here: fan f of the spec is f - 1. -/
  | fanRunningInput (dt : Clocks) (fan : Fin 4) (level : Bool)
  | fanFeedbackTimerExpiry (fan : Fin 4)
  | scanTimerExpiry
  | dischargeEnd
  /-- The comparator trips when `count` periods of the modulation clock have been counted. -/
  | comparatorTrip (count : Nat)
  | ceilingReached
  | configMarkerReceived (dt : Clocks) (marker : Byte)
  | configHeaderReceived (dt : Clocks) (b0 : Byte) (b1 : Byte) (b2 : Byte) (b3 : Byte)
  /-- The rest of the image: length - 4 bytes of records, then the two CRC bytes. -/
  | configReadComplete (dt : Clocks) (rest : List Byte)
  | startTimerExpiry
  | stopTimerExpiry
  | restartDelayExpiry
  | listTimerExpiry
  | portClockRisingEdge (dt : Clocks) (bit : Bool)
  | lightSeenInTrail (dt : Clocks)
  deriving DecidableEq, Repr

end Sys2Proof
end

