-- ==== Sys2Proof/Config.lean ====
section
/-! DEFINITION. What is fixed for every part (the clock relations of 0.6) and the one value the spec leaves open. -/

namespace Sys2Proof

/-- Periods of the 20 MHz clock input in one millisecond (0.6). -/
def Config.clocksPerMs : Clocks := 20000

/-- Periods of the clock input in one microsecond (0.6). -/
def Config.clocksPerUs : Clocks := 20

/-- Periods of the clock input in one bit time of 400 ns (R1). -/
def Config.clocksPerBit : Clocks := 8

/-- FREE VALUE (DESIGN CHOICE, safe: log entry 1): the bits of a final partial trailing byte that were never received. R3 counts such
a group as one trailing byte and R28's note compares it 'as received'; the spec gives the missing bits no value. -/
opaque Config.missingBits : Nat → BitVec 8

end Sys2Proof
end

