-- ==== Sys2Proof/Machine/Blocks.lean ====
section
/-! DEFINITION. The plain data of the ten blocks (0.3). Each structure is one block's state; what the spec gives as
equal to something else is stored once, and the other view is a function in the file of its block.
Timers are held as the clock reading at which they fall due; a stopped timer is `none` (DESIGN CHOICE, safe: log entry 28). -/

namespace Sys2Proof.Machine

/-! ## Fault manager (chapter 9) -/

/-- The fault codes of R171, in the order of their numbers 1..36. -/
inductive FaultCode where
  | linkIsolated | duplicateStation | shareViewDisagree | peerLost | foreignTraffic | converterPortSilent
  | converterReported | gridUndervoltageTrip | gridOvervoltage | rideThroughEvent | startTimeout | portReadAbandoned
  | yawStall | brakeReleaseFail | brakeApplyFail | yawDrivesInsufficient | driveFeedback | twistHardLimit | twistRange
  | twistUnknown | yawWaitPower | misalignment | vaneInvalid | pumpFail | coolingLost | fanFail | tempSensorInvalid
  | overtemperature | coolantLeak | coolantLow | condensation | senseChannelFault | stringCableHot | auxOverride
  | configInvalid | restartLimit
  deriving DecidableEq, Repr

/-- The severities of 9.1. -/
inductive Severity where
  | note | warn | derate | yawStop | trip | safeStop
  deriving DecidableEq, Repr

/-- What a notice announces (2.6.3). -/
inductive Transition where
  | opened | closed | openedAndClosed
  deriving DecidableEq, Repr

/-- Why a record was closed; `notClosed` is the spec's 'none' (9.2). -/
inductive CloseReason where
  | notClosed | conditionGone | faultReset | warmReset
  deriving DecidableEq, Repr

/-- OPEN, OPEN-CLEARED, CLOSED (9.2). -/
inductive RecordState where
  | opened | openCleared | closed
  deriving DecidableEq, Repr

/-- A record of the pool with the slot it stands in (9.2). The severity field is that of the code (R171).
`seq` is the model's own: it numbers the openings, so that the newest opened record can be told (R184, DEDUCED, safe: log entry 3). -/
structure Record where
  slot : Fin 64
  code : FaultCode
  state : RecordState
  repeatCount : Nat
  openStamp : Stamp
  lastSeen : Stamp
  closeStamp : Stamp
  value : BitVec 32
  closeReason : CloseReason
  closeTransition : Option Transition
  openPending : Bool
  closePending : Bool
  seq : Nat
  deriving DecidableEq, Repr

/-- The FLM. OPEN and HISTORY hold their records with their slots; FREE is every slot in neither (R173).
`present` is the condition of each code as last reported (R172), indexed by code number − 1. -/
structure Flm where
  opens : List Record
  history : List Record
  present : Vector Bool 36
  reclaimedUnsent : Bool
  nextSeq : Nat
  deriving DecidableEq, Repr

/-- The effective reaction (R180). -/
structure Reaction where
  trip : Bool
  yawStop : Bool
  untwistYawStop : Bool
  safeStop : Bool
  fMin : Nat
  deriving DecidableEq, Repr

/-! ## String link controller (chapters 1 and 2) -/

/-- The line states of 1.2. -/
inductive LineState where
  | sync | idle | arbitration | frame | trail
  deriving DecidableEq, Repr

/-- The transmit sources of 1.6. -/
inductive Source where
  | status | reply | record | notice
  deriving DecidableEq, Repr

/-- The results of a command (2.6.4). -/
inductive Result where
  | accepted | refusedState | notPermitted | badArgument | unknownCommand | busy
  deriving DecidableEq, Repr

/-- The fields of a header (2.6.1). -/
structure Header where
  kind : BitVec 4
  sender : BitVec 4
  target : BitVec 4
  priority : BitVec 4
  field : BitVec 16
  deriving DecidableEq, Repr

/-- The 36 bytes of a STATUS payload (2.6.2). -/
structure StatusPayload where
  opState : Byte
  flags : Byte
  ratedPower : Half
  demand : Half
  appliedShare : Half
  thermalLimit : Half
  actualExport : Half
  dSeen : BitVec 32
  cLive : BitVec 32
  heading : Half
  windDirection : Half
  windSpeed : Half
  twist : Half
  steeringOffset : Half
  openRecords : Byte
  highestSeverity : Byte
  newestCode : Byte
  summaryFlags : Byte
  linkErrors : Half
  deriving DecidableEq, Repr

/-- The 18 bytes of a NOTICE payload (2.6.3). -/
structure NoticePayload where
  slotIndex : Byte
  code : Byte
  severity : Byte
  transition : Byte
  closeReason : Byte
  repeatCount : Byte
  openStamp : BitVec 32
  closeStamp : BitVec 32
  value : BitVec 32
  deriving DecidableEq, Repr

/-- The 23 bytes of a RECORD payload (2.6.5). -/
structure RecordPayload where
  notice : NoticePayload
  recordState : Byte
  lastSeen : BitVec 32
  deriving DecidableEq, Repr

/-- What the REPLY slot holds: the reply and the station it answers (R37). -/
structure ReplyContent where
  target : BitVec 4
  code : Byte
  result : Result
  data : Half
  deriving DecidableEq, Repr

/-- What the RECORD slot holds: the copy of R38 and the station it goes to. -/
structure RecordContent where
  target : BitVec 4
  payload : RecordPayload
  deriving DecidableEq, Repr

/-- A frame pending in a slot, with its loss count and echo mismatch count (R5, R10). -/
structure Pending (α : Type) where
  content : α
  loss : Nat
  echo : Nat
  deriving DecidableEq, Repr

/-- The notice register: the identity of the notice last offered, its code, and its counts (R18). -/
structure NoticeReg where
  slot : Fin 64
  transition : Transition
  code : FaultCode
  loss : Nat
  echo : Nat
  deriving DecidableEq, Repr

/-- A frame chosen to contend: its effective priority and key, fixed at the boundary, and the round it is in,
1..4, or 5 after the last (R6). -/
structure Contender where
  source : Source
  priority : Nat
  key : BitVec 8
  round : Nat
  deriving DecidableEq, Repr

/-- The transmit buffer while the transmitter is active: the frame's bits, its source, and whether the STATUS slot
was refilled after the copy (R9, R11). `opening` is the model's own: the number of the record a NOTICE was copied from,
so that the send serves no record that took its slot since (R183, DEDUCED, safe: log entry 3). -/
structure Transmission where
  source : Source
  bits : List Bool
  refilled : Bool
  opening : Option Nat
  deriving DecidableEq, Repr

/-- The SLC. `gapDue` is when the sixteenth dark bit time ends if the line stays dark: it holds the dark count (R2).
`errorsSinceCopy` notes, for each accumulator bit, whether its event was taken since the REPLY's copy (R34). -/
structure Slc where
  lineState : LineState
  gapDue : Clocks
  lastBoundary : Clocks
  contender : Option Contender
  pulseFrom : Option Clocks
  sending : Option Transmission
  statusSlot : Option (Pending StatusPayload)
  replySlot : Option (Pending ReplyContent)
  recordSlot : Option (Pending RecordContent)
  notice : Option NoticeReg
  errors : Half
  errorsSinceCopy : Half
  statusDue : Clocks
  duplicateDue : Option Clocks
  deriving DecidableEq, Repr

/-! ## Peer table (chapter 3) -/

/-- A peer descriptor (3.1). -/
structure Descriptor where
  station : Nat
  rated : Nat
  excluded : Bool
  cableMonitor : Bool
  deriving DecidableEq, Repr

/-- The freshness classes of 3.3. -/
inductive Freshness where
  | neverHeard | fresh | stale | lost
  deriving DecidableEq, Repr

/-- A peer entry (3.2). `ageFrom` is the moment the running age timer counts from; none when it is stopped. The set
`tripCodes` is a list without repeats (DEDUCED, safe: log entry 25). -/
structure PeerEntry where
  freshness : Freshness
  ageFrom : Option Clocks
  lastStatus : Option StatusPayload
  stamp : Option Stamp
  tripCodes : List FaultCode
  lastTripNotice : Option FaultCode
  cableHot : Bool
  disagreement : Nat
  deriving DecidableEq, Repr

/-- The PTB. The remap and the descriptors are one table: slot j's descriptor names its station (R45). -/
structure Ptb where
  loaded : Bool
  slots : Vector (Option Descriptor) 12
  entries : Vector PeerEntry 12
  isolationDue : Option Clocks
  isolated : Bool
  foreignDue : Option Clocks
  deriving DecidableEq, Repr

/-! ## Share computation unit (chapter 4) -/

/-- The SCU, with the configured quantities it takes at the load (4.1). -/
structure Scu where
  periodDue : Option Clocks
  cap : Nat
  dOwn : Nat
  cLive : Nat
  dSeen : Nat
  sRaw : Nat
  sApp : Nat
  eLim : Nat
  enable : Bool
  hold : Bool
  dHold : Nat
  cCfg : Nat
  rampUp : Nat
  rampDown : Nat
  fCab : Nat
  deriving DecidableEq, Repr

/-! ## Converter port (chapter 5) -/

/-- The two transactions of the port. -/
inductive PortType where
  | read | write
  deriving DecidableEq, Repr

/-- The transaction states of 5.2, with the bytes counted. -/
inductive PortState where
  | idle
  | typeByte
  | read (sent : Nat)
  | write (received : Nat)
  | ignore
  | done
  | paused (kind : PortType) (count : Nat)
  deriving DecidableEq, Repr

/-- The front setpoint block (5.3.1). -/
structure SetpointBlock where
  counter : Byte
  enable : Bool
  rideThrough : Bool
  reactivePriority : Bool
  exportLimit : Half
  reactive : Half
  deriving DecidableEq, Repr

/-- The measurement block (5.3.2). -/
structure Measurement where
  available : Half
  actual : Half
  voltage : Half
  dcLink : Half
  faultWord : Half
  deriving DecidableEq, Repr

/-- The strobe modes of R93. -/
inductive StrobeMode where
  | off | pulse | window
  deriving DecidableEq, Repr

/-- The CVP. `seenReleased` is clear after a reset until the select line has been seen released (R84).
Measurement-fresh is 'the silence timer runs' (5.6). -/
structure Cvp where
  selectLine : Bool
  seenReleased : Bool
  port : PortState
  bitCount : Nat
  shift : Byte
  staging : List Byte
  pauseDue : Option Clocks
  front : SetpointBlock
  backEnable : Bool
  backLimit : Nat
  swapPending : Bool
  strobeMode : StrobeMode
  strobeLine : Bool
  strobeDue : Option Clocks
  measurement : Measurement
  silenceDue : Option Clocks
  rideThrough : Bool
  entryTime : Clocks
  lowest : Nat
  curveDue : Option Clocks
  recoveryDue : Option Clocks
  overvoltageDue : Option Clocks
  deriving DecidableEq, Repr

/-! ## Yaw controller (chapter 6) -/

/-- The yaw states of 6.5. -/
inductive YawState where
  | idle | requestPower | brakeRelease | moving | brakeApply
  deriving DecidableEq, Repr

/-- The two ways round. -/
inductive Direction where
  | clockwise | counterClockwise
  deriving DecidableEq, Repr

/-- A decided move: its target twist, direction, urgent flag, and whether UNTWIST made it (R114, R130). -/
structure Move where
  target : Int
  direction : Direction
  urgent : Bool
  untwist : Bool
  deriving DecidableEq, Repr

/-- A sector descriptor (6.3); `partner` none is NONE. -/
structure Sector where
  steer : Bool
  restrict : Bool
  partner : Option (Fin 12)
  offsetRef : Fin 8
  deriving DecidableEq, Repr

/-- The yaw parameters of R111. -/
structure YawParams where
  startThreshold : Nat
  softLimit : Nat
  hardLimit : Nat
  bandLower : Nat
  bandUpper : Nat
  deriving DecidableEq, Repr

/-- The YWC. The heading H is formed from the two held angles (R105) and e_f from the window (R107).
The grant k is the APA's count of yaw motors granted (R160). Drives are indexed from 0. -/
structure Ywc where
  angle : Nat
  platform : Nat
  vane : Nat
  vaneSeen : Bool
  windSpeed : Nat
  windValid : Bool
  vaneInvalidDue : Option Clocks
  window : List Int
  grossCount : Nat
  bypass : Bool
  urgent : Bool
  windDirection : Nat
  misalignCount : Nat
  evalDue : Option Clocks
  sectors : Vector Sector 24
  offsets : Vector Int 8
  params : YawParams
  state : YawState
  move : Option Move
  offsetInUse : Int
  steering : Bool
  hold : Bool
  twistKnown : Bool
  twist : Int
  prevAngle : Nat
  stallCount : Nat
  stallRef : Int
  releaseOut : Bool
  brakeIn : Bool
  direction : Direction
  enables : Vector Bool 6
  ready : Vector Bool 6
  running : Vector Bool 6
  marked : Vector Bool 6
  feedbackDue : Vector (Option Clocks) 6
  releaseDue : Option Clocks
  applyDue : Option Clocks
  retryDue : Option Clocks
  waitDue : Option Clocks
  deriving DecidableEq, Repr

/-! ## Cooling controller (chapter 7) -/

/-- The validity states of 7.1. -/
inductive Validity where
  | valid | holding | out
  deriving DecidableEq, Repr

/-- A temperature channel the CLC uses (7.1). -/
structure TempChannel where
  held : Int
  validity : Validity
  holdDue : Option Clocks
  deriving DecidableEq, Repr

/-- The pump states of 7.4. -/
inductive PumpState where
  | duty | standby | failed
  deriving DecidableEq, Repr

/-- A pump; its run output is on exactly while it is DUTY (7.4). -/
structure Pump where
  state : PumpState
  runIn : Bool
  feedbackDue : Option Clocks
  deriving DecidableEq, Repr

/-- A fan (7.5). -/
structure Fan where
  failed : Bool
  runOut : Bool
  runIn : Bool
  feedbackDue : Option Clocks
  deriving DecidableEq, Repr

/-- The cooling parameters of R136 but for the modulation clock selection, which the CTS holds (R152). -/
structure CoolingParams where
  stages : Vector Int 4
  valveTarget : Int
  knee : Int
  tripTemp : Int
  minFlow : Nat
  cableLimit : Int
  deriving DecidableEq, Repr

/-- The CLC. The four channels are channels 1, 2, 3 and 7 of 0.5. Fans granted is the APA's count (R160). `minFlowInForce`
is the minimum flow that R139 and R149 use: a load changes that of `params`, and the next cooling evaluation puts it in
force (R136). -/
structure Clc where
  convIn : TempChannel
  convOut : TempChannel
  genOut : TempChannel
  cable : TempChannel
  flow : Nat
  flowDue : Option Clocks
  pumps : Vector Pump 2
  fans : Vector Fan 4
  stageFlags : Vector Bool 4
  valve : Nat
  tOwn : Nat
  params : CoolingParams
  minFlowInForce : Nat
  evalDue : Clocks
  deriving DecidableEq, Repr

/-! ## Charge-timing sense unit (7.12) -/

/-- The raw classes of R155. -/
inductive RawClass where
  | opened | dry | wet | noTrip
  deriving DecidableEq, Repr

/-- An electrode channel; `reported` none is UNKNOWN, `raw` none is 'none yet' (7.12). -/
structure SenseChannel where
  scanned : Bool
  baseline : Nat
  margin : Nat
  ceiling : Nat
  raw : Option RawClass
  reported : Option RawClass
  candidate : Option RawClass
  agree : Nat
  deriving DecidableEq, Repr

/-- The phases of a measurement (R154): the line driven low until `due`, then counting from `since`. -/
inductive ScanPhase where
  | discharging (due : Clocks)
  | counting (since : Clocks)
  deriving DecidableEq, Repr

/-- A scan in progress: the channel being measured. -/
structure Scan where
  channel : Fin 8
  phase : ScanPhase
  deriving DecidableEq, Repr

/-- The CTS. -/
structure Cts where
  clockSel : Nat
  channels : Vector SenseChannel 8
  scanDue : Option Clocks
  scan : Option Scan
  deriving DecidableEq, Repr

/-! ## Auxiliary power arbiter (chapter 8) -/

/-- The five figures of 8.1. -/
structure Figures where
  budget : Nat
  budgetRt : Nat
  pumpLoad : Nat
  fanLoad : Nat
  yawLoad : Nat
  deriving DecidableEq, Repr

/-- The APA. `rideThrough` says that the budget in force is B_rt; a waiting yaw request is held by its urgent flag. -/
structure Apa where
  figures : Figures
  rideThrough : Bool
  fansGranted : Nat
  yawGranted : Nat
  fanRequest : Bool
  yawRequest : Option Bool
  overrideSent : Bool
  shedPending : Bool
  deriving DecidableEq, Repr

/-! ## Operating state controller (chapter 10) -/

/-- The operating states of chapter 10. -/
inductive OpState where
  | loading | unconfigured | standby | starting | producing | rideThrough | stopping | tripped | safeStop
  deriving DecidableEq, Repr

/-- The loader: idle, or reading with the bytes taken so far (R193; DEDUCED, safe: log entry 34). -/
inductive Loader where
  | idle
  | reading (taken : List Byte)
  deriving DecidableEq, Repr

/-- The OSC. -/
structure Osc where
  state : OpState
  station : Nat
  loader : Loader
  runCommand : Bool
  stringStopSeen : Bool
  enable : Bool
  startDue : Option Clocks
  stopDue : Option Clocks
  restartDue : Option Clocks
  tripList : List Stamp
  listDue : Option Clocks
  arrivalSeen : Bool
  deriving DecidableEq, Repr

end Sys2Proof.Machine
end

