-- ==== Sys2Proof/Machine/ResetValues.lean ====
section
/-! DEFINITION. What each block holds after a reset of either kind (R61, R83, R104, R132, R151, R158, R170, R188, R208
and 1.7.1). The input pins a block reads keep the level the outside world drives, so they are arguments here. -/

namespace Sys2Proof.Machine

/-- `n` milliseconds. -/
def ms (n : Nat) : Clocks := n * Config.clocksPerMs

/-- `n` microseconds. -/
def us (n : Nat) : Clocks := n * Config.clocksPerUs

/-- `n` bit times of the string link. -/
def bitTimes (n : Nat) : Clocks := n * Config.clocksPerBit

/-- A monitor of an output against its input: due `period` after the disagreement begins, stopped when it ends,
left as it is while the disagreement lasts (R122, R123, R124, R138, R143). -/
def monitor (now period : Clocks) (was is : Bool) (due : Option Clocks) : Option Clocks :=
  if is then (if was then due else some (now + period)) else none

/-- 1.7.1 and R33. In SYNC no boundary is known: the bit times, and with them the dark count, begin at the end of the
reset (DESIGN CHOICE, unsafe: log entry 35). No event of an accumulator bit is noted as taken since a copy (DESIGN
CHOICE, unsafe: log entry 4). -/
def slcAfterReset : Slc :=
  { lineState := .sync, gapDue := bitTimes 16, lastBoundary := 0, contender := none, pulseFrom := none, sending := none,
    statusSlot := none, replySlot := none, recordSlot := none, notice := none, errors := 0, errorsSinceCopy := 0,
    statusDue := ms 100, duplicateDue := none }

/-- A peer entry as R50 starts it; the entries of a peer table that is not loaded hold the same. -/
def freshEntry : PeerEntry :=
  { freshness := .neverHeard, ageFrom := none, lastStatus := none, stamp := none, tripCodes := [],
    lastTripNotice := none, cableHot := false, disagreement := 0 }

/-- R61. -/
def ptbAfterReset : Ptb :=
  { loaded := false, slots := Vector.replicate 12 none, entries := Vector.replicate 12 freshEntry,
    isolationDue := none, isolated := false, foreignDue := none }

/-- R83. The configured quantities hold 0 until a load (DESIGN CHOICE, unsafe: log entry 4). -/
def scuAfterReset : Scu :=
  { periodDue := none, cap := 100, dOwn := 0, cLive := 0, dSeen := 0, sRaw := 0, sApp := 0, eLim := 0, enable := false,
    hold := false, dHold := 0, cCfg := 0, rampUp := 0, rampDown := 0, fCab := 0 }

/-- R104; `select` is the level of the select line. -/
def cvpAfterReset (select : Bool) : Cvp :=
  { selectLine := select, seenReleased := !select, port := .idle, bitCount := 0, shift := 0, staging := [],
    pauseDue := none,
    front := { counter := 0, enable := false, rideThrough := false, reactivePriority := false, exportLimit := 0, reactive := 0 },
    backEnable := false, backLimit := 0, swapPending := false, strobeMode := .off, strobeLine := false,
    strobeDue := none, measurement := { available := 0, actual := 0, voltage := 0, dcLink := 0, faultWord := 0 },
    silenceDue := none, rideThrough := false, entryTime := 0, lowest := 0, curveDue := none, recoveryDue := none,
    overvoltageDue := none }

/-- A sector without a SECTOR record (R111); the spec gives its offset reference no value, and the model takes 0
(DESIGN CHOICE, unsafe: log entry 36). An unloaded table holds the same (DESIGN CHOICE, unsafe: log entry 4). -/
def plainSector : Sector := { steer := false, restrict := false, partner := none, offsetRef := 0 }

/-- The defaults of R111, held also while no image is loaded (DESIGN CHOICE, unsafe: log entry 4). -/
def defaultYawParams : YawParams :=
  { startThreshold := 80, softLimit := 7200, hardLimit := 9000, bandLower := 50, bandUpper := 120 }

/-- R132; the pins are the brake released input and the ready and running inputs of the drives. The monitors run from
the reset where a feedback input already disagrees with its output, which is off (DEDUCED, unsafe: log entry 5). -/
def ywcAfterReset (brakeIn : Bool) (ready running : Vector Bool 6) : Ywc :=
  { angle := 0, platform := 0, vane := 0, vaneSeen := false, windSpeed := 0, windValid := false, vaneInvalidDue := none,
    window := [], grossCount := 0, bypass := false, urgent := false, windDirection := 0, misalignCount := 0,
    evalDue := none, sectors := Vector.replicate 24 plainSector, offsets := Vector.replicate 8 0,
    params := defaultYawParams, state := .idle, move := none, offsetInUse := 0, steering := false, hold := false,
    twistKnown := false, twist := 0, prevAngle := 0, stallCount := 0, stallRef := 0, releaseOut := false,
    brakeIn := brakeIn, direction := .clockwise, enables := Vector.replicate 6 false, ready := ready, running := running,
    marked := Vector.replicate 6 false, feedbackDue := Vector.ofFn fun d => monitor 0 (ms 2000) false running[d] none,
    releaseDue := none, applyDue := monitor 0 (ms 2000) false brakeIn none, retryDue := none, waitDue := none }

/-- A temperature channel after reset: HOLDING, value 0, hold timer running (R151). -/
def channelAfterReset : TempChannel := { held := 0, validity := .holding, holdDue := some (ms 10000) }

/-- The defaults of R136. -/
def defaultCooling : CoolingParams :=
  { stages := #v[420, 460, 500, 540], valveTarget := 400, knee := 550, tripTemp := 650, minFlow := 60, cableLimit := 750 }

/-- R151; the pins are the running inputs of the pumps and fans. P1 is DUTY with its output on from the end of the
reset, P2 STANDBY; the held flow 0 is below the minimum, so the flow monitor runs (R139). -/
def clcAfterReset (pumpIn : Vector Bool 2) (fanIn : Vector Bool 4) : Clc :=
  { convIn := channelAfterReset, convOut := channelAfterReset, genOut := channelAfterReset, cable := channelAfterReset,
    flow := 0, flowDue := some (ms 5000),
    pumps := #v[{ state := .duty, runIn := pumpIn[0], feedbackDue := monitor 0 (ms 2000) false (!pumpIn[0]) none },
                { state := .standby, runIn := pumpIn[1], feedbackDue := monitor 0 (ms 2000) false pumpIn[1] none }],
    fans := Vector.ofFn fun f =>
      { failed := false, runOut := false, runIn := fanIn[f], feedbackDue := monitor 0 (ms 2000) false fanIn[f] none },
    stageFlags := Vector.replicate 4 false, valve := 500, tOwn := 0, params := defaultCooling,
    minFlowInForce := defaultCooling.minFlow, evalDue := ms 1000 }

/-- A channel with the default settings of R152 and nothing measured (R158). -/
def channelDefaults : SenseChannel :=
  { scanned := true, baseline := 300, margin := 150, ceiling := 1200, raw := none, reported := none, candidate := none,
    agree := 0 }

/-- R158. Selection 2 is divide by 4 (10.2.2). -/
def ctsAfterReset : Cts :=
  { clockSel := 2, channels := Vector.replicate 8 channelDefaults, scanDue := some (ms 2000), scan := none }

/-- The defaults of 8.1. -/
def defaultFigures : Figures := { budget := 80, budgetRt := 40, pumpLoad := 15, fanLoad := 6, yawLoad := 8 }

/-- R170. -/
def apaAfterReset : Apa :=
  { figures := defaultFigures, rideThrough := false, fansGranted := 0, yawGranted := 0, fanRequest := false,
    yawRequest := none, overrideSent := false, shedPending := false }

/-- R188: the pool a cold reset leaves. -/
def flmAfterColdReset : Flm :=
  { opens := [], history := [], present := Vector.replicate 36 false, reclaimedUnsent := false, nextSeq := 0 }

/-- R208: the OSC before the strap sample is judged, in LOADING and reading from the first byte. -/
def oscAfterReset (station : Nat) : Osc :=
  { state := .loading, station := station, loader := .reading [], runCommand := false, stringStopSeen := false,
    enable := false, startDue := none, stopDue := none, restartDue := none, tripList := [], listDue := none,
    arrivalSeen := false }

end Sys2Proof.Machine
end

