-- ==== Sys2Proof/Machine/State.lean ====
section
/-! DEFINITION. The state of the part: the clock, the ten blocks, the waiting commands; the reasons to stop; reset. -/

namespace Sys2Proof.Machine

/-- Why a step could fault. There is no reason: the spec names no event that stops the part, and no command of the
model faults, so this closed inductive has no constructor (safe: nothing is stopped). -/
inductive Fault where
  deriving DecidableEq, Repr

/-- Why a command could be refused. -/
inductive Refusal where
  /-- Raised by `exec` for a row that has no meaning yet, by its mnemonic (safe: the model stops). No arm raises it now. -/
  | notModelled (mnemonic : String)
  deriving DecidableEq, Repr

/-- The whole part. `clock` counts periods of the clock input since the last reset; `unreceived` counts the uses of
the free value `Config.missingBits` (the model's own field, DESIGN CHOICE, safe: log entry 1); `pending` holds the commands that wait,
first in, first out. -/
structure State where
  clock : Clocks
  slc : Slc
  ptb : Ptb
  scu : Scu
  cvp : Cvp
  ywc : Ywc
  clc : Clc
  cts : Cts
  apa : Apa
  flm : Flm
  osc : Osc
  unreceived : Nat
  pending : List Instr
  deriving DecidableEq, Repr

/-- The machine right after a cold reset. The spec gives the pins no level: the straps read station 1, every drive is
ready, every other input is off (DESIGN CHOICE, unsafe: log entry 6). -/
def State.reset : State :=
  { clock := 0, slc := slcAfterReset, ptb := ptbAfterReset, scu := scuAfterReset, cvp := cvpAfterReset false,
    ywc := ywcAfterReset false (Vector.replicate 6 true) (Vector.replicate 6 false),
    clc := clcAfterReset (Vector.replicate 2 false) (Vector.replicate 4 false), cts := ctsAfterReset,
    apa := apaAfterReset, flm := flmAfterColdReset, osc := oscAfterReset 1, unreceived := 0, pending := [] }

end Sys2Proof.Machine
end

