-- ==== Sys2Proof/Machine/Ops.lean ====
section
/-! DEFINITION. The named operations every family uses: one update for each block, the clock, tables indexed by slot,
drive, fan or channel, and counts of flags. -/

namespace Sys2Proof.Machine

/-! ## One update for each block -/

def State.setSlc (s : State) (x : Slc) : State := { s with slc := x }
def State.setPtb (s : State) (x : Ptb) : State := { s with ptb := x }
def State.setScu (s : State) (x : Scu) : State := { s with scu := x }
def State.setCvp (s : State) (x : Cvp) : State := { s with cvp := x }
def State.setYwc (s : State) (x : Ywc) : State := { s with ywc := x }
def State.setClc (s : State) (x : Clc) : State := { s with clc := x }
def State.setCts (s : State) (x : Cts) : State := { s with cts := x }
def State.setApa (s : State) (x : Apa) : State := { s with apa := x }
def State.setFlm (s : State) (x : Flm) : State := { s with flm := x }
def State.setOsc (s : State) (x : Osc) : State := { s with osc := x }
def State.setClock (s : State) (x : Clocks) : State := { s with clock := x }
def State.setUnreceived (s : State) (x : Nat) : State := { s with unreceived := x }
def State.setPending (s : State) (x : List Instr) : State := { s with pending := x }

/-! ## The clock -/

/-- `dt` clock periods pass before the command (DESIGN CHOICE, unsafe: log entry 2). -/
def State.elapse (dt : Clocks) (s : State) : State := s.setClock (s.clock + dt)

/-- The clock stands at the moment `t` at which the command is due, or where it already is when that has passed. -/
def State.runTo (t : Clocks) (s : State) : State := s.setClock (max s.clock t)

/-- The time stamp of a moment (0.7): whole milliseconds since the last reset, modulo 2^32 (DEDUCED, safe: log entry 27). -/
def stampOf (t : Clocks) : Stamp := BitVec.ofNat 32 (t / Config.clocksPerMs)

/-- The time stamp of now. -/
def State.stamp (s : State) : Stamp := stampOf s.clock

/-- The moment `period` from now. -/
def State.after (s : State) (period : Clocks) : Clocks := s.clock + period

/-- What happens at a timer that has run out: nothing while the timer is stopped (DESIGN CHOICE, unsafe: log entry 7), else `act` at the moment
it is due. -/
def State.atDue (due : Option Clocks) (s : State) (act : State → State) : State :=
  match due with
  | none => s
  | some t => act (s.runTo t)

/-! ## Tables -/

/-- The table with the entry at `i` changed by `f`. -/
def update {α : Type} {n : Nat} (v : Vector α n) (i : Fin n) (f : α → α) : Vector α n := v.set i (f v[i])

/-- The table with every entry changed by `f`. -/
def mapTable {α β : Type} {n : Nat} (v : Vector α n) (f : α → β) : Vector β n := Vector.ofFn fun i => f v[i]

/-- How many entries are set. -/
def countSet {n : Nat} (v : Vector Bool n) : Nat := v.toList.count true

/-- The lowest index that satisfies `p`. -/
def lowest? {n : Nat} (p : Fin n → Bool) : Option (Fin n) := (List.finRange n).find? p

/-- The highest index that satisfies `p`. -/
def highest? {n : Nat} (p : Fin n → Bool) : Option (Fin n) := (List.finRange n).reverse.find? p

/-- The bitmap with bit i set where `p i`. -/
def bitmap {n : Nat} (p : Fin n → Bool) : Nat :=
  (List.finRange n).foldl (fun acc i => if p i then acc + 2 ^ i.val else acc) 0

/-! ## Angles (0.7) -/

/-- A signed angle difference brought into −1800..+1799 by adding or subtracting 3600. -/
def wrapAngle (x : Int) : Int := (x + 1800) % 3600 - 1800

/-! ## The own station -/

/-- The own station number is 1..12 (R20). -/
def Osc.validStation (o : Osc) : Bool := 1 ≤ o.station && o.station ≤ 12

/-- STARTING, PRODUCING, RIDE_THROUGH and STOPPING are the producing states (R199). -/
def OpState.isProducing : OpState → Bool
  | .starting | .producing | .rideThrough | .stopping => true
  | .loading | .unconfigured | .standby | .tripped | .safeStop => false

/-- No image is loaded: LOADING or UNCONFIGURED. -/
def OpState.isUnloaded : OpState → Bool
  | .loading | .unconfigured => true
  | .standby | .starting | .producing | .rideThrough | .stopping | .tripped | .safeStop => false

end Sys2Proof.Machine
end

