-- ==== Sys2Proof/Machine/Faults.lean ====
section
/-! DEFINITION. The fault manager's own part of chapter 9: the code table, the record pool, the effective reaction, the
notices and the summary. Nothing here tells another block; Report.lean does. -/

namespace Sys2Proof.Machine

/-! ## Fault codes (R171) -/

/-- The codes in the order of their numbers. -/
def faultCodes : List FaultCode :=
  [.linkIsolated, .duplicateStation, .shareViewDisagree, .peerLost, .foreignTraffic, .converterPortSilent,
   .converterReported, .gridUndervoltageTrip, .gridOvervoltage, .rideThroughEvent, .startTimeout, .portReadAbandoned] ++
  [.yawStall, .brakeReleaseFail, .brakeApplyFail, .yawDrivesInsufficient, .driveFeedback, .twistHardLimit, .twistRange,
   .twistUnknown, .yawWaitPower, .misalignment, .vaneInvalid, .pumpFail, .coolingLost, .fanFail, .tempSensorInvalid] ++
  [.overtemperature, .coolantLeak, .coolantLow, .condensation, .senseChannelFault, .stringCableHot, .auxOverride,
   .configInvalid, .restartLimit]

/-- The place of a code in the table, its number less one. -/
def FaultCode.index : FaultCode → Fin 36
  | .linkIsolated => 0 | .duplicateStation => 1 | .shareViewDisagree => 2 | .peerLost => 3 | .foreignTraffic => 4
  | .converterPortSilent => 5 | .converterReported => 6 | .gridUndervoltageTrip => 7 | .gridOvervoltage => 8
  | .rideThroughEvent => 9 | .startTimeout => 10 | .portReadAbandoned => 11 | .yawStall => 12 | .brakeReleaseFail => 13
  | .brakeApplyFail => 14 | .yawDrivesInsufficient => 15 | .driveFeedback => 16 | .twistHardLimit => 17
  | .twistRange => 18 | .twistUnknown => 19 | .yawWaitPower => 20 | .misalignment => 21 | .vaneInvalid => 22
  | .pumpFail => 23 | .coolingLost => 24 | .fanFail => 25 | .tempSensorInvalid => 26 | .overtemperature => 27
  | .coolantLeak => 28 | .coolantLow => 29 | .condensation => 30 | .senseChannelFault => 31 | .stringCableHot => 32
  | .auxOverride => 33 | .configInvalid => 34 | .restartLimit => 35

/-- The number of a code, 1..36. -/
def FaultCode.number (c : FaultCode) : Nat := c.index.val + 1

/-- The code with the number `n`, if `n` is 1..36. -/
def FaultCode.ofNumber (n : Nat) : Option FaultCode := if n = 0 then none else faultCodes[n - 1]?

/-- The severity column of R171. -/
def FaultCode.severity : FaultCode → Severity
  | .shareViewDisagree | .peerLost | .foreignTraffic | .rideThroughEvent | .portReadAbandoned | .yawWaitPower
  | .auxOverride => .note
  | .linkIsolated | .yawDrivesInsufficient | .driveFeedback | .pumpFail | .fanFail | .condensation
  | .senseChannelFault | .stringCableHot => .warn
  | .duplicateStation | .misalignment | .tempSensorInvalid | .coolantLeak => .derate
  | .yawStall | .brakeReleaseFail | .twistHardLimit | .twistUnknown | .vaneInvalid => .yawStop
  | .converterPortSilent | .converterReported | .gridUndervoltageTrip | .gridOvervoltage | .startTimeout
  | .coolingLost | .overtemperature | .coolantLow | .restartLimit => .trip
  | .brakeApplyFail | .twistRange | .configInvalid => .safeStop

/-- The latching column of R171. -/
def FaultCode.latching : FaultCode → Bool
  | .duplicateStation | .startTimeout | .yawStall | .twistHardLimit | .twistRange | .twistUnknown | .coolantLeak
  | .coolantLow | .configInvalid | .restartLimit => true
  | .linkIsolated | .shareViewDisagree | .peerLost | .foreignTraffic | .converterPortSilent | .converterReported
  | .gridUndervoltageTrip | .gridOvervoltage | .rideThroughEvent | .portReadAbandoned | .brakeReleaseFail
  | .brakeApplyFail | .yawDrivesInsufficient | .driveFeedback | .yawWaitPower | .misalignment | .vaneInvalid
  | .pumpFail | .coolingLost | .fanFail | .tempSensorInvalid | .overtemperature | .condensation | .senseChannelFault
  | .stringCableHot | .auxOverride => false

/-- The derate factors of R171; 1000 for a code that does not derate. -/
def FaultCode.factor : FaultCode → Nat
  | .duplicateStation | .tempSensorInvalid => 500
  | .misalignment | .coolantLeak => 700
  | _ => 1000

/-- The code of a severity in frames (9.1). -/
def Severity.rank : Severity → Nat
  | .note => 0 | .warn => 1 | .derate => 2 | .yawStop => 3 | .trip => 4 | .safeStop => 5

/-- The severity field of a record: that of its code (R175). -/
def Record.severity (r : Record) : Severity := r.code.severity

/-! ## Reports (R172) -/

/-- What an owner tells the FLM. -/
inductive Report where
  | present (code : FaultCode) (value : Int)
  | gone (code : FaultCode)
  | event (code : FaultCode) (value : Int)
  deriving DecidableEq, Repr

/-- The condition of a code as last reported (R172). -/
def Flm.holds (f : Flm) (c : FaultCode) : Bool := f.present[c.index]

/-- The FLM with the condition of a code set as reported. -/
def Flm.setPresent (f : Flm) (c : FaultCode) (b : Bool) : Flm := { f with present := f.present.set c.index b }

/-! ## Slots (R173, R174) -/

/-- The slot holds a record. -/
def Flm.inUse (f : Flm) (i : Fin 64) : Bool := f.opens.any (·.slot == i) || f.history.any (·.slot == i)

/-- The lowest-numbered slot in FREE. -/
def Flm.freeSlot? (f : Flm) : Option (Fin 64) := lowest? fun i => !f.inUse i

/-- R174: a slot for a new record. With FREE and HISTORY both empty there is none to find; R174 shows that this does
not arise, and slot 0 stands in (DESIGN CHOICE, unsafe: log entry 20). -/
def Flm.takeSlot (f : Flm) : Fin 64 × Flm :=
  match f.freeSlot?, f.history with
  | some i, _ => (i, f)
  | none, r :: rest => (r.slot, { f with history := rest, reclaimedUnsent := f.reclaimedUnsent || r.closePending })
  | none, [] => (0, f)

/-- A saturating count 0..255. -/
def satSucc (n : Nat) : Nat := min 255 (n + 1)

/-! ## Opening, repeating, closing (R175 to R179) -/

/-- The record joins the OPEN list after every record of higher or equal severity (R175). -/
def insertOpen (r : Record) : List Record → List Record
  | [] => [r]
  | x :: xs => if r.severity.rank ≤ x.severity.rank then x :: insertOpen r xs else r :: x :: xs

/-- R175: the record a present report opens. -/
def openedRecord (slot : Fin 64) (c : FaultCode) (v : Int) (now : Stamp) (seq : Nat) : Record :=
  { slot := slot, code := c, state := .opened, repeatCount := 0, openStamp := now, lastSeen := now, closeStamp := 0,
    value := BitVec.ofInt 32 v, closeReason := .notClosed, closeTransition := none, openPending := true,
    closePending := false, seq := seq }

/-- R176: a present report for a record in the OPEN list. -/
def Record.again (r : Record) (now : Stamp) : Record :=
  match r.state with
  | .openCleared => { r with state := .opened, repeatCount := satSucc r.repeatCount, lastSeen := now }
  | .opened | .closed => { r with lastSeen := now }

/-- R177: the record closed for `reason` at `now`. -/
def Record.close (r : Record) (reason : CloseReason) (now : Stamp) : Record :=
  { r with
    state := .closed, closeStamp := now, closeReason := reason,
    closeTransition := some (if r.openPending then .openedAndClosed else .closed), openPending := false,
    closePending := true }

/-- The record of a code in the OPEN list. -/
def Flm.openRecord? (f : Flm) (c : FaultCode) : Option Record := f.opens.find? (·.code == c)

/-- R175, R176: a present report. -/
def Flm.takePresent (f : Flm) (now : Stamp) (c : FaultCode) (v : Int) : Flm :=
  let f := f.setPresent c true
  match f.openRecord? c with
  | some _ => { f with opens := f.opens.map fun r => if r.code == c then r.again now else r }
  | none =>
    let (slot, f) := f.takeSlot
    { f with opens := insertOpen (openedRecord slot c v now f.nextSeq) f.opens, nextSeq := f.nextSeq + 1 }

/-- R177, R178: a gone report. -/
def Flm.takeGone (f : Flm) (now : Stamp) (c : FaultCode) : Flm :=
  let f := f.setPresent c false
  match f.openRecord? c with
  | none => f
  | some r =>
    if r.state = .opened then
      if c.latching then
        { f with opens := f.opens.map fun x => if x.code == c then { x with state := .openCleared } else x }
      else
        { f with opens := f.opens.filter (·.code != c), history := f.history ++ [r.close .conditionGone now] }
    else f

/-- R179: the record of an event. -/
def eventRecord (slot : Fin 64) (c : FaultCode) (v : Int) (now : Stamp) (seq : Nat) : Record :=
  { slot := slot, code := c, state := .closed, repeatCount := 0, openStamp := now, lastSeen := now, closeStamp := now,
    value := BitVec.ofInt 32 v, closeReason := .conditionGone, closeTransition := some .openedAndClosed,
    openPending := false, closePending := true, seq := seq }

/-- R179: an event report. -/
def Flm.takeEvent (f : Flm) (now : Stamp) (c : FaultCode) (v : Int) : Flm :=
  match f.history.getLast? with
  | some r =>
    if r.code = c ∧ r.closePending then
      { f with history := f.history.dropLast ++ [{ r with repeatCount := satSucc r.repeatCount, lastSeen := now }] }
    else
      let (slot, f) := f.takeSlot
      { f with history := f.history ++ [eventRecord slot c v now f.nextSeq], nextSeq := f.nextSeq + 1 }
  | none =>
    let (slot, f) := f.takeSlot
    { f with history := f.history ++ [eventRecord slot c v now f.nextSeq], nextSeq := f.nextSeq + 1 }

/-- R172: the FLM takes a report at the time it arrives. -/
def Flm.take (f : Flm) (now : Stamp) : Report → Flm
  | .present c v => f.takePresent now c v
  | .gone c => f.takeGone now c
  | .event c v => f.takeEvent now c v

/-- A report taken by the FLM, with nothing told to any other block yet. -/
def State.quiet (s : State) (r : Report) : State := s.setFlm (s.flm.take s.stamp r)

/-- A gone report made only where the code was reported present. -/
def State.quietGone (s : State) (c : FaultCode) : State := if s.flm.holds c then s.quiet (.gone c) else s

/-! ## The effective reaction (R180) -/

/-- The severities of the parts of R180. -/
def Severity.trips (v : Severity) : Bool := v == .trip || v == .safeStop
def Severity.stopsYaw (v : Severity) : Bool := v == .yawStop || v == .safeStop

/-- R180, formed from every record in the OPEN list. -/
def Flm.reaction (f : Flm) : Reaction :=
  { trip := f.opens.any (·.severity.trips)
    yawStop := f.opens.any (·.severity.stopsYaw)
    untwistYawStop := f.opens.any fun r => r.severity.stopsYaw && r.code != .twistHardLimit
    safeStop := f.opens.any (·.severity == .safeStop)
    fMin := f.opens.foldl (fun m r => min m r.code.factor) 1000 }

/-! ## Notices (R182, R183) -/

/-- The transition a record owes a notice for, as R182 lists the candidates. -/
def Record.owed? (r : Record) : Option Transition :=
  match r.state with
  | .opened | .openCleared => if r.openPending then some .opened else none
  | .closed => if r.closePending then r.closeTransition else none

/-- R182: the candidates in the order of precedence within one severity: the OPEN list, then HISTORY. -/
def Flm.candidates (f : Flm) : List (Record × Transition) :=
  (f.opens ++ f.history).filterMap fun r => r.owed?.map fun t => (r, t)

/-- R182: the best pending notice: of the candidates of highest severity the first. -/
def Flm.bestNotice? (f : Flm) : Option (Record × Transition) :=
  f.candidates.foldl (fun best c =>
    match best with
    | none => some c
    | some b => if b.1.severity.rank < c.1.severity.rank then some c else best) none

/-- R182: the record of a notice's identity, while that notice is still pending. A slot reclaimed between the boundary and
the survival can hold a new record that owes the same transition; R182 says that the FLM hands the fields of a record that
has the transition pending, and that the SLC sends nothing after a reclamation; the model hands the new record (DESIGN
CHOICE, unsafe: log entry 39). -/
def Flm.noticeContent? (f : Flm) (slot : Fin 64) (t : Transition) : Option Record :=
  (f.candidates.find? fun c => c.1.slot == slot && c.2 == t).map Prod.fst

/-- R183: the record is the one whose notice was sent, and it still owes it: a slot reclaimed during the sending holds a
record of another opening number. -/
def Record.servedBy (r : Record) (slot : Fin 64) (t : Transition) (opening : Option Nat) : Bool :=
  r.slot == slot && r.owed? == some t && opening == some r.seq

/-- R183: the pending flag of the identity is cleared; an identity no longer pending changes nothing. -/
def Flm.noticeSent (f : Flm) (slot : Fin 64) (t : Transition) (opening : Option Nat) : Flm :=
  match t with
  | .opened =>
    { f with opens := f.opens.map fun r => if r.servedBy slot t opening then { r with openPending := false } else r }
  | .closed | .openedAndClosed =>
    { f with history := f.history.map fun r => if r.servedBy slot t opening then { r with closePending := false } else r }

/-! ## Summary, FAULT RESET, warm reset (R184, R186, R189) -/

/-- R184: the highest open severity, 255 when the OPEN list is empty. -/
def Flm.highestSeverity (f : Flm) : Nat := (f.opens.head?.map (·.severity.rank)).getD 255

/-- R184: the code of the record in the OPEN list that was opened last, 0 when the list is empty. -/
def Flm.newestCode (f : Flm) : Nat :=
  ((f.opens.foldl (fun (best : Option Record) r =>
    match best with
    | none => some r
    | some b => if b.seq < r.seq then some r else best) none).map (·.code.number)).getD 0

/-- The records FAULT RESET closes: OPEN-CLEARED, other than CONFIG_INVALID (R186). -/
def Record.resettable (r : Record) : Bool := r.state == .openCleared && r.code != .configInvalid

/-- R186, steps 2 and 3. -/
def Flm.faultReset (f : Flm) (now : Stamp) : Flm :=
  { f with
    opens := f.opens.filter (!·.resettable)
    history := f.history ++ (f.opens.filter (·.resettable)).map (·.close .faultReset now)
    reclaimedUnsent := false }

/-- R186: how many records step 2 closes. -/
def Flm.resettableCount (f : Flm) : Nat := (f.opens.filter (·.resettable)).length

/-- R189: the pool a warm reset leaves. -/
def Flm.warmReset (f : Flm) (now : Stamp) : Flm :=
  { f with
    opens := []
    history := f.history ++ f.opens.map (·.close .warmReset now)
    present := Vector.replicate 36 false }

end Sys2Proof.Machine
end

