-- ==== Sys2Proof/WellFormed.lean ====
section
/-! DEFINITION. The operands the outside world can present (the ranges of 0.5 and 0.7, the limits of R2, R3, R154, R193). -/

namespace Sys2Proof

/-- Some light in the bit time: every bit time inside a frame holds some (R1). -/
def BitTime.lit (b : BitTime) : Bool := b.first || b.second

/-- The longest frame, in bits (R3). -/
def maxFrameBits : Nat := 1592

/-- A received frame: 1 to 1592 bit times, none of them dark in both halves (R2, R3). -/
def heardWellFormed (heard : List BitTime) : Bool :=
  0 < heard.length && heard.length ≤ maxFrameBits && heard.all BitTime.lit

/-- The twist zone sensor reports whole turns −3..+3, or its valid flag is off (0.5). -/
def zoneWellFormed : Option Int → Bool
  | none => true
  | some z => -3 ≤ z && z ≤ 3

/-- A temperature reading is −400..+1500 tenths of a degree (0.7, R133). -/
def temperatureWellFormed : Option Int → Bool
  | none => true
  | some t => -400 ≤ t && t ≤ 1500

/-- The check of a command's operands; what the operand types themselves bound needs no check here. -/
def Instr.wellFormed : Instr → Bool
  | .frameDiscarded heard | .statusReceived heard | .noticeReceived heard | .replyOrRecordReceived heard => heardWellFormed heard
  | .start heard | .stop heard | .yawHold heard | .yawRelease heard | .untwist heard => heardWellFormed heard
  | .recordRequest heard | .stringCap heard | .stringStop heard | .unknownCommand heard => heardWellFormed heard
  | .faultReset heard zone => heardWellFormed heard && zoneWellFormed zone
  | .echoMismatch bit => bit.index < maxFrameBits
  | .encoderReading _ _ zone => zoneWellFormed zone
  | .temperatureReading _ _ reading => temperatureWellFormed reading
  | .comparatorTrip count => count ≤ 4094
  | .configReadComplete _ rest => 2 ≤ rest.length && rest.length ≤ 2046
  | .coldReset _ | .warmReset _ _ | .idleGap | .boundary | .arbitrationStart _ | .pulsePosition _ | .survival _ => true
  | .frameSent | .frameTooLong | .statusTimerExpiry | .duplicateTimerExpiry | .ageTimerStale _ | .ageTimerLost _ => true
  | .isolationTimerExpiry | .foreignTimerExpiry | .controlPeriod | .selectAsserted _ | .selectReleased _ => true
  | .readSetpoint _ | .readSetpointEnd _ | .writeMeasurement _ | .unknownPortType _ _ | .measurementArrival _ _ => true
  | .pauseTimerExpiry | .strobeTimerExpiry | .silenceTimerExpiry | .curveDeadline | .recoveryTimerExpiry => true
  | .overvoltageTimerExpiry | .platformHeadingReading _ _ | .vaneReading _ _ | .windSpeedReading _ _ => true
  | .vaneInvalidTimerExpiry | .yawEvaluation | .waitPowerTimerExpiry | .brakeReleasedInput _ _ => true
  | .releaseMonitorExpiry | .applyMonitorExpiry | .brakeRetryTimerExpiry | .driveReadyInput _ _ _ => true
  | .driveRunningInput _ _ _ | .driveFeedbackTimerExpiry _ | .holdTimerExpiry _ | .flowReading _ _ => true
  | .flowMonitorExpiry | .pumpRunningInput _ _ _ | .pumpFeedbackTimerExpiry _ | .coolingEvaluation => true
  | .fanRunningInput _ _ _ | .fanFeedbackTimerExpiry _ | .scanTimerExpiry | .dischargeEnd | .ceilingReached => true
  | .configMarkerReceived _ _ | .configHeaderReceived _ _ _ _ _ | .startTimerExpiry | .stopTimerExpiry => true
  | .restartDelayExpiry | .listTimerExpiry | .portClockRisingEdge _ _ | .lightSeenInTrail _ => true

end Sys2Proof
end

