-- ==== Sys2Proof/Machine/Operands.lean ====
section
/-! DEFINITION. The operand forms of the commands: received light as header and trailing bytes (R1, R3), the header code
(R22, R23), the payload CRC (R24), the payload layouts (2.6, R36), and fields of byte strings. -/

namespace Sys2Proof.Machine

/-! ## Bits and bytes -/

/-- The bits of a field, most significant first (0.7). -/
def bitsOf {n : Nat} (x : BitVec n) : List Bool := (List.range n).map fun i => x.getMsbD i

/-- The number whose bits, most significant first, are given. -/
def ofBits (bs : List Bool) : Nat := bs.foldl (fun a b => 2 * a + b.toNat) 0

/-- The parity of a list of bits: whether it holds an odd number of ones. -/
def parity (bs : List Bool) : Bool := bs.foldl (· ^^ ·) false

def bytes16 (x : BitVec 16) : List Byte := [x.extractLsb' 8 8, x.extractLsb' 0 8]
def bytes32 (x : BitVec 32) : List Byte := [x.extractLsb' 24 8, x.extractLsb' 16 8, x.extractLsb' 8 8, x.extractLsb' 0 8]

/-- The byte at offset `k`; the offsets used lie within strings whose length has been checked. -/
def u8At (bs : List Byte) (k : Nat) : Byte := bs.getD k 0
def u16At (bs : List Byte) (k : Nat) : BitVec 16 := u8At bs k ++ u8At bs (k + 1)
def u32At (bs : List Byte) (k : Nat) : BitVec 32 := u16At bs k ++ u16At bs (k + 2)

/-! ## Received light (R1, R3) -/

/-- R1: a 1 is sent as light in the first half, a 0 as light in the second. -/
def sentBit (b : Bool) : BitTime := { first := b, second := !b }

/-- R1: a bit time is a 1 when its first half holds light, and a 0 when only its second half does. -/
def heardBits (heard : List BitTime) : List Bool := heard.map (·.first)

/-- Groups of eight bits, first bit most significant; a final group of fewer than eight is one byte whose received bits
are its first ones and whose other bits are those of `fill`. -/
def groupBytes (fill : Byte) : List Bool → List Byte
  | b0 :: b1 :: b2 :: b3 :: b4 :: b5 :: b6 :: b7 :: rest =>
    BitVec.ofNat 8 (ofBits [b0, b1, b2, b3, b4, b5, b6, b7]) :: groupBytes fill rest
  | [] => []
  | part =>
    let missing := 8 - part.length
    [BitVec.ofNat 8 (ofBits part) <<< missing ||| (fill &&& BitVec.ofNat 8 (2 ^ missing - 1))]

/-- A received frame: its 40-bit header and its trailing bits (R3). -/
def headerBits (bits : List Bool) : List Bool := bits.take 40
def trailingBits (bits : List Bool) : List Bool := bits.drop 40

/-- The final group of trailing bits is cut inside a byte. -/
def hasPartialByte (bits : List Bool) : Bool := (trailingBits bits).length % 8 != 0

/-! ## The header code (R22, R23) -/

/-- The positions of c1, c2, c4, c8, c16, c32. -/
def checkPositions : List Nat := [1, 2, 4, 8, 16, 32]

/-- The positions of d1..d32: 3, 5..7, 9..15, 17..31, 33..38. -/
def dataPositions : List Nat := (List.range' 1 38).filter fun p => !checkPositions.contains p

/-- The 32 data bits of a header in transmission order (2.6.1). -/
def Header.dataBits (h : Header) : List Bool := bitsOf (h.kind ++ h.sender ++ h.target ++ h.priority ++ h.field)

/-- The header whose data bits are given. -/
def headerOf (d : List Bool) : Header :=
  { kind := BitVec.ofNat 4 (ofBits (d.take 4))
    sender := BitVec.ofNat 4 (ofBits ((d.drop 4).take 4))
    target := BitVec.ofNat 4 (ofBits ((d.drop 8).take 4))
    priority := BitVec.ofNat 4 (ofBits ((d.drop 12).take 4))
    field := BitVec.ofNat 16 (ofBits ((d.drop 16).take 16)) }

/-- R22: check bit c(2^k) over the data bits whose position has bit k set, so that with it their ones are even. -/
def checkBit (d : List Bool) (k : Nat) : Bool :=
  parity (((dataPositions.zip d).filter fun pb => pb.1.testBit k).map Prod.snd)

def checkBits (d : List Bool) : List Bool := (List.range 6).map (checkBit d)

/-- R22: the 40 bits of a header on the wire: data, check bits, overall bit, pad. -/
def encodeHeader (h : Header) : List Bool :=
  let d := h.dataBits
  let c := checkBits d
  d ++ c ++ [parity (d ++ c), false]

/-- R23: the exclusive-or of the indices of all positions that hold a one. -/
def syndrome (d c : List Bool) : Nat :=
  (dataPositions.zip d ++ checkPositions.zip c).foldl (fun acc pb => if pb.2 then acc ^^^ pb.1 else acc) 0

/-- What R23 makes of a received header. -/
inductive HeaderCheck where
  | clean (header : Header)
  | corrected (header : Header)
  | uncorrectable
  deriving DecidableEq, Repr

/-- The data bits with the one at the position `p` inverted; a check position leaves them as received. -/
def invertAt (p : Nat) (d : List Bool) : List Bool := (dataPositions.zip d).map fun pb => if pb.1 = p then !pb.2 else pb.2

/-- R23. -/
def decodeHeader (bits : List Bool) : HeaderCheck :=
  let d := bits.take 32
  let c := (bits.drop 32).take 6
  let syn := syndrome d c
  let bad := parity (d ++ c ++ [bits.getD 38 false])
  if syn = 0 then (if bad then .corrected (headerOf d) else .clean (headerOf d))
  else if bad ∧ syn ≤ 38 then .corrected (headerOf (invertAt syn d))
  else .uncorrectable

/-! ## The CRC (R24) -/

/-- One bit into the register: generator x^16 + x^15 + x^2 + 1. -/
def crcBit (r : BitVec 16) (b : Bool) : BitVec 16 := if r.msb ^^ b then (r <<< 1) ^^^ 0x8005#16 else r <<< 1

def crcByte (r : BitVec 16) (x : Byte) : BitVec 16 := (bitsOf x).foldl crcBit r

/-- R24: start 0xFFFF, most significant bit first, no reflection, no final inversion. -/
def crc16 (bs : List Byte) : BitVec 16 := bs.foldl crcByte 0xFFFF#16

/-- R21: the bits of a long frame: header, payload, CRC. -/
def frameBits (h : Header) (payload : List Byte) : List Bool :=
  encodeHeader h ++ (payload ++ bytes16 (crc16 payload)).flatMap bitsOf

/-! ## Payloads (2.6) -/

/-- The 36 bytes of 2.6.2. -/
def StatusPayload.bytes (p : StatusPayload) : List Byte :=
  [p.opState, p.flags] ++ bytes16 p.ratedPower ++ bytes16 p.demand ++ bytes16 p.appliedShare ++ bytes16 p.thermalLimit ++
    bytes16 p.actualExport ++ bytes32 p.dSeen ++ bytes32 p.cLive ++ bytes16 p.heading ++ bytes16 p.windDirection ++
    bytes16 p.windSpeed ++ bytes16 p.twist ++ bytes16 p.steeringOffset ++
    [p.openRecords, p.highestSeverity, p.newestCode, p.summaryFlags] ++ bytes16 p.linkErrors

/-- The fields of a STATUS payload, as received. -/
def readStatus (bs : List Byte) : StatusPayload :=
  { opState := u8At bs 0, flags := u8At bs 1, ratedPower := u16At bs 2, demand := u16At bs 4, appliedShare := u16At bs 6,
    thermalLimit := u16At bs 8, actualExport := u16At bs 10, dSeen := u32At bs 12, cLive := u32At bs 16,
    heading := u16At bs 20, windDirection := u16At bs 22, windSpeed := u16At bs 24, twist := u16At bs 26,
    steeringOffset := u16At bs 28, openRecords := u8At bs 30, highestSeverity := u8At bs 31, newestCode := u8At bs 32,
    summaryFlags := u8At bs 33, linkErrors := u16At bs 34 }

/-- The 18 bytes of 2.6.3. -/
def NoticePayload.bytes (p : NoticePayload) : List Byte :=
  [p.slotIndex, p.code, p.severity, p.transition, p.closeReason, p.repeatCount] ++ bytes32 p.openStamp ++
    bytes32 p.closeStamp ++ bytes32 p.value

/-- The fields of a NOTICE payload, as received. -/
def readNotice (bs : List Byte) : NoticePayload :=
  { slotIndex := u8At bs 0, code := u8At bs 1, severity := u8At bs 2, transition := u8At bs 3, closeReason := u8At bs 4,
    repeatCount := u8At bs 5, openStamp := u32At bs 6, closeStamp := u32At bs 10, value := u32At bs 14 }

/-- The 23 bytes of 2.6.5. -/
def RecordPayload.bytes (p : RecordPayload) : List Byte := p.notice.bytes ++ [p.recordState] ++ bytes32 p.lastSeen

/-- The codes of 2.6.3 and 2.6.5. -/
def Transition.number : Transition → Nat
  | .opened => 0 | .closed => 1 | .openedAndClosed => 2

def CloseReason.number : CloseReason → Nat
  | .notClosed => 0 | .conditionGone => 1 | .faultReset => 2 | .warmReset => 3

def RecordState.number : RecordState → Nat
  | .opened => 0 | .openCleared => 1 | .closed => 2

/-- The codes of 2.6.4. -/
def Result.number : Result → Nat
  | .accepted => 0 | .refusedState => 1 | .notPermitted => 2 | .badArgument => 3 | .unknownCommand => 4 | .busy => 5

/-- R36: the fields of a record as a notice carries them, with the transition to be announced. -/
def Record.payload (r : Record) (t : Transition) : NoticePayload :=
  { slotIndex := BitVec.ofNat 8 r.slot.val, code := BitVec.ofNat 8 r.code.number,
    severity := BitVec.ofNat 8 r.severity.rank, transition := BitVec.ofNat 8 t.number,
    closeReason := BitVec.ofNat 8 (if r.state = .closed then r.closeReason.number else 0),
    repeatCount := BitVec.ofNat 8 r.repeatCount, openStamp := r.openStamp,
    closeStamp := if r.state = .closed then r.closeStamp else 0, value := r.value }

/-- R38, R185: the copy of a record that RECORD REQUEST takes. -/
def Record.copy (r : Record) : RecordPayload :=
  { notice := r.payload (if r.state = .closed then r.closeTransition.getD .closed else .opened),
    recordState := BitVec.ofNat 8 r.state.number, lastSeen := r.lastSeen }

/-- The 6 bytes of 2.6.4, with the accumulator of the survival (R9, R37). -/
def ReplyContent.bytes (r : ReplyContent) (errors : Half) : List Byte :=
  [r.code, BitVec.ofNat 8 r.result.number] ++ bytes16 r.data ++ bytes16 errors

/-! ## Received frames -/

/-- What the end of a received frame turns out to be, before any check beyond the header and kind checks (R3, R23, R26). -/
inductive RxFrame where
  | tooShort
  | uncorrectable
  | unknownKind (corrected : Bool)
  | known (header : Header) (corrected : Bool)
  deriving DecidableEq, Repr

/-- The kind check of R26 on an accepted header. -/
def kindCheck (h : Header) (corrected : Bool) : RxFrame :=
  if h.kind.toNat ≤ 4 then .known h corrected else .unknownKind corrected

/-- R3, R23 and R26 on the bits of a frame. -/
def classify (bits : List Bool) : RxFrame :=
  if bits.length < 40 then .tooShort
  else
    match decodeHeader (headerBits bits) with
    | .uncorrectable => .uncorrectable
    | .clean h => kindCheck h false
    | .corrected h => kindCheck h true

/-- The command code and argument of a COMMAND (2.6.1). -/
def Header.commandCode (h : Header) : Nat := h.field.toNat / 256
def Header.argument (h : Header) : Nat := h.field.toNat % 256

end Sys2Proof.Machine
end

