-- ==== Sys2Proof/Machine/Flags.lean ====
section
/-! DEFINITION. The flags the part keeps or sends: the link error accumulator (R33, R34), the status flags and summary
flags (2.6.2), the setpoint flags (5.3.1). -/

namespace Sys2Proof.Machine

/-- The bits of the link error accumulator (R33). -/
inductive LinkError where
  | headerCorrected | headerUncorrectable | payloadCrc | unknownKind | foreignSender | duplicateStation
  | commandOverrun | notPermitted | lengthError | echoMismatch | agedToCap
  deriving DecidableEq, Repr

def LinkError.bit : LinkError → Nat
  | .headerCorrected => 0 | .headerUncorrectable => 1 | .payloadCrc => 2 | .unknownKind => 3 | .foreignSender => 4
  | .duplicateStation => 5 | .commandOverrun => 6 | .notPermitted => 7 | .lengthError => 8 | .echoMismatch => 9
  | .agedToCap => 10

/-- The accumulator with one bit set. -/
def LinkError.mask (e : LinkError) : Half := BitVec.twoPow 16 e.bit

/-- R33, R34: the event sets its bit, and is noted as taken since the REPLY's copy. -/
def Slc.flag (x : Slc) (e : LinkError) : Slc :=
  { x with errors := x.errors ||| e.mask, errorsSinceCopy := x.errorsSinceCopy ||| e.mask }

def State.flag (s : State) (e : LinkError) : State := s.setSlc (s.slc.flag e)

/-- A bit is set when its condition holds. -/
def State.flagIf (s : State) (b : Bool) (e : LinkError) : State := if b then s.flag e else s

/-- A byte of flags, bit 0 first. -/
def flagByte (bs : List Bool) : Byte := BitVec.ofNat 8 (ofBits bs.reverse)

/-- 2.6.2: ride-through, isolated, yaw moving, derated, steering active. -/
def statusFlags (rideThrough isolated moving derated steering : Bool) : Byte :=
  flagByte [rideThrough, isolated, moving, derated, steering]

/-- 2.6.2: reclaimed-unsent, configuration invalid. -/
def summaryFlags (reclaimedUnsent configInvalid : Bool) : Byte := flagByte [reclaimedUnsent, configInvalid]

/-- 5.3.1: enable, ride-through, reactive priority. -/
def SetpointBlock.flags (b : SetpointBlock) : Byte := flagByte [b.enable, b.rideThrough, b.reactivePriority]

/-- 5.3.1: the six bytes of a setpoint block. -/
def SetpointBlock.bytes (b : SetpointBlock) : List Byte :=
  [b.counter, b.flags] ++ bytes16 b.exportLimit ++ bytes16 b.reactive

/-- 5.3.2: the measurement block of ten bytes. -/
def readMeasurement (bs : List Byte) : Measurement :=
  { available := u16At bs 0, actual := u16At bs 2, voltage := u16At bs 4, dcLink := u16At bs 6, faultWord := u16At bs 8 }

/-- The codes of the operating states in STATUS (2.6.2). -/
def OpState.number : OpState → Nat
  | .loading => 0 | .unconfigured => 1 | .standby => 2 | .starting => 3 | .producing => 4 | .rideThrough => 5
  | .stopping => 6 | .tripped => 7 | .safeStop => 8

end Sys2Proof.Machine
end

