-- ==== Sys2Proof/Machine/Setpoint.lean ====
section
/-! DEFINITION. The setpoint buffers and the swap (5.4, 5.5), the reactive demand (R102), and the SCU's extra block (R80). -/

namespace Sys2Proof.Machine

/-- The grid voltage of the last arrival. -/
def Cvp.voltage (c : Cvp) : Nat := c.measurement.voltage.toNat

/-- R102: the reactive demand q. -/
def Cvp.reactive (c : Cvp) : Nat := if c.rideThrough ∧ c.voltage < 900 then min 1000 (2 * (900 - c.voltage)) else 0

/-- A read is in progress: the transaction is READ, or PAUSED from READ (5.2). -/
def Cvp.readInProgress (c : Cvp) : Bool :=
  match c.port with
  | .read _ | .paused .read _ => true
  | .idle | .typeByte | .write _ | .ignore | .done | .paused .write _ => false

/-- R93: at a swap the strobe line goes high and its timer starts anew, by the mode. -/
def Cvp.raiseStrobe (now : Clocks) (c : Cvp) : Cvp :=
  match c.strobeMode with
  | .off => { c with strobeLine := false, strobeDue := none }
  | .pulse => { c with strobeLine := true, strobeDue := some (now + us 100) }
  | .window => { c with strobeLine := true, strobeDue := some (now + ms 16) }

/-- R92: the new front block. -/
def Cvp.nextFront (c : Cvp) : SetpointBlock :=
  { counter := c.front.counter + 1, enable := c.backEnable, rideThrough := c.rideThrough,
    reactivePriority := c.rideThrough && 0 < c.reactive, exportLimit := BitVec.ofNat 16 c.backLimit,
    reactive := BitVec.ofNat 16 c.reactive }

/-- R92, R93: a swap. -/
def Cvp.swap (now : Clocks) (c : Cvp) : Cvp :=
  Cvp.raiseStrobe now { c with front := c.nextFront, swapPending := false }

/-- R91: a block written into the back buffer, and the swap it asks for. -/
def Cvp.writeBlock (now : Clocks) (enable : Bool) (limit : Nat) (c : Cvp) : Cvp :=
  let c := { c with backEnable := enable, backLimit := limit }
  if c.readInProgress then { c with swapPending := true } else c.swap now

/-- R91: the swap owed when a read in progress ends. -/
def Cvp.pendingSwap (now : Clocks) (c : Cvp) : Cvp := if c.swapPending then c.swap now else c

/-- R81: the SCU hands the CVP a block. -/
def State.handBlock (s : State) (enable : Bool) (limit : Nat) : State := s.setCvp (s.cvp.writeBlock s.clock enable limit)

/-- R80: the extra block, with enable off and export limit 0; it sets the SCU's E_lim and enable. -/
def State.extraBlock (s : State) : State := (s.setScu { s.scu with eLim := 0, enable := false }).handBlock false 0

/-- R199: the OSC turns the converter enable off; a turn-off makes the extra block of R80. Where the enable is off already,
as in STANDBY and TRIPPED when safe stop comes to hold, R207 says that the OSC turns it off and R80 hands the block
whenever it does so; the model hands none there (DEDUCED, unsafe: log entry 38). -/
def State.enableOff (s : State) : State :=
  if s.osc.enable then (s.setOsc { s.osc with enable := false }).extraBlock else s

end Sys2Proof.Machine
end

