-- ==== Sys2Proof/Machine/PowerYaw.lean ====
section
/-! DEFINITION. The auxiliary power arbiter (chapter 8) with the moves it makes in its two requesters: the fans of the CLC
(7.5) and the yaw state machine of the YWC (6.5, 6.6). A report made here never makes trip, yaw stop or safe stop come
to hold or cease, so it is taken by the FLM alone (`State.quiet`). -/

namespace Sys2Proof.Machine

/-! ## Budget and loads (R160) -/

/-- The budget in force. -/
def Apa.inForce (a : Apa) : Nat := if a.rideThrough then a.figures.budgetRt else a.figures.budget

/-- The granted total. -/
def Apa.total (a : Apa) : Nat :=
  a.figures.pumpLoad + a.figures.fanLoad * a.fansGranted + a.figures.yawLoad * a.yawGranted

/-- Free power; negative while the total exceeds the budget in force. -/
def Apa.free (a : Apa) : Int := (a.inForce : Int) - (a.total : Int)

/-! ## Fans (R142, R144) -/

/-- A fan's run output and running input disagree, and the fan is watched (R143). -/
def Fan.disagrees (f : Fan) : Bool := !f.failed && f.runOut != f.runIn

/-- A fan with its outputs, input or mark changed, and its feedback timer following (R143). -/
def Fan.change (now : Clocks) (old new : Fan) : Fan :=
  { new with feedbackDue := monitor now (ms 2000) old.disagrees new.disagrees old.feedbackDue }

/-- How many fans are usable. -/
def Clc.usableFans (c : Clc) : Nat := (c.fans.toList.filter (!·.failed)).length

/-- The lowest-numbered usable fan that is not running. -/
def Clc.fanToStart (c : Clc) : Option (Fin 4) := lowest? fun f => !c.fans[f].failed && !c.fans[f].runOut

/-- The highest-numbered running fan. -/
def Clc.fanToStop (c : Clc) : Option (Fin 4) := highest? fun f => c.fans[f].runOut

/-- A fan's run output turned on or off. -/
def Clc.setFanOut (now : Clocks) (c : Clc) (f : Fin 4) (on : Bool) : Clc :=
  { c with fans := update c.fans f fun x => x.change now { x with runOut := on } }

/-- R144 and R142: the highest-numbered running fan is turned off. -/
def State.stopFan (s : State) : State :=
  match s.clc.fanToStop with
  | some f => s.setClc (s.clc.setFanOut s.clock f false)
  | none => s

/-! ## Cooling override (R149, R162) -/

/-- R149: the held T_conv_out, or 1500 while channel 2 is OUT. -/
def Clc.overrideTemp (c : Clc) : Int := if c.convOut.validity = .out then 1500 else c.convOut.held

/-- R162: cooling override holds. -/
def State.coolingOverride (s : State) : Bool := s.apa.fanRequest && 580 ≤ s.clc.overrideTemp

/-- R162: the yaw request takes the first place. -/
def State.yawPrecedes (s : State) : Bool := s.apa.yawRequest == some true && !s.coolingOverride

/-! ## Drives and brake (R117, R121 to R124) -/

/-- The YWC with new enables and running inputs, and the feedback timers following them (R124). -/
def Ywc.setDrives (now : Clocks) (y : Ywc) (enables running : Vector Bool 6) : Ywc :=
  { y with
    enables := enables, running := running
    feedbackDue := Vector.ofFn fun d =>
      monitor now (ms 2000) (y.enables[d] != y.running[d]) (enables[d] != running[d]) y.feedbackDue[d] }

/-- The YWC with a new brake release output and brake released input, and the two monitors following them (R122, R123). -/
def Ywc.setBrake (now : Clocks) (y : Ywc) (out inp : Bool) : Ywc :=
  { y with
    releaseOut := out, brakeIn := inp
    releaseDue := monitor now (ms 2000) (y.releaseOut && !y.brakeIn) (out && !inp) y.releaseDue
    applyDue := monitor now (ms 2000) (!y.releaseOut && y.brakeIn) (!out && inp) y.applyDue }

/-- R124: a drive is usable while its ready input is on and it is not marked. -/
def Ywc.usable (y : Ywc) : Vector Bool 6 := Vector.ofFn fun d => y.ready[d] && !y.marked[d]

/-- The count of usable drives. -/
def Ywc.usableCount (y : Ywc) : Nat := countSet y.usable

/-- R117: the lowest-numbered usable drives, at most `k` of them. -/
def selectDrives (usable : Vector Bool 6) (k : Nat) : Vector Bool 6 :=
  Vector.ofFn fun d => usable[d] && (usable.toList.take d.val).count true < k

/-- R117: the enables of the selection under the grant `k`. -/
def Ywc.selectUnder (now : Clocks) (k : Nat) (y : Ywc) : Ywc := y.setDrives now (selectDrives y.usable k) y.running

/-- R109: the window cleared. -/
def Ywc.clearWindow (y : Ywc) : Ywc := { y with window := [], grossCount := 0, bypass := false, urgent := false }

/-- R117, R120: entry to MOVING under the grant `k`. -/
def Ywc.enterMoving (now : Clocks) (k : Nat) (y : Ywc) : Ywc :=
  Ywc.selectUnder now k
    { y with
      state := .moving, stallCount := 0, stallRef := y.twist
      direction := (y.move.map (·.direction)).getD y.direction }

/-- R116: entry to BRAKE_RELEASE, and on to MOVING where the brake released input is already on. -/
def Ywc.enterBrakeRelease (now : Clocks) (k : Nat) (y : Ywc) : Ywc :=
  let y := Ywc.setBrake now { y with state := .brakeRelease } true y.brakeIn
  if y.brakeIn then y.enterMoving now k else y

/-! ## Granting (R162 to R164) -/

/-- R163: the grant of the fan request. Where no usable fan is left to start, the grant is released at once (R142),
and the examination goes on with free power as it was (DEDUCED, unsafe: log entry 30). -/
def State.grantFan (s : State) : State :=
  let s := s.setApa { s.apa with fanRequest := false }
  match s.clc.fanToStart with
  | some f => (s.setApa { s.apa with fansGranted := s.apa.fansGranted + 1 }).setClc (s.clc.setFanOut s.clock f true)
  | none => s

/-- R163: the fan request is tried. -/
def State.tryFan (s : State) : State :=
  if s.apa.fanRequest ∧ (s.apa.figures.fanLoad : Int) ≤ s.apa.free ∧ !s.yawPrecedes then s.grantFan else s

/-- R164, R115: the yaw request granted with `k` motors. -/
def State.grantYaw (s : State) (k : Nat) : State :=
  let s := s.setApa { s.apa with yawGranted := k, yawRequest := none, overrideSent := false }
  let s := s.quietGone .yawWaitPower
  s.setYwc ({ s.ywc with waitDue := none }.enterBrakeRelease s.clock k)

/-- R164: how many motors the request would get. -/
def State.yawOffer (s : State) : Nat := min 6 (min s.ywc.usableCount (s.apa.free.toNat / s.apa.figures.yawLoad))

/-- R164: the yaw request is tried. -/
def State.tryYaw (s : State) : State :=
  if s.apa.yawRequest.isSome ∧ 4 ≤ s.yawOffer then s.grantYaw s.yawOffer else s

/-- R162: the requests are tried in the order of precedence. -/
def State.tryRequests (s : State) : State := if s.yawPrecedes then s.tryYaw.tryFan else s.tryFan.tryYaw

/-! ## Shedding (R168) -/

/-- R168: fan grants taken back one at a time, at most `n`, while the total exceeds the budget in force. -/
def State.takeBackFans (s : State) : Nat → State
  | 0 => s
  | n + 1 =>
    if 0 < s.apa.fansGranted ∧ s.apa.inForce < s.apa.total then
      (s.setApa { s.apa with fansGranted := s.apa.fansGranted - 1 }).stopFan.takeBackFans n
    else s

/-- R168: shedding. -/
def State.shed (s : State) : State :=
  let s := s.takeBackFans s.apa.fansGranted
  s.setApa { s.apa with shedPending := false }

/-! ## The end of a move (R115, R119, R121) -/

/-- R121, R109, R112, R120, R122: the return of the yaw state to IDLE. -/
def State.yawToIdle (s : State) : State :=
  let s := s.setYwc { s.ywc.clearWindow with state := .idle, move := none, offsetInUse := 0, steering := false, waitDue := none }
  let s := s.quietGone .yawStall
  if s.flm.holds .brakeReleaseFail ∧ s.ywc.retryDue.isNone then
    s.setYwc { s.ywc with retryDue := some (s.after (ms 60000)) }
  else s

/-- R165: the release of the yaw grant, the shedding pending, the examination. No yaw motor is granted any more, so
the override test of R166 finds nothing to stop. -/
def State.releaseYaw (s : State) : State :=
  let s := s.setApa { s.apa with yawGranted := 0, overrideSent := false }
  let s := if s.apa.shedPending then s.shed else s
  s.tryRequests

/-- R121: the grant is released and the YWC returns to IDLE. -/
def State.endMove (s : State) : State := s.releaseYaw.yawToIdle

/-- R121: entry to BRAKE_APPLY, and on to IDLE where the brake released input is already off. -/
def State.enterBrakeApply (s : State) : State :=
  let y := { s.ywc with state := .brakeApply }
  let y := y.setDrives s.clock (Vector.replicate 6 false) y.running
  let y := y.setBrake s.clock false y.brakeIn
  let s := s.setYwc y
  if y.brakeIn then s else s.endMove

/-- R115: a waiting yaw request withdrawn, and the YWC back in IDLE. -/
def State.withdrawYaw (s : State) : State :=
  let s := s.setApa { s.apa with yawRequest := none }
  let s := s.tryRequests
  (s.quietGone .yawWaitPower).yawToIdle

/-- R119: a stop cause. `fromRequest` says whether it applies in REQUEST_POWER; the APA's own stop request does not. -/
def State.yawStopCause (s : State) (fromRequest : Bool) : State :=
  match s.ywc.state with
  | .requestPower => if fromRequest then s.withdrawYaw else s
  | .brakeRelease | .moving => s.enterBrakeApply
  | .idle | .brakeApply => s

/-! ## The examination with its override test (R162, R166) -/

/-- R166: the stop request of cooling override. -/
def State.overrideStop (s : State) : State :=
  let s := s.setApa { s.apa with overrideSent := true }
  let s := s.quiet (.event .auxOverride s.clc.overrideTemp)
  s.yawStopCause false

/-- R162, R166: an examination of the wait list. -/
def State.examine (s : State) : State :=
  let s := s.tryRequests
  if s.coolingOverride ∧ 0 < s.apa.yawGranted ∧ !s.apa.overrideSent then s.overrideStop else s

/-- R165, R142: one fan grant released by the CLC with the fan turned off, then the examination. -/
def State.releaseFan (s : State) : State :=
  ((s.setApa { s.apa with fansGranted := s.apa.fansGranted - 1 }).stopFan).examine

/-- R142: `n` fan grants released one after the other. -/
def State.releaseFans (s : State) : Nat → State
  | 0 => s
  | n + 1 => s.releaseFan.releaseFans n

/-! ## Ride-through (R167, R169) -/

/-- R167: ride-through entry at the APA. -/
def State.apaEnterRideThrough (s : State) : State :=
  let s := s.setApa { s.apa with rideThrough := true }
  if 0 < s.apa.yawGranted then (s.setApa { s.apa with shedPending := true }).yawStopCause false else s.shed

/-- R169: ride-through exit at the APA. -/
def State.apaLeaveRideThrough (s : State) : State :=
  (s.setApa { s.apa with rideThrough := false, shedPending := false }).examine

end Sys2Proof.Machine
end

