-- ==== Sys2Proof/Machine/Report.lean ====
section
/-! DEFINITION. The operating state controller's moves (10.6 to 10.8), and a report with what the FLM then tells the YWC
and the OSC (R181). -/

namespace Sys2Proof.Machine

/-! ## Start conditions (R201) -/

/-- R149: pump delivering flow. -/
def Clc.delivering (c : Clc) : Bool :=
  c.pumps.toList.any (fun p => p.state == .duty && p.runIn) && c.minFlowInForce ≤ c.flow

/-- The three start conditions of R201. -/
def State.startConditions (s : State) : Bool :=
  !s.flm.reaction.trip && s.clc.delivering && s.cvp.silenceDue.isSome && s.osc.arrivalSeen

/-- R201: in STANDBY, with the run command set and the start conditions holding, the OSC enters STARTING. -/
def State.testStart (s : State) : State :=
  if s.osc.state = .standby ∧ s.osc.runCommand ∧ s.startConditions then
    s.setOsc { s.osc with state := .starting, enable := true, startDue := some (s.after (ms 10000)) }
  else s

/-- Entry to STANDBY, with the test R201 makes there. -/
def State.enterStandby (s : State) : State :=
  (s.setOsc { s.osc with state := .standby, startDue := none, stopDue := none, restartDue := none }).testStart

/-! ## Trips (R204 to R206) -/

/-- R206: when the list timer is due for a list whose oldest stamp is `oldest` (DEDUCED, unsafe: log entry 19). -/
def listDueFor (now : Clocks) (oldest : Stamp) : Clocks :=
  ms (now / Config.clocksPerMs + (3600000 - (stampOf now - oldest).toNat))

/-- R206, steps 1 to 3. Two entries within one millisecond leave two equal stamps, as step 3 says; the table of the OSC's
state has the list without duplicates (DESIGN CHOICE, unsafe: log entry 40). -/
def enterTrip (list : List Stamp) (now : Stamp) : List Stamp :=
  let kept := list.dropWhile fun st => 3600000 ≤ (now - st).toNat
  (if kept.length = 4 then kept.drop 1 else kept) ++ [now]

/-- R206: the list with the time of this entry, its timer, and the report of RESTART_LIMIT. That report can make trip
come to hold, which in TRIPPED stops the restart delay (R204, R205; DEDUCED, unsafe: log entry 31). -/
def State.noteTrip (s : State) : State :=
  let list := enterTrip s.osc.tripList s.stamp
  let s := s.setOsc { s.osc with tripList := list, listDue := list.head?.map (listDueFor s.clock) }
  match list with
  | oldest :: _ =>
    if list.length = 4 then
      let s := s.quiet (.present .restartLimit oldest.toNat)
      s.setOsc { s.osc with restartDue := none }
    else s
  | [] => s

/-- R204, R201: entry to TRIPPED. -/
def State.enterTripped (s : State) : State :=
  let s := s.enableOff
  let s := s.setOsc { s.osc with
    state := .tripped, startDue := none, stopDue := none
    restartDue := if s.flm.reaction.trip then none else some (s.after (ms 60000)) }
  let s := s.noteTrip
  s.quietGone .startTimeout

/-- R204: trip comes to hold. A producing state with safe stop holding too waits for R207 (DEDUCED, unsafe: log entry 15). -/
def State.oscTripHolds (s : State) : State :=
  match s.osc.state with
  | .starting | .producing | .rideThrough | .stopping => if s.flm.reaction.safeStop then s else s.enterTripped
  | .tripped => s.setOsc { s.osc with restartDue := none }
  | .standby | .safeStop | .loading | .unconfigured => s

/-- R205, R201: trip ceases to hold. -/
def State.oscTripCeases (s : State) : State :=
  match s.osc.state with
  | .tripped => s.setOsc { s.osc with restartDue := some (s.after (ms 60000)) }
  | .standby => s.testStart
  | .starting | .producing | .rideThrough | .stopping | .safeStop | .loading | .unconfigured => s

/-- R207: safe stop comes to hold. -/
def State.oscSafeStopHolds (s : State) : State :=
  match s.osc.state with
  | .standby | .tripped | .starting | .producing | .rideThrough | .stopping =>
    let s := s.enableOff
    s.setOsc { s.osc with state := .safeStop, startDue := none, stopDue := none, restartDue := none }
  | .loading | .unconfigured | .safeStop => s

/-! ## Reports -/

/-- R181: yaw stop comes to hold for the move in progress: the untwist yaw stop for an untwist move, else the yaw stop. -/
def yawStopArises (before after : Reaction) (m : Option Move) : Bool :=
  if (m.map (·.untwist)).getD false then after.untwistYawStop && !before.untwistYawStop
  else after.yawStop && !before.yawStop

/-- R181: what the FLM tells the YWC and the OSC when the reaction has changed from `before`. The YWC is told first
(DESIGN CHOICE, unsafe: log entry 8). -/
def State.tell (s : State) (before : Reaction) : State :=
  let after := s.flm.reaction
  let s := if yawStopArises before after s.ywc.move then s.yawStopCause true else s
  let s := if after.trip && !before.trip then s.oscTripHolds else s
  let s := if after.safeStop && !before.safeStop then s.oscSafeStopHolds else s
  if before.trip && !after.trip then s.oscTripCeases else s

/-- A report taken by the FLM, and what it then tells. -/
def State.report (s : State) (r : Report) : State := (s.quiet r).tell s.flm.reaction

/-- A gone report made only where the code was reported present. -/
def State.reportGone (s : State) (c : FaultCode) : State := if s.flm.holds c then s.report (.gone c) else s

/-- A code whose value is a bitmap that changes from `before` to `after` (R57, R60, R157). -/
def State.reportBitmap (s : State) (c : FaultCode) (before after : Nat) : State :=
  if before = after then s
  else if after = 0 then s.report (.gone c)
  else s.report (.present c after)

/-- What `act` does, and then the test of the start conditions where pump delivering flow has changed (R201). -/
def State.watchFlow (s : State) (act : State → State) : State :=
  let t := act s
  if s.clc.delivering = t.clc.delivering then t else t.testStart

end Sys2Proof.Machine
end

