-- ==== Sys2Proof/Machine/Link.lean ====
section
/-! DEFINITION. The string link controller's line, arbitration, sending and status timer (chapter 1, R21, R33 to R37):
the operations, then the meanings of the commands IDLE_GAP to FRAME_TOO_LONG, LIGHT_SEEN_IN_TRAIL,
STATUS_TIMER_EXPIRY and DUPLICATE_TIMER_EXPIRY. -/

namespace Sys2Proof.Machine

/-! ## Priorities and counts (R4, R5) -/

/-- R4: the base priority of a NOTICE for a code. -/
def FaultCode.noticeBase (c : FaultCode) : Nat := if c.severity.trips || c == .stringCableHot then 13 else 7

/-- R5: the effective priority of a frame. -/
def effectivePriority (base loss : Nat) : Nat := min 14 (base + loss / 4)

/-- R4: the base priority of the frame a source holds; the notice register's follows from its code. -/
def Slc.base (x : Slc) : Source → Nat
  | .status => 9
  | .reply => 11
  | .record => 4
  | .notice => (x.notice.map (·.code.noticeBase)).getD 0

/-- The loss count of the frame a source holds. -/
def Slc.loss (x : Slc) : Source → Nat
  | .status => (x.statusSlot.map (·.loss)).getD 0
  | .reply => (x.replySlot.map (·.loss)).getD 0
  | .record => (x.recordSlot.map (·.loss)).getD 0
  | .notice => (x.notice.map (·.loss)).getD 0

/-- The echo mismatch count of the frame a source holds. -/
def Slc.echo (x : Slc) : Source → Nat
  | .status => (x.statusSlot.map (·.echo)).getD 0
  | .reply => (x.replySlot.map (·.echo)).getD 0
  | .record => (x.recordSlot.map (·.echo)).getD 0
  | .notice => (x.notice.map (·.echo)).getD 0

/-- The source holds a frame. -/
def Slc.full (x : Slc) : Source → Bool
  | .status => x.statusSlot.isSome
  | .reply => x.replySlot.isSome
  | .record => x.recordSlot.isSome
  | .notice => x.notice.isSome

/-- A source's frame with its two counts changed. -/
def Slc.setCounts (x : Slc) (src : Source) (loss echo : Nat) : Slc :=
  match src with
  | .status => { x with statusSlot := x.statusSlot.map fun p => { p with loss := loss, echo := echo } }
  | .reply => { x with replySlot := x.replySlot.map fun p => { p with loss := loss, echo := echo } }
  | .record => { x with recordSlot := x.recordSlot.map fun p => { p with loss := loss, echo := echo } }
  | .notice => { x with notice := x.notice.map fun p => { p with loss := loss, echo := echo } }

/-- R5: the effective priority of a source's frame. -/
def Slc.priority (x : Slc) (src : Source) : Nat := effectivePriority (x.base src) (x.loss src)

/-! ## The boundary (R18, R19) -/

/-- R18: the notice register takes the FLM's answer. -/
def Slc.takeOffer (x : Slc) (best : Option (Record × Transition)) : Slc :=
  match best with
  | none => { x with notice := none }
  | some (r, t) =>
    match x.notice with
    | some n =>
      if n.slot = r.slot ∧ n.transition = t then { x with notice := some { n with code := r.code } }
      else { x with notice := some { slot := r.slot, transition := t, code := r.code, loss := 0, echo := 0 } }
    | none => { x with notice := some { slot := r.slot, transition := t, code := r.code, loss := 0, echo := 0 } }

/-- R19: the order among candidates of equal effective priority. -/
def sourceOrder : List Source := [.reply, .status, .notice, .record]

/-- R19: the candidate of highest effective priority, the first of them in the order. -/
def Slc.choose (x : Slc) : Option Source :=
  (sourceOrder.filter x.full).foldl (fun best src =>
    match best with
    | none => some src
    | some b => if x.priority b < x.priority src then some src else best) none

/-- R6: the contender for a chosen source, with its key. -/
def Slc.contenderFor (x : Slc) (station : Nat) (src : Source) : Contender :=
  { source := src, priority := x.priority src, key := BitVec.ofNat 8 (16 * x.priority src + station), round := 1 }

/-- What happens at a boundary now: the notice question (R18), and with a valid own number the choice (R19, R20). -/
def State.atBoundary (s : State) : State :=
  let x := { s.slc.takeOffer s.flm.bestNotice? with lastBoundary := s.clock, lineState := .idle }
  s.setSlc { x with
    contender := if s.osc.validStation then x.choose.map (x.contenderFor s.osc.station) else none, pulseFrom := none }

/-- R2: an idle gap is complete when the sixteenth dark bit time has ended; the line becomes IDLE at a boundary. -/
def State.idleGap (s : State) : State :=
  match s.slc.lineState with
  | .sync | .trail => (s.runTo s.slc.gapDue).atBoundary
  | .idle | .arbitration | .frame => s

/-- R2: a further boundary 16 bit times after the one before. -/
def State.boundary (s : State) : State :=
  match s.slc.lineState with
  | .idle => (s.runTo (s.slc.lastBoundary + bitTimes 16)).atBoundary
  | .sync | .trail | .arbitration | .frame => s

/-- R2: light seen in IDLE. -/
def State.arbitrationStart (s : State) : State :=
  match s.slc.lineState with
  | .idle => s.setSlc { s.slc with lineState := .arbitration }
  | .sync | .trail | .arbitration | .frame => s

/-! ## The rounds (R6, R7) -/

/-- The digit of a key in round 1, 2, 3 or 4: bits 7 and 6, 5 and 4, 3 and 2, 1 and 0. -/
def keyDigit (key : BitVec 8) (round : Nat) : Nat := key.toNat / 4 ^ (4 - round) % 4

/-- R6: the bit time from the boundary at which a contender's pulse position begins. -/
def Contender.pulseAt (c : Contender) : Nat := 16 * (c.round - 1) + 4 * (3 - keyDigit c.key c.round)

/-- R7, R5: the contender has lost: its frame's loss count rises, the aged-to-cap bit follows, the choice is released. -/
def Slc.lose (x : Slc) (src : Source) : Slc :=
  let before := x.priority src
  let x := x.setCounts src (satSucc (x.loss src)) (x.echo src)
  let x := if before < 14 ∧ x.priority src = 14 then x.flag .agedToCap else x
  { x with contender := none, pulseFrom := none }

/-- R6: the pulse position of the contender's digit (DEDUCED, safe: log entry 29). -/
def State.pulsePosition (s : State) (heardEarlier : Bool) : State :=
  match s.slc.contender with
  | none => s
  | some c =>
    if (s.slc.lineState = .idle ∨ s.slc.lineState = .arbitration) ∧ c.round ≤ 4 then
      let s := s.runTo (s.slc.lastBoundary + bitTimes c.pulseAt)
      if heardEarlier then s.setSlc { s.slc.lose c.source with lineState := .arbitration }
      else s.setSlc { s.slc with
        lineState := .arbitration, pulseFrom := some s.clock, contender := some { c with round := c.round + 1 } }
    else s

/-! ## The survival (R9, R21, R36) -/

/-- R21: the kind number of a source's frame. -/
def Source.kind : Source → BitVec 4
  | .status => 0 | .notice => 1 | .reply => 3 | .record => 4

/-- R9, R36: the target and payload of the chosen frame as its source holds it now; none when it no longer does. -/
def State.copyContent (s : State) : Source → Option (BitVec 4 × List Byte)
  | .status => s.slc.statusSlot.map fun p => (15, p.content.bytes)
  | .reply => s.slc.replySlot.map fun p => (p.content.target, p.content.bytes s.slc.errors)
  | .record => s.slc.recordSlot.map fun p => (p.content.target, p.content.payload.bytes)
  | .notice =>
    match s.slc.notice with
    | none => none
    | some n => (s.flm.noticeContent? n.slot n.transition).map fun r => (15, (r.payload n.transition).bytes)

/-- R183: the opening number of the record a NOTICE is copied from, which tells at the send whether the slot still holds
that record (DEDUCED, safe: log entry 3); none for the other sources. -/
def State.copyOpening (s : State) : Source → Option Nat
  | .status | .reply | .record => none
  | .notice => s.slc.notice.bind fun n => (s.flm.noticeContent? n.slot n.transition).map (·.seq)

/-- R21: the bits of a frame the SLC sends. -/
def sentBits (src : Source) (station priority : Nat) (target : BitVec 4) (payload : List Byte) : List Bool :=
  frameBits
    { kind := src.kind, sender := BitVec.ofNat 4 station, target := target, priority := BitVec.ofNat 4 priority,
      field := BitVec.ofNat 16 payload.length } payload

/-- R2: bit time 64 with the own transmitter dark: another's frame, or a dark bit time that makes the line TRAIL. -/
def Slc.survivorSilent (x : Slc) (now : Clocks) (lit : Bool) : Slc :=
  if lit then { x with lineState := .frame, contender := none, pulseFrom := none }
  else { x with lineState := .trail, gapDue := now + bitTimes 16, contender := none, pulseFrom := none }

/-- R9, R34: the copy into the transmit buffer. A REPLY's copy makes every accumulator event older than it. -/
def Slc.survive (x : Slc) (c : Contender) (bits : List Bool) (opening : Option Nat) : Slc :=
  { x with
    lineState := .frame, contender := none, pulseFrom := none
    sending := some { source := c.source, bits := bits, refilled := false, opening := opening }
    errorsSinceCopy := if c.source = .reply then 0 else x.errorsSinceCopy }

/-- Bit time 64 of an arbitration (R2, R6, R9; DEDUCED, safe: log entry 29). -/
def State.survival (s : State) (lit : Bool) : State :=
  match s.slc.lineState with
  | .arbitration =>
    let s := s.runTo (s.slc.lastBoundary + bitTimes 64)
    match s.slc.contender with
    | none => s.setSlc (s.slc.survivorSilent s.clock lit)
    | some c =>
      match s.copyContent c.source with
      | none => s.setSlc (s.slc.survivorSilent s.clock lit)
      | some (target, payload) =>
        s.setSlc (s.slc.survive c (sentBits c.source s.osc.station c.priority target payload) (s.copyOpening c.source))
  | .sync | .idle | .frame | .trail => s

/-! ## Sending (R10, R11, R13, R34) -/

/-- The moment bit time `n` of a frame begins, counted from bit time 64 of the arbitration. -/
def Slc.frameBit (x : Slc) (n : Nat) : Clocks := x.lastBoundary + bitTimes (64 + n)

/-- R13, R14: a duplicate is detected. -/
def State.duplicateDetected (s : State) (value : Int) : State :=
  let s := s.flag .duplicateStation
  let s := s.setSlc { s.slc with duplicateDue := some (s.after (ms 10000)) }
  s.report (.present .duplicateStation value)

/-- The transmitter goes dark and the line passes to TRAIL with `dark` dark bit times counted (R2, DEDUCED, unsafe: log
entry 9). -/
def Slc.stopSending (x : Slc) (now : Clocks) (dark : Nat) : Slc :=
  { x with sending := none, lineState := .trail, gapDue := now + bitTimes (16 - dark) }

/-- R10, R13: a bit time of the own frame is heard otherwise than it was sent (DEDUCED, safe: log entry 29). By R2 one
heard dark in both halves ends the frame as the first dark bit time of the idle gap. -/
def State.echoMismatch (s : State) (bit : HeardBit) : State :=
  match s.slc.sending with
  | none => s
  | some t =>
    if bit.index < t.bits.length ∧ bit.heard ≠ sentBit (t.bits.getD bit.index false) then
      let s := s.runTo (s.slc.frameBit (bit.index + 1))
      let s := s.setSlc ((s.slc.stopSending s.clock (if bit.heard.lit then 0 else 1)).flag .echoMismatch)
      let echo := s.slc.echo t.source + 1
      if echo < 3 then s.setSlc (s.slc.setCounts t.source (s.slc.loss t.source) echo)
      else (s.setSlc (s.slc.setCounts t.source (s.slc.loss t.source) 0)).duplicateDetected 1
    else s

/-- R11, R34: the source of a sent frame is served. -/
def State.serve (s : State) (t : Transmission) : State :=
  match t.source with
  | .status => s.setSlc (if t.refilled then s.slc.setCounts .status 0 0 else { s.slc with statusSlot := none })
  | .reply => s.setSlc { s.slc with replySlot := none, errors := s.slc.errors &&& s.slc.errorsSinceCopy }
  | .record => s.setSlc { s.slc with recordSlot := none }
  | .notice =>
    match s.slc.notice with
    | none => s
    | some n => (s.setFlm (s.flm.noticeSent n.slot n.transition t.opening)).setSlc { s.slc with notice := none }

/-- R11: the last bit is sent with every bit time agreeing. -/
def State.frameSent (s : State) : State :=
  match s.slc.sending with
  | none => s
  | some t =>
    let s := s.runTo (s.slc.frameBit t.bits.length)
    (s.setSlc (s.slc.stopSending s.clock 0)).serve t

/-- R3: light follows the 1592nd bit of a received frame. -/
def State.frameTooLong (s : State) : State :=
  if s.slc.lineState = .frame ∧ s.slc.sending = none then
    let s := s.runTo (s.slc.frameBit (maxFrameBits + 1))
    s.setSlc ({ s.slc with lineState := .trail, gapDue := s.clock + bitTimes 16 }.flag .lengthError)
  else s

/-- R2: light in TRAIL, or in SYNC, restarts the dark count at 0. The moment of the command is taken as the end of the
bit time that held the light, so that sixteen dark bit times are complete 16 bit times later: the spec does not say where
the bit times lie in SYNC, nor in TRAIL for light off the grid of the frame (DESIGN CHOICE, unsafe: log entry 35). -/
def State.lightSeenInTrail (s : State) : State :=
  match s.slc.lineState with
  | .sync | .trail => s.setSlc { s.slc with gapDue := s.after (bitTimes 16) }
  | .idle | .arbitration | .frame => s

/-! ## The STATUS snapshot (R16, R35) -/

/-- R105: the heading over ground. -/
def Ywc.heading (y : Ywc) : Nat := (y.platform + y.angle) % 3600

/-- P_own: the rated power of the own slot's descriptor (R45); 0 before a load. -/
def State.ratedOwn (s : State) : Nat :=
  ((s.ptb.slots.toList.filterMap id).find? (·.station == s.osc.station)).elim 0 (·.rated)

/-- R65: the announced demand. -/
def Scu.announced (u : Scu) : Nat := if u.hold then u.dHold else u.dOwn

/-- A field that is 0 in LOADING and UNCONFIGURED (R35). -/
def State.onceLoaded (s : State) (n : Nat) : Nat := if s.osc.state.isUnloaded then 0 else n

/-- R35. -/
def State.snapshot (s : State) : StatusPayload :=
  { opState := BitVec.ofNat 8 s.osc.state.number
    flags := statusFlags s.cvp.rideThrough s.ptb.isolated (s.ywc.state == .moving) (s.flm.reaction.fMin < 1000) s.ywc.steering
    ratedPower := BitVec.ofNat 16 (s.onceLoaded s.ratedOwn)
    demand := BitVec.ofNat 16 (s.onceLoaded s.scu.announced)
    appliedShare := BitVec.ofNat 16 (s.onceLoaded s.scu.sApp)
    thermalLimit := BitVec.ofNat 16 (s.onceLoaded s.clc.tOwn)
    actualExport := s.cvp.measurement.actual
    dSeen := BitVec.ofNat 32 (s.onceLoaded s.scu.dSeen)
    cLive := BitVec.ofNat 32 (s.onceLoaded s.scu.cLive)
    heading := BitVec.ofNat 16 s.ywc.heading
    windDirection := BitVec.ofNat 16 s.ywc.windDirection
    windSpeed := BitVec.ofNat 16 s.ywc.windSpeed
    twist := BitVec.ofInt 16 s.ywc.twist
    steeringOffset := BitVec.ofInt 16 s.ywc.offsetInUse
    openRecords := BitVec.ofNat 8 s.flm.opens.length
    highestSeverity := BitVec.ofNat 8 s.flm.highestSeverity
    newestCode := BitVec.ofNat 8 s.flm.newestCode
    summaryFlags := summaryFlags s.flm.reclaimedUnsent (s.flm.openRecord? .configInvalid).isSome
    linkErrors := s.slc.errors }

/-- R16: the new snapshot takes the slot, with the counts of one it replaces. -/
def Slc.fillStatus (x : Slc) (p : StatusPayload) : Slc :=
  { x with
    statusSlot := some { content := p, loss := x.loss .status, echo := x.echo .status }
    sending := x.sending.map fun t => { t with refilled := t.refilled || t.source == .status } }

/-- R16: the status timer expires; the next expiry falls 100 ms after this one. -/
def State.statusTimer (s : State) : State :=
  let due := s.slc.statusDue
  let s := s.runTo due
  s.setSlc { s.slc.fillStatus s.snapshot with statusDue := due + ms 100 }

/-- R15: the duplicate timer expires. -/
def State.duplicateTimer (s : State) : State :=
  s.atDue s.slc.duplicateDue fun s =>
    (s.setSlc { s.slc with duplicateDue := none }).report (.gone .duplicateStation)

/-! ## The light the part sends (R1, R6, R10) -/

/-- The light on line transmit at the moment `t`, from the pulse or the frame in progress, half by half
(DESIGN CHOICE, safe: log entry 33). -/
def Slc.transmits (x : Slc) (t : Clocks) : Bool :=
  match x.sending, x.pulseFrom with
  | some f, _ =>
    let into := t - x.frameBit 0
    x.frameBit 0 ≤ t && into < bitTimes f.bits.length &&
      (f.bits.getD (into / Config.clocksPerBit) false == decide (into % Config.clocksPerBit < Config.clocksPerBit / 2))
  | none, some p => p ≤ t && t < p + bitTimes 2
  | none, none => false

/-! ## Meanings -/

def execIdleGap (s : State) : Host.Outcome State Fault Refusal := .next s.idleGap
def execBoundary (s : State) : Host.Outcome State Fault Refusal := .next s.boundary
def execArbitrationStart (dt : Clocks) (s : State) : Host.Outcome State Fault Refusal := .next (s.elapse dt).arbitrationStart
def execPulsePosition (heardEarlier : Bool) (s : State) : Host.Outcome State Fault Refusal := .next (s.pulsePosition heardEarlier)
def execSurvival (lit : Bool) (s : State) : Host.Outcome State Fault Refusal := .next (s.survival lit)
def execEchoMismatch (bit : HeardBit) (s : State) : Host.Outcome State Fault Refusal := .next (s.echoMismatch bit)
def execFrameSent (s : State) : Host.Outcome State Fault Refusal := .next s.frameSent
def execFrameTooLong (s : State) : Host.Outcome State Fault Refusal := .next s.frameTooLong
def execLightSeenInTrail (dt : Clocks) (s : State) : Host.Outcome State Fault Refusal := .next (s.elapse dt).lightSeenInTrail
def execStatusTimerExpiry (s : State) : Host.Outcome State Fault Refusal := .next s.statusTimer
def execDuplicateTimerExpiry (s : State) : Host.Outcome State Fault Refusal := .next s.duplicateTimer

end Sys2Proof.Machine
end

