-- ==== Sys2Proof/Machine/Peers.lean ====
section
/-! DEFINITION. The peer table (chapter 3): what it does with a valid frame, what it hands on, its timers, and the
meanings of the commands AGE_TIMER_STALE, AGE_TIMER_LOST, ISOLATION_TIMER_EXPIRY and FOREIGN_TIMER_EXPIRY. -/

namespace Sys2Proof.Machine

/-! ## The remap (R45, R46) -/

/-- R45: the slot that holds a station number. -/
def Ptb.slotOf? (p : Ptb) (station : Nat) : Option (Fin 12) :=
  lowest? fun j => (p.slots[j].map (·.station)) == some station

/-- A slot peer: a used slot other than the own slot; its descriptor. -/
def State.slotPeer? (s : State) (j : Fin 12) : Option Descriptor :=
  s.ptb.slots[j].filter (·.station != s.osc.station)

/-- A slot peer that is not EXCLUDED. -/
def State.activePeer (s : State) (j : Fin 12) : Bool := (s.slotPeer? j).elim false (!·.excluded)

/-- One peer entry changed. -/
def State.setEntry (s : State) (j : Fin 12) (f : PeerEntry → PeerEntry) : State :=
  s.setPtb { s.ptb with entries := update s.ptb.entries j f }

/-! ## The bitmaps (R57, R60) -/

/-- R57: the PEER_LOST bitmap. -/
def State.lostBitmap (s : State) : Nat :=
  bitmap fun j : Fin 12 => s.activePeer j &&
    (s.ptb.entries[j].freshness == .lost || s.ptb.entries[j].freshness == .neverHeard)

/-- R60: the SHARE_VIEW_DISAGREE bitmap. -/
def State.disagreeBitmap (s : State) : Nat := bitmap fun j : Fin 12 => s.ptb.entries[j].disagreement == 50

/-- R57, R60: what `act` does to an entry, and then the two bitmaps reported where they have changed
(DESIGN CHOICE, unsafe: log entry 16). -/
def State.watchPeers (s : State) (act : State → State) : State :=
  let t := act s
  let t := t.reportBitmap .peerLost s.lostBitmap t.lostBitmap
  t.reportBitmap .shareViewDisagree s.disagreeBitmap t.disagreeBitmap

/-! ## Frames (R48, R51 to R53, R56, R59) -/

/-- R56: the end of isolation, and the timer from this frame. -/
def State.heard (s : State) : State :=
  let isolated := s.ptb.isolated
  let s := s.setPtb { s.ptb with isolationDue := some (s.after (ms 2000)), isolated := false }
  if isolated then s.report (.gone .linkIsolated) else s

/-- R59: the disagreement counter after a comparison. -/
def nextDisagreement (counter opState dSeen dOwn cCfg : Nat) : Nat :=
  if opState = 0 ∨ opState = 1 then counter
  else if cCfg / 20 < (dSeen - dOwn) + (dOwn - dSeen) then min 50 (counter + 1)
  else 0

/-- R48, R53, R59: the entry after a valid STATUS. -/
def PeerEntry.takeStatus (e : PeerEntry) (p : StatusPayload) (now : Clocks) (dOwn cCfg : Nat) : PeerEntry :=
  { freshness := .fresh, ageFrom := some now, lastStatus := some p, stamp := some (stampOf now)
    tripCodes := if p.opState = 0 then [] else e.tripCodes
    lastTripNotice := none
    cableHot := if p.opState = 0 then false else e.cableHot
    disagreement := nextDisagreement e.disagreement p.opState.toNat p.dSeen.toNat dOwn cCfg }

/-- R51: the trip codes open and the last trip notice after a NOTICE of severity 4 or 5. -/
def PeerEntry.takeTrip (e : PeerEntry) (c : FaultCode) (transition : Nat) : PeerEntry :=
  let without := e.tripCodes.filter (· != c)
  match transition with
  | 0 => { e with tripCodes := if e.tripCodes.contains c then e.tripCodes else e.tripCodes ++ [c], lastTripNotice := some c }
  | 1 => { e with tripCodes := without, lastTripNotice := if without = [] then none else e.lastTripNotice }
  | 2 => { e with tripCodes := without, lastTripNotice := some c }
  | _ => e

/-- R52: the cable-hot flag after a STRING_CABLE_HOT notice from a cable monitor. -/
def PeerEntry.takeCableHot (e : PeerEntry) (transition : Nat) : PeerEntry :=
  if transition = 0 then { e with cableHot := true }
  else if transition ≤ 2 then { e with cableHot := false }
  else e

/-- R51, R52: the entry after a valid NOTICE. -/
def PeerEntry.takeNotice (e : PeerEntry) (monitor : Bool) (p : NoticePayload) : PeerEntry :=
  match FaultCode.ofNumber p.code.toNat with
  | none => e
  | some c =>
    let e := if p.severity = 4 ∨ p.severity = 5 then e.takeTrip c p.transition.toNat else e
    if c = .stringCableHot ∧ monitor then e.takeCableHot p.transition.toNat else e

/-- What the PTB makes of a valid frame from slot `j` (R32): nothing from an EXCLUDED slot (R47); else `act`, and the
frame counts as heard. -/
def State.peerFrame (s : State) (j : Fin 12) (act : PeerEntry → PeerEntry) : State :=
  if s.activePeer j then (s.watchPeers fun t => t.setEntry j act).heard else s

/-- R58: a foreign frame, with its sender field. -/
def State.foreignFrame (s : State) (sender : Nat) : State :=
  (s.setPtb { s.ptb with foreignDue := some (s.after (ms 10000)) }).report (.present .foreignTraffic sender)

/-! ## What the PTB hands on (R54, R55) -/

/-- The participations of R54. -/
inductive Participation where
  | own | absent | excluded | demand (d : Nat) | rated (d : Nat) | reserve
  deriving DecidableEq, Repr

/-- R54: the demand a FRESH entry hands on. -/
def PeerEntry.demand (e : PeerEntry) : Nat :=
  match e.lastStatus, e.lastTripNotice with
  | some p, none => if p.opState = 3 ∨ p.opState = 4 ∨ p.opState = 5 then p.demand.toNat else 0
  | _, _ => 0

/-- R54. -/
def State.participation (s : State) (j : Fin 12) : Participation :=
  match s.ptb.slots[j] with
  | none => .absent
  | some d =>
    if d.station = s.osc.station then .own
    else if d.excluded then .excluded
    else
      match s.ptb.entries[j].freshness with
      | .fresh => .demand s.ptb.entries[j].demand
      | .stale => .rated d.rated
      | .lost | .neverHeard => .reserve

/-- R55: peer cable-hot. -/
def State.peerCableHot (s : State) : Bool :=
  (List.finRange 12).any fun j => s.activePeer j && (s.slotPeer? j).elim false (·.cableMonitor) && s.ptb.entries[j].cableHot

/-- R55: the wake partner is producing. -/
def State.partnerProducing (s : State) : Option (Fin 12) → Bool
  | none => false
  | some j =>
    let e := s.ptb.entries[j]
    s.activePeer j && e.freshness == .fresh && (e.lastStatus.map (·.opState)) == some 4 && e.lastTripNotice == none

/-! ## Timers (R49, R56, R58) -/

/-- R49: 350 ms after the last STATUS the entry goes from FRESH to STALE. -/
def State.ageTimerStale (s : State) (j : Fin 12) : State :=
  match s.ptb.entries[j].ageFrom, s.ptb.entries[j].freshness with
  | some t, .fresh => (s.runTo (t + ms 350)).watchPeers fun s => s.setEntry j fun e => { e with freshness := .stale }
  | _, _ => s

/-- R49: 2000 ms after the last STATUS the entry goes from STALE to LOST. -/
def State.ageTimerLost (s : State) (j : Fin 12) : State :=
  match s.ptb.entries[j].ageFrom, s.ptb.entries[j].freshness with
  | some t, .stale =>
    (s.runTo (t + ms 2000)).watchPeers fun s =>
      s.setEntry j fun e => { e with freshness := .lost, ageFrom := none, disagreement := 0 }
  | _, _ => s

/-- R56: the isolation timer expires. -/
def State.isolationTimer (s : State) : State :=
  s.atDue s.ptb.isolationDue fun s =>
    (s.setPtb { s.ptb with isolationDue := none, isolated := true }).report (.present .linkIsolated 0)

/-- R58: the foreign timer expires. -/
def State.foreignTimer (s : State) : State :=
  s.atDue s.ptb.foreignDue fun s => (s.setPtb { s.ptb with foreignDue := none }).report (.gone .foreignTraffic)

/-! ## Meanings -/

def execAgeTimerStale (peer : Fin 12) (s : State) : Host.Outcome State Fault Refusal := .next (s.ageTimerStale peer)
def execAgeTimerLost (peer : Fin 12) (s : State) : Host.Outcome State Fault Refusal := .next (s.ageTimerLost peer)
def execIsolationTimerExpiry (s : State) : Host.Outcome State Fault Refusal := .next s.isolationTimer
def execForeignTimerExpiry (s : State) : Host.Outcome State Fault Refusal := .next s.foreignTimer

end Sys2Proof.Machine
end

