-- ==== Sys2Proof/Machine/Frames.lean ====
section
/-! DEFINITION. Received frames (R3, R14, R23 to R33): the checks in the order of R25, dispatch, and the meanings of the
commands FRAME_DISCARDED, STATUS_RECEIVED, NOTICE_RECEIVED and REPLY_OR_RECORD_RECEIVED. -/

namespace Sys2Proof.Machine

/-! ## The end of a frame (R2, R3) -/

/-- A frame of the bit times `heard` can end now: the line state is FRAME, the frame is another's, and it has 1 to 1592
bit times, none dark in both halves. -/
def State.canEnd (s : State) (heard : List BitTime) : Bool :=
  s.slc.lineState == .frame && s.slc.sending == none && heardWellFormed heard

/-- R2: the first bit time dark in both halves ends the frame; the dark count starts at 1. -/
def State.frameEnds (s : State) (heard : List BitTime) : State :=
  let s := s.runTo (s.slc.frameBit (heard.length + 1))
  let s := s.setSlc { s.slc with lineState := .trail, gapDue := s.clock + bitTimes 15 }
  s.setUnreceived (if hasPartialByte (heardBits heard) then s.unreceived + 1 else s.unreceived)

/-- R3: the trailing bytes of a frame; the bits of a partial byte that were not received are the free value. -/
def State.trailing (s : State) (heard : List BitTime) : List Byte :=
  groupBytes (Config.missingBits s.unreceived) (trailingBits (heardBits heard))

/-- A frame ends and `act` follows. The command is the row its frame belongs to, which `row` tells; a frame of another
row, or no frame that can end, is not this command and changes nothing (DESIGN CHOICE, unsafe: log entry 7). -/
def State.whenFrame (s : State) (heard : List BitTime) (row : RxFrame → Bool) (act : State → State) : State :=
  if s.canEnd heard ∧ row (classify (heardBits heard)) then act (s.frameEnds heard) else s

/-! ## The checks (R14, R25 to R30) -/

/-- R27: the sender is foreign. -/
def State.foreign (s : State) (sender : Nat) : Bool :=
  if s.ptb.loaded then !(sender == 13 || sender == 14 || (s.ptb.slotOf? sender).isSome)
  else sender == 0 || sender == 15

/-- R25, steps 1, 3 and 4: the corrected header's bit, the own-number check (R14), the sender check (R27); then `rest`. -/
def State.senderChecks (s : State) (h : Header) (corrected : Bool) (rest : State → State) : State :=
  let s := s.flagIf corrected .headerCorrected
  if s.osc.validStation ∧ h.sender.toNat = s.osc.station then s.duplicateDetected 2
  else if s.foreign h.sender.toNat then (s.flag .foreignSender).foreignFrame h.sender.toNat
  else rest s

/-- R28: the defined payload length of a long kind. -/
def kindLength (kind : Nat) : Nat :=
  match kind with
  | 0 => 36
  | 1 => 18
  | 3 => 6
  | _ => 23

/-- R28: the length check. -/
def lengthGood (h : Header) (n : Nat) : Bool :=
  let len := h.field.toNat
  len != 0 && len ≤ 192 && n == len + 2 && len == kindLength h.kind.toNat

/-- R24: the CRC check. -/
def crcGood (h : Header) (bytes : List Byte) : Bool :=
  crc16 (bytes.take h.field.toNat) == u16At bytes h.field.toNat

/-- R25, steps 5 and 6: the length and CRC checks of a long frame (R28, R30); then `rest`. -/
def State.payloadChecks (s : State) (h : Header) (bytes : List Byte) (rest : State → State) : State :=
  if !lengthGood h bytes.length then s.flag .lengthError
  else if !crcGood h bytes then s.flag .payloadCrc
  else rest s

/-! ## Dispatch (R32) -/

/-- The slot that R32 dispatches a valid frame to, if any: a slot peer while the remap is loaded. -/
def State.dispatchSlot? (s : State) (sender : Nat) : Option (Fin 12) :=
  if s.ptb.loaded then s.ptb.slotOf? sender else none

/-- R32, R47: a valid frame from a slot peer, with what it does to the peer's entry; from any other sender nothing. -/
def State.dispatch (s : State) (sender : Nat) (act : State → Fin 12 → PeerEntry → PeerEntry) : State :=
  match s.dispatchSlot? sender with
  | none => s
  | some j => s.peerFrame j (act s j)

/-- A long frame ends: the checks, and dispatch of what `act` makes of its payload. -/
def State.longFrame (s : State) (heard : List BitTime) (kinds : Nat → Bool)
    (act : List Byte → State → Fin 12 → PeerEntry → PeerEntry) : State :=
  let row : RxFrame → Bool
    | .known h _ => kinds h.kind.toNat
    | .tooShort | .uncorrectable | .unknownKind _ => false
  s.whenFrame heard row fun t =>
    match classify (heardBits heard) with
    | .known h corrected =>
      let bytes := s.trailing heard
      t.senderChecks h corrected fun t =>
        t.payloadChecks h bytes fun t => t.dispatch h.sender.toNat (act bytes)
    | .tooShort | .uncorrectable | .unknownKind _ => t

/-- R48: a STATUS. -/
def State.statusFrame (s : State) (heard : List BitTime) : State :=
  s.longFrame heard (· == 0) fun bytes t _ e => e.takeStatus (readStatus bytes) t.clock t.scu.dSeen t.scu.cCfg

/-- R51, R52: a NOTICE. -/
def State.noticeFrame (s : State) (heard : List BitTime) : State :=
  s.longFrame heard (· == 1) fun bytes t j e =>
    e.takeNotice ((t.slotPeer? j).elim false (·.cableMonitor)) (readNotice bytes)

/-- R31, R32: a REPLY or RECORD, whose payload is not used. -/
def State.answerFrame (s : State) (heard : List BitTime) : State :=
  s.longFrame heard (fun k => k == 3 || k == 4) fun _ _ _ e => e

/-- R3, R23, R26: a frame that is short, uncorrectable or of unknown kind. -/
def State.discardedFrame (s : State) (heard : List BitTime) : State :=
  let row : RxFrame → Bool
    | .known _ _ => false
    | .tooShort | .uncorrectable | .unknownKind _ => true
  s.whenFrame heard row fun t =>
    match classify (heardBits heard) with
    | .tooShort | .uncorrectable => t.flag .headerUncorrectable
    | .unknownKind corrected => (t.flagIf corrected .headerCorrected).flag .unknownKind
    | .known _ _ => t

/-! ## Meanings -/

def execFrameDiscarded (heard : List BitTime) (s : State) : Host.Outcome State Fault Refusal := .next (s.discardedFrame heard)
def execStatusReceived (heard : List BitTime) (s : State) : Host.Outcome State Fault Refusal := .next (s.statusFrame heard)
def execNoticeReceived (heard : List BitTime) (s : State) : Host.Outcome State Fault Refusal := .next (s.noticeFrame heard)
def execReplyOrRecordReceived (heard : List BitTime) (s : State) : Host.Outcome State Fault Refusal := .next (s.answerFrame heard)

end Sys2Proof.Machine
end

