-- ==== Sys2Proof/Machine/Share.lean ====
section
/-! DEFINITION. The export share computation (chapter 4) and the meaning of the command CONTROL_PERIOD. -/

namespace Sys2Proof.Machine

/-! ## Own limits and demand (R64, R65) -/

/-- R64: A_own. -/
def State.available (s : State) : Nat := min s.cvp.measurement.available.toNat s.ratedOwn

/-- R64: L_der. -/
def State.derateLimit (s : State) : Nat := s.ratedOwn * s.flm.reaction.fMin / 1000

/-- The smallest of T_own, L_der and P_own (R65, R79). -/
def State.ownLimit (s : State) : Nat := min s.clc.tOwn (min s.derateLimit s.ratedOwn)

/-- R65: the operating states in which the station has a demand. -/
def OpState.demands : OpState → Bool
  | .starting | .producing | .rideThrough => true
  | .loading | .unconfigured | .standby | .stopping | .tripped | .safeStop => false

/-- R65: d_own. -/
def State.ownDemand (s : State) : Nat := if s.osc.state.demands then min s.available s.ownLimit else 0

/-! ## Capacity (R67, R68, R69) -/

/-- R67: cable-hot holds. -/
def State.cableHot (s : State) : Bool := s.peerCableHot || s.flm.holds .stringCableHot

/-- R67: C_live. -/
def State.liveCapacity (s : State) : Nat :=
  let capped := min s.scu.cCfg (s.scu.cCfg * s.scu.cap / 100)
  if s.cableHot then min capped (s.scu.cCfg * s.scu.fCab / 1000) else capped

/-- R45: N_cfg, the number of used slots. -/
def Ptb.stations (p : Ptb) : Nat := (p.slots.toList.filter (·.isSome)).length

/-- R68: the station reserve r. -/
def State.stationReserve (s : State) : Nat := s.scu.cCfg / s.ptb.stations

/-- R68: the participation takes a reserve off the top. -/
def Participation.takesReserve : Participation → Bool
  | .reserve | .excluded => true
  | .own | .absent | .demand _ | .rated _ => false

/-- R68: the total reserve R. -/
def State.totalReserve (s : State) : Nat :=
  s.stationReserve * ((List.finRange 12).filter fun j => (s.participation j).takesReserve).length

/-- R68: the demand of a participant; none for a slot that is no participant. -/
def Participation.demand? (dOwn : Nat) : Participation → Option Nat
  | .own => some dOwn
  | .demand d | .rated d => some d
  | .absent | .excluded | .reserve => none

/-- R68, R73: the participants in ascending station number, each with its demand. -/
def State.participants (s : State) (dOwn : Nat) : List (Nat × Nat) :=
  (List.range' 1 12).filterMap fun n =>
    (s.ptb.slotOf? n).bind fun j => ((s.participation j).demand? dOwn).map fun d => (n, d)

/-- R69: C_avail. -/
def State.availableCapacity (s : State) : Nat := s.liveCapacity - s.totalReserve

/-- R69: the total demand D. -/
def totalDemand (ps : List (Nat × Nat)) : Nat := (ps.map Prod.snd).sum

/-! ## The split (R70 to R73) -/

/-- R72: the floor share. -/
def floorShare (avail total d : Nat) : Nat := d * avail / total

/-- R73: at most `extra` kilowatts placed, one to each participant whose floor share is below its demand. -/
def placeExtra (avail total : Nat) : Nat → List (Nat × Nat) → List (Nat × Nat)
  | _, [] => []
  | extra, (n, d) :: ps =>
    let f := floorShare avail total d
    if 0 < extra ∧ f < d then (n, f + 1) :: placeExtra avail total (extra - 1) ps
    else (n, f) :: placeExtra avail total extra ps

/-- R72, R73: every participant's share in shortage. -/
def shortageShares (avail : Nat) (ps : List (Nat × Nat)) : List (Nat × Nat) :=
  let total := totalDemand ps
  placeExtra avail total (avail - (ps.map fun p => floorShare avail total p.2).sum) ps

/-- R70, R71, R72, R73: s_raw of the station `own`. -/
def rawShare (isolated : Bool) (own dOwn reserve avail : Nat) (ps : List (Nat × Nat)) : Nat :=
  if isolated then min dOwn reserve
  else if totalDemand ps ≤ avail then dOwn
  else (((shortageShares avail ps).find? (·.1 == own)).map Prod.snd).getD 0

/-! ## The applied share (R75 to R78) -/

/-- R75, R77, R78: s_app from s_raw and the applied share before. -/
def appliedShare (hold stopping : Bool) (up down old raw : Nat) : Nat :=
  if hold then old
  else if stopping then max raw (old - down)
  else if raw ≤ old then raw
  else min raw (old + up)

/-! ## The computation (R63, R79, R81) -/

/-- R63: the SCU after a computation, each input as its owner holds it now. -/
def State.computeShare (s : State) : Scu :=
  let dOwn := s.ownDemand
  let ps := s.participants dOwn
  let raw := rawShare s.ptb.isolated s.osc.station dOwn s.stationReserve s.availableCapacity ps
  let app := appliedShare s.scu.hold (s.osc.state == .stopping) s.scu.rampUp s.scu.rampDown s.scu.sApp raw
  { s.scu with
    dOwn := dOwn, cLive := s.liveCapacity, dSeen := totalDemand ps, sRaw := raw, sApp := app
    enable := s.osc.enable, eLim := if s.osc.enable then min app s.ownLimit else 0 }

/-- R62, R63, R81: the control-period timer expires. The next expiry falls 20 ms after this one. -/
def State.controlPeriod (s : State) : State :=
  s.atDue s.scu.periodDue fun t =>
    let u := t.computeShare
    (t.setScu { u with periodDue := s.scu.periodDue.map (· + ms 20) }).handBlock u.enable u.eLim

/-- R66: STRING CAP. -/
def State.setCap (s : State) (percent : Nat) : State := s.setScu { s.scu with cap := percent }

/-! ## Meaning -/

def execControlPeriod (s : State) : Host.Outcome State Fault Refusal := .next s.controlPeriod

end Sys2Proof.Machine
end

