-- ==== Sys2Proof/Machine/Converter.lean ====
section
/-! DEFINITION. The converter port, its transactions, the measurement arrival, grid ride-through and overvoltage
(chapter 5), with what the OSC does at an arrival (R201, R203); and the meanings of the commands SELECT_ASSERTED to
OVERVOLTAGE_TIMER_EXPIRY and PORT_CLOCK_RISING_EDGE. -/

namespace Sys2Proof.Machine

/-! ## The select line (R84, R85, R88, R89) -/

/-- R85, R89: select is asserted. -/
def Cvp.assertSelect (c : Cvp) : Cvp :=
  if c.selectLine then c
  else
    let c := { c with selectLine := true }
    match c.port with
    | .idle => if c.seenReleased then { c with port := .typeByte, bitCount := 0, shift := 0 } else c
    | .paused .read n => { c with port := .read n, bitCount := 0, shift := 0, pauseDue := none }
    | .paused .write n => { c with port := .write n, bitCount := 0, shift := 0, pauseDue := none }
    | .typeByte | .read _ | .write _ | .ignore | .done => c

/-- R85, R88, R89: select is released. -/
def Cvp.releaseSelect (now : Clocks) (c : Cvp) : Cvp :=
  if !c.selectLine then c
  else
    let c := { c with selectLine := false, seenReleased := true }
    let ended := { c with port := .idle, bitCount := 0, shift := 0, staging := [] }
    match c.port with
    | .read n =>
      if c.bitCount = 0 then { c with port := .paused .read n, pauseDue := some (now + ms 2) } else ended.pendingSwap now
    | .write n => if c.bitCount = 0 then { c with port := .paused .write n, pauseDue := some (now + ms 2) } else ended
    | .typeByte | .ignore | .done => ended
    | .idle | .paused _ _ => c

/-! ## Ride-through (R97 to R100, R102, R103) -/

/-- R98: the time allowed for the lowest voltage since entry. -/
def allowedTime (lowest : Nat) : Clocks := if lowest < 150 then ms 150 else if lowest < 500 then ms 600 else ms 3000

/-- R97, R76: ride-through entry. -/
def State.enterRideThrough (s : State) (v : Nat) : State :=
  let s := s.setCvp { s.cvp with
    rideThrough := true, entryTime := s.clock, lowest := v, curveDue := some (s.clock + allowedTime v), recoveryDue := none }
  let s := s.setOsc { s.osc with state := .rideThrough }
  let s := s.setScu { s.scu with hold := true, dHold := s.scu.announced }
  let s := s.apaEnterRideThrough
  s.report (.present .rideThroughEvent v)

/-- R202: the OSC at the CVP's exit. -/
def State.oscLeaveRideThrough (s : State) (trip : Bool) : State :=
  match s.osc.state with
  | .rideThrough => if trip then s.enterTripped else s.setOsc { s.osc with state := .producing }
  | .loading | .unconfigured | .standby | .starting | .producing | .stopping | .tripped | .safeStop => s

/-- R100, R77: leaving ride-through, by trip or by recovery. -/
def State.leaveRideThrough (s : State) (trip : Bool) : State :=
  let s := s.setCvp { s.cvp with rideThrough := false, recoveryDue := none, curveDue := none }
  let s := s.setScu { s.scu with hold := false }
  let s := s.apaLeaveRideThrough
  let s := s.oscLeaveRideThrough trip
  s.report (.gone .rideThroughEvent)

/-- R98: the curve deadline is reached. The report is made first, in ride-through still (DEDUCED, unsafe: log entry 10). -/
def State.curveReached (s : State) : State :=
  (s.report (.present .gridUndervoltageTrip s.cvp.lowest)).leaveRideThrough true

/-- R99: the recovery timer at an arrival in ride-through. -/
def Cvp.recover (now : Clocks) (v : Nat) (c : Cvp) : Cvp :=
  { c with recoveryDue := if 900 ≤ v then some (c.recoveryDue.getD (now + ms 100)) else none }

/-- R98: a lower voltage sets the deadline anew from the entry time. -/
def Cvp.lower (v : Nat) (c : Cvp) : Cvp := { c with lowest := v, curveDue := some (c.entryTime + allowedTime v) }

/-- R98, R99: an arrival in ride-through. A deadline lowered to this arrival or before it is reached at it. -/
def State.arrivalInRideThrough (s : State) (v : Nat) : State :=
  if v < s.cvp.lowest then
    let s := s.setCvp (s.cvp.lower v)
    if s.cvp.entryTime + allowedTime v ≤ s.clock then s.curveReached else s.setCvp (s.cvp.recover s.clock v)
  else s.setCvp (s.cvp.recover s.clock v)

/-- R103: the overvoltage timer at an arrival. -/
def State.judgeOvervoltage (s : State) (v : Nat) : State :=
  if 1100 < v then
    if s.cvp.overvoltageDue.isNone ∧ !s.flm.holds .gridOvervoltage then
      s.setCvp { s.cvp with overvoltageDue := some (s.after (ms 100)) }
    else s
  else (s.setCvp { s.cvp with overvoltageDue := none }).reportGone .gridOvervoltage

/-- R94, step 5: ride-through entry, trip curve and recovery, and overvoltage, with the grid voltage of the new block. -/
def State.judgeVoltage (s : State) : State :=
  let v := s.cvp.voltage
  let s := if 900 ≤ v then s.reportGone .gridUndervoltageTrip else s
  let s :=
    if s.cvp.rideThrough then s.arrivalInRideThrough v
    else if v < 850 ∧ s.osc.state = .producing then s.enterRideThrough v
    else s
  s.judgeOvervoltage v

/-! ## The arrival (R94, R95, R201, R203) -/

/-- R95: the converter fault word. -/
def State.reportFaultWord (s : State) : State :=
  if s.cvp.measurement.faultWord = 0 then s.reportGone .converterReported
  else s.report (.present .converterReported s.cvp.measurement.faultWord.toNat)

/-- R203: the end of STOPPING. -/
def State.endStopping (s : State) : State := s.enableOff.enterStandby

/-- R201, R203: what the OSC does at an arrival, after the CVP has taken it (DEDUCED, unsafe: log entry 11). The state looked
at is the one the arrival's own reports have left: an arrival whose report ends the trip in STANDBY can enter STARTING, and
then counts as an arrival in STARTING too (DESIGN CHOICE, unsafe: log entry 41). -/
def State.oscArrival (s : State) : State :=
  let s := s.setOsc { s.osc with arrivalSeen := true }
  let m := s.cvp.measurement
  match s.osc.state with
  | .standby => s.testStart
  | .starting => if m.faultWord = 0 ∧ 0 < m.actual.toInt then s.setOsc { s.osc with state := .producing, startDue := none } else s
  | .stopping => if m.actual.toInt ≤ (s.ratedOwn * 5 / 100 : Nat) then s.endStopping else s
  | .producing | .rideThrough | .tripped | .safeStop | .loading | .unconfigured => s

/-- R94: a measurement arrival of the ten bytes received. -/
def State.arrival (s : State) (bytes : List Byte) : State :=
  let s := s.setCvp { s.cvp with measurement := readMeasurement bytes, silenceDue := some (s.after (ms 60)) }
  let s := s.reportGone .converterPortSilent
  let s := s.reportFaultWord
  let s := s.judgeVoltage
  s.oscArrival

/-! ## Clock edges (R84 to R87) -/

/-- R84: the port counts bits: select is asserted, and has been seen released since the reset. -/
def Cvp.counting (c : Cvp) : Bool := c.selectLine && c.seenReleased

/-- R84: the byte as it stands with one more bit. -/
def Cvp.nextShift (c : Cvp) (bit : Bool) : Byte := (c.shift <<< 1) ||| (if bit then 1#8 else 0#8)

/-- R84: a bit that completes no byte, and the count back at 0 where it does. -/
def Cvp.takeBit (c : Cvp) (bit : Bool) : Cvp :=
  if c.bitCount < 7 then { c with bitCount := c.bitCount + 1, shift := c.nextShift bit }
  else { c with bitCount := 0, shift := 0 }

/-- R85: what a type byte does. -/
def Cvp.takeType (c : Cvp) (b : Byte) : Cvp :=
  if b = 0x31 then { c with port := .read 0 }
  else if b = 0x32 then { c with port := .write 0, staging := [] }
  else { c with port := .ignore }

/-- R85, R86, R87: a byte completes. -/
def State.portByte (s : State) (b : Byte) : State :=
  match s.cvp.port with
  | .typeByte => s.setCvp (s.cvp.takeType b)
  | .read n =>
    if n < 5 then s.setCvp { s.cvp with port := .read (n + 1) }
    else s.setCvp ({ s.cvp with port := .done }.pendingSwap s.clock)
  | .write n =>
    let staged := s.cvp.staging ++ [b]
    if n < 9 then s.setCvp { s.cvp with port := .write (n + 1), staging := staged }
    else (s.setCvp { s.cvp with port := .done, staging := [] }).arrival staged
  | .ignore | .done | .idle | .paused _ _ => s

/-- R84: a rising edge of the port clock (DEDUCED, unsafe: log entry 17). -/
def State.edge (s : State) (bit : Bool) : State :=
  if s.cvp.counting then
    let b := s.cvp.nextShift bit
    let t := s.setCvp (s.cvp.takeBit bit)
    if s.cvp.bitCount < 7 then t else t.portByte b
  else s

/-- The rising edges that complete a byte, by what they complete. -/
inductive PortEdge where
  | readType | writeType | otherType | lastRead | lastWrite
  deriving DecidableEq, Repr

/-- R85, R86, R87: what the next rising edge completes, if it completes one of the bytes a command names. -/
def Cvp.completes? (c : Cvp) (bit : Bool) : Option PortEdge :=
  if c.counting ∧ c.bitCount = 7 then
    match c.port with
    | .typeByte =>
      if c.nextShift bit = 0x31 then some .readType else if c.nextShift bit = 0x32 then some .writeType else some .otherType
    | .read n => if n = 5 then some .lastRead else none
    | .write n => if n = 9 then some .lastWrite else none
    | .ignore | .done | .idle | .paused _ _ => none
  else none

/-- The rising edge that a command names; at any other edge the command changes nothing (DESIGN CHOICE, unsafe: log entry 7). -/
def State.namedEdge (s : State) (e : PortEdge) (bit : Bool) : State :=
  if s.cvp.completes? bit = some e then s.edge bit else s

/-- R84, R86: the level of data out between a falling edge and the next: a bit of the front buffer in READ, else 0
(DEDUCED, unsafe: log entry 17; DESIGN CHOICE, safe: log entry 33). When select is asserted again on a paused READ the
first bit of the next byte shows at once: R84 changes data out at falling edges only, and R89 does not say which level
the line has before the first of them (DESIGN CHOICE, unsafe: log entry 37). -/
def Cvp.dataOut (c : Cvp) : Bool :=
  match c.port with
  | .read n => c.counting && ((c.front.bytes.getD n 0).getMsbD c.bitCount)
  | .idle | .typeByte | .write _ | .ignore | .done | .paused _ _ => false

/-! ## Timers -/

/-- R90: the pause timer expires. -/
def State.pauseTimer (s : State) : State :=
  s.atDue s.cvp.pauseDue fun s =>
    let ended := { s.cvp with pauseDue := none, port := .idle, bitCount := 0, shift := 0, staging := [] }
    match s.cvp.port with
    | .paused kind n =>
      let code := match kind with | .read => 0x31 | .write => 0x32
      (s.setCvp (ended.pendingSwap s.clock)).report (.event .portReadAbandoned (256 * code + n : Nat))
    | .idle | .typeByte | .read _ | .write _ | .ignore | .done => s

/-- R93: the strobe timer expires. -/
def State.strobeTimer (s : State) : State :=
  s.atDue s.cvp.strobeDue fun s => s.setCvp { s.cvp with strobeLine := false, strobeDue := none }

/-- R96: the silence timer expires. -/
def State.silenceTimer (s : State) : State :=
  s.atDue s.cvp.silenceDue fun s =>
    (s.setCvp { s.cvp with silenceDue := none }).report (.present .converterPortSilent s.cvp.measurement.dcLink.toNat)

/-- R98: the curve deadline passes. -/
def State.curveDeadline (s : State) : State := s.atDue s.cvp.curveDue State.curveReached

/-- R99: the recovery timer expires. -/
def State.recoveryTimer (s : State) : State := s.atDue s.cvp.recoveryDue (·.leaveRideThrough false)

/-- R103: the overvoltage timer expires. -/
def State.overvoltageTimer (s : State) : State :=
  s.atDue s.cvp.overvoltageDue fun s =>
    (s.setCvp { s.cvp with overvoltageDue := none }).report (.present .gridOvervoltage s.cvp.voltage)

/-! ## Meanings -/

def execSelectAsserted (dt : Clocks) (s : State) : Host.Outcome State Fault Refusal :=
  let s := s.elapse dt
  .next (s.setCvp s.cvp.assertSelect)
def execSelectReleased (dt : Clocks) (s : State) : Host.Outcome State Fault Refusal :=
  let s := s.elapse dt
  .next (s.setCvp (s.cvp.releaseSelect s.clock))
def execReadSetpoint (dt : Clocks) (s : State) : Host.Outcome State Fault Refusal := .next ((s.elapse dt).namedEdge .readType true)
def execReadSetpointEnd (dt : Clocks) (s : State) : Host.Outcome State Fault Refusal := .next ((s.elapse dt).namedEdge .lastRead false)
def execWriteMeasurement (dt : Clocks) (s : State) : Host.Outcome State Fault Refusal := .next ((s.elapse dt).namedEdge .writeType false)
def execUnknownPortType (dt : Clocks) (bit : Bool) (s : State) : Host.Outcome State Fault Refusal :=
  .next ((s.elapse dt).namedEdge .otherType bit)
def execMeasurementArrival (dt : Clocks) (bit : Bool) (s : State) : Host.Outcome State Fault Refusal :=
  .next ((s.elapse dt).namedEdge .lastWrite bit)
def execPortClockRisingEdge (dt : Clocks) (bit : Bool) (s : State) : Host.Outcome State Fault Refusal := .next ((s.elapse dt).edge bit)
def execPauseTimerExpiry (s : State) : Host.Outcome State Fault Refusal := .next s.pauseTimer
def execStrobeTimerExpiry (s : State) : Host.Outcome State Fault Refusal := .next s.strobeTimer
def execSilenceTimerExpiry (s : State) : Host.Outcome State Fault Refusal := .next s.silenceTimer
def execCurveDeadline (s : State) : Host.Outcome State Fault Refusal := .next s.curveDeadline
def execRecoveryTimerExpiry (s : State) : Host.Outcome State Fault Refusal := .next s.recoveryTimer
def execOvervoltageTimerExpiry (s : State) : Host.Outcome State Fault Refusal := .next s.overvoltageTimer

end Sys2Proof.Machine
end

