-- ==== Sys2Proof/Machine/Yaw.lean ====
section
/-! DEFINITION. Yaw control and cable twist (chapter 6): inputs, the error window, the decision of a move, the brake and
drive read-back, the twist counter, hold and untwist; and the meanings of the commands ENCODER_READING to
DRIVE_FEEDBACK_TIMER_EXPIRY. The moves of the yaw states that the APA makes stand in PowerYaw.lean. -/

namespace Sys2Proof.Machine

/-! ## Wind and heading inputs (R105, R106) -/

/-- R105: a platform heading reading. -/
def State.platformReading (s : State) (reading : Option (Fin 3600)) : State :=
  match reading with
  | none => s
  | some h => s.setYwc { s.ywc with platform := h.val }

/-- R106: a vane reading. -/
def State.vaneReading (s : State) (reading : Option (Fin 3600)) : State :=
  match reading with
  | none => s.setYwc { s.ywc with vaneInvalidDue := some (s.ywc.vaneInvalidDue.getD (s.after (ms 10000))) }
  | some v =>
    let s := s.setYwc { s.ywc with vane := v.val, vaneSeen := true, vaneInvalidDue := none }
    if s.flm.holds .vaneInvalid then
      let s := s.report (.gone .vaneInvalid)
      s.setYwc s.ywc.clearWindow
    else s

/-- R106: a wind speed reading. -/
def State.windReading (s : State) (reading : Option (Fin 801)) : State :=
  match reading with
  | none => s.setYwc { s.ywc with windValid := false }
  | some w => s.setYwc { s.ywc with windSpeed := w.val, windValid := true }

/-- R106: the vane-invalid timer expires. -/
def State.vaneInvalidTimer (s : State) : State :=
  s.atDue s.ywc.vaneInvalidDue fun s => (s.setYwc { s.ywc with vaneInvalidDue := none }).report (.present .vaneInvalid 0)

/-! ## The usable drives (R117, R119, R124) -/

/-- R124: the bitmap of marked drives. -/
def Ywc.markedBitmap (y : Ywc) : Nat := bitmap fun d : Fin 6 => y.marked[d]

/-- R119: YAW_DRIVES_INSUFFICIENT, when the count of usable drives goes from `before` to `after`. -/
def State.reportDrives (s : State) (before after : Nat) : State :=
  if 4 ≤ before ∧ after < 4 then s.report (.present .yawDrivesInsufficient after)
  else if before < 4 ∧ 4 ≤ after then s.report (.gone .yawDrivesInsufficient)
  else s

/-- R117, R119: the stop cause when fewer than 4 drives are left usable, else in MOVING the selection made anew. -/
def State.reselect (s : State) (before after : Nat) : State :=
  if 4 ≤ before ∧ after < 4 then
    match s.ywc.state with
    | .brakeRelease | .moving => s.enterBrakeApply
    | .idle | .requestPower | .brakeApply => s
  else
    match s.ywc.state with
    | .moving => s.setYwc (s.ywc.selectUnder s.clock s.apa.yawGranted)
    | .idle | .requestPower | .brakeRelease | .brakeApply => s

/-- What `act` does to ready inputs or marks, and what follows from the change: DRIVE_FEEDBACK (R124),
YAW_DRIVES_INSUFFICIENT and the stop cause (R119), the selection (R117), and the examination while a yaw request
waits (R162), in this order (DESIGN CHOICE, unsafe: log entry 16). -/
def State.watchDrives (s : State) (act : Ywc → Ywc) : State :=
  let before := s.ywc.usableCount
  let bits := s.ywc.markedBitmap
  let s := s.setYwc (act s.ywc)
  let after := s.ywc.usableCount
  let s := s.reportBitmap .driveFeedback bits s.ywc.markedBitmap
  let s := s.reportDrives before after
  let s := s.reselect before after
  if before ≠ after ∧ s.apa.yawRequest.isSome then s.examine else s

/-- R124: the review of the marks at an entry to REQUEST_POWER. -/
def Ywc.reviewMarks (y : Ywc) : Ywc := { y with marked := Vector.ofFn fun d : Fin 6 => y.marked[d] && y.running[d] }

/-- A drive's ready input. -/
def State.driveReady (s : State) (d : Fin 6) (level : Bool) : State :=
  s.watchDrives fun y => { y with ready := y.ready.set d level }

/-- R124: a drive's running input. -/
def State.driveRunning (s : State) (d : Fin 6) (level : Bool) : State :=
  s.setYwc (s.ywc.setDrives s.clock s.ywc.enables (s.ywc.running.set d level))

/-- R124: a drive's feedback timer expires, and the drive is marked. -/
def State.driveFeedback (s : State) (d : Fin 6) : State :=
  s.atDue s.ywc.feedbackDue[d] fun s =>
    s.watchDrives fun y => { y with feedbackDue := y.feedbackDue.set d none, marked := y.marked.set d true }

/-! ## Requesting power (R115, R124, R161) -/

/-- Entry to REQUEST_POWER with a move: the marks reviewed, then the request placed and examined. The spec does not order
the review (R124) and the request (R115), and the grant can depend on it (DESIGN CHOICE, unsafe: log entry 16). -/
def State.enterRequestPower (s : State) (m : Move) : State :=
  let s := s.setYwc { s.ywc with state := .requestPower, move := some m, waitDue := some (s.after (ms 60000)) }
  let s := s.watchDrives Ywc.reviewMarks
  let s := s.setApa { s.apa with yawRequest := some m.urgent }
  s.examine

/-- R115: the wait-power timer expires. -/
def State.waitPowerTimer (s : State) : State :=
  s.atDue s.ywc.waitDue fun s => (s.setYwc { s.ywc with waitDue := none }).report (.present .yawWaitPower 0)

/-! ## The error window (R107, R108) -/

/-- R107, step 1: the sample. -/
def Ywc.sample (y : Ywc) : Int := if 1800 ≤ y.vane then (y.vane : Int) - 3600 else y.vane

/-- R107, step 2: the sample appended. -/
def Ywc.append (y : Ywc) (e : Int) : Ywc :=
  { y with window := (if 30 ≤ y.window.length then y.window.drop 1 else y.window) ++ [e] }

/-- R108: the gross misalignment check. -/
def Ywc.grossCheck (y : Ywc) (e : Int) : Ywc :=
  if e.natAbs ≤ 900 then { y with grossCount := 0 }
  else if y.grossCount + 1 < 3 then { y with grossCount := y.grossCount + 1 }
  else { y with window := [e], bypass := true, urgent := true, grossCount := 0 }

/-- R107, steps 1 to 3. -/
def Ywc.takeSample (y : Ywc) : Ywc := if y.vaneSeen then (y.append y.sample).grossCheck y.sample else y

/-- R107, step 4: e_f, the mean truncated toward zero; 0 for the empty window. -/
def Ywc.filteredError (y : Ywc) : Int := y.window.sum.tdiv y.window.length

/-- R107, step 5: W_f. -/
def Ywc.filteredWind (y : Ywc) : Nat := (((y.heading : Int) + y.filteredError) % 3600).toNat

/-- R107, step 5: the sector. -/
def Ywc.sectorIndex (y : Ywc) : Fin 24 := Fin.ofNat 24 (y.filteredWind / 150)

/-- R107, step 5: the sector's descriptor. -/
def Ywc.sector (y : Ywc) : Sector := y.sectors[y.sectorIndex]

/-- R110: the misalignment count. -/
def State.countMisalignment (s : State) : State :=
  let ef := s.ywc.filteredError
  if 300 < ef.natAbs then
    let s' := s.setYwc { s.ywc with misalignCount := min 60 (s.ywc.misalignCount + 1) }
    if s.ywc.misalignCount = 59 then s'.report (.present .misalignment ef) else s'
  else (s.setYwc { s.ywc with misalignCount := 0 }).reportGone .misalignment

/-! ## Deciding a move (R112 to R114) -/

/-- R112: the candidate offset comes from the table. -/
def State.steers (s : State) : Bool :=
  let y := s.ywc
  y.sector.steer && !y.sector.restrict && s.partnerProducing y.sector.partner && s.osc.state == .producing &&
    y.windValid && y.params.bandLower ≤ y.windSpeed && y.windSpeed ≤ y.params.bandUpper

/-- R112: the candidate offset. -/
def State.candidateOffset (s : State) : Int := if s.steers then s.ywc.offsets[s.ywc.sector.offsetRef] else 0

/-- R113: the target error. -/
def State.targetError (s : State) : Int := wrapAngle (s.ywc.filteredError + s.candidateOffset)

/-- R113: the threshold in the sector of the evaluation. -/
def Ywc.threshold (y : Ywc) : Nat := if y.sector.restrict then 2 * y.params.startThreshold else y.params.startThreshold

/-- R113: a move is decided. -/
def State.decides (s : State) : Bool :=
  s.ywc.twistKnown && !s.ywc.hold && !s.flm.reaction.yawStop && (10 ≤ s.ywc.window.length || s.ywc.bypass) &&
    s.ywc.threshold < s.targetError.natAbs

/-- The direction from one twist to another: clockwise when the target exceeds the twist (R114). -/
def directionTo (twist target : Int) : Direction := if twist < target then .clockwise else .counterClockwise

/-- R114: the way taken for the target error `e`. -/
def chooseWay (twist : Int) (soft : Nat) (e : Int) : Int :=
  if (twist + e).natAbs ≤ soft ∨ (twist + e).natAbs ≤ twist.natAbs then e else e - 3600 * e.sign

/-- R114: the decided move. -/
def State.decidedMove (s : State) : Move :=
  let target := s.ywc.twist + chooseWay s.ywc.twist s.ywc.params.softLimit s.targetError
  { target := target, direction := directionTo s.ywc.twist target, urgent := s.ywc.urgent, untwist := false }

/-- R113, R114: the decision in IDLE. -/
def State.decideMove (s : State) : State :=
  if s.decides then
    (s.setYwc { s.ywc with
      offsetInUse := s.candidateOffset, steering := s.steers, bypass := false, urgent := false }).enterRequestPower s.decidedMove
  else s

/-! ## Stall (R120) -/

/-- R120: the stall check in MOVING. A stop cause by the yaw stop of the record or by the stall itself enters
BRAKE_APPLY once (DEDUCED, safe: log entry 32). -/
def State.stallCheck (s : State) : State :=
  let count := if (s.ywc.twist - s.ywc.stallRef).natAbs < 5 then s.ywc.stallCount + 1 else 0
  let s := s.setYwc { s.ywc with stallRef := s.ywc.twist, stallCount := count }
  if 3 ≤ count then (s.report (.present .yawStall s.ywc.twist)).yawStopCause false else s

/-- R107: a yaw evaluation. The steps are taken in their order, so a bypass that R108 sets at step 3 already lets step 7 of
the same evaluation decide a move, where the Note of R108 speaks of the next evaluation (DEDUCED, unsafe: log entry 42). -/
def State.evaluateYaw (s : State) : State :=
  let s := s.setYwc s.ywc.takeSample
  let s := s.setYwc { s.ywc with windDirection := s.ywc.filteredWind }
  let s := s.countMisalignment
  match s.ywc.state with
  | .idle => s.decideMove
  | .moving => s.stallCheck
  | .requestPower | .brakeRelease | .brakeApply => s

/-- R107: the yaw evaluation timer expires; the next expiry falls 1000 ms after this one. -/
def State.yawEvaluation (s : State) : State :=
  s.atDue s.ywc.evalDue fun t => (t.setYwc { t.ywc with evalDue := s.ywc.evalDue.map (· + ms 1000) }).evaluateYaw

/-! ## The brake (R116, R121 to R123) -/

/-- R116, R121, R122, R123: a change of the brake released input. -/
def State.brakeInput (s : State) (level : Bool) : State :=
  if s.ywc.brakeIn = level then s
  else
    let s := s.setYwc (s.ywc.setBrake s.clock s.ywc.releaseOut level)
    let s := if !level && !s.ywc.releaseOut then s.reportGone .brakeApplyFail else s
    match s.ywc.state, level with
    | .brakeRelease, true => s.setYwc (s.ywc.enterMoving s.clock s.apa.yawGranted)
    | .brakeApply, false => s.endMove
    | .brakeRelease, false | .brakeApply, true | .idle, _ | .requestPower, _ | .moving, _ => s

/-- R122: the release monitor expires. -/
def State.releaseMonitor (s : State) : State :=
  s.atDue s.ywc.releaseDue fun s =>
    let value : Int := if s.ywc.state = .moving then 2 else 1
    ((s.setYwc { s.ywc with releaseDue := none }).report (.present .brakeReleaseFail value)).yawStopCause false

/-- R123, R121: the apply monitor expires. -/
def State.applyMonitor (s : State) : State :=
  s.atDue s.ywc.applyDue fun s =>
    let value : Int := if s.ywc.state = .brakeApply then 1 else 2
    let s := (s.setYwc { s.ywc with applyDue := none }).report (.present .brakeApplyFail value)
    match s.ywc.state with
    | .brakeApply => s.endMove
    | .idle | .requestPower | .brakeRelease | .moving => s

/-- R122: the brake retry timer expires. -/
def State.brakeRetryTimer (s : State) : State :=
  s.atDue s.ywc.retryDue fun s => (s.setYwc { s.ywc with retryDue := none }).report (.gone .brakeReleaseFail)

/-! ## Twist (R118, R125 to R128) -/

/-- R125: the signed nacelle angle. -/
def nacelleSigned (angle : Nat) : Int := if angle ≤ 1799 then angle else (angle : Int) - 3600

/-- The twist kept within −10800..+10800. -/
def saturateTwist (t : Int) : Int := max (-10800) (min 10800 t)

/-- R125, R126: the counter takes a value, with the reports of TWIST_RANGE. -/
def State.takeTwist (s : State) (t : Int) : State :=
  let s := s.setYwc { s.ywc with twist := saturateTwist t }
  if 10800 < t.natAbs then s.report (.present .twistRange t)
  else if t.natAbs < 10800 then s.reportGone .twistRange
  else s

/-- R127: the comparison with the hard limit. -/
def State.compareHardLimit (s : State) : State :=
  if s.ywc.params.hardLimit < s.ywc.twist.natAbs then
    if s.flm.holds .twistHardLimit then s else s.report (.present .twistHardLimit s.ywc.twist)
  else s.reportGone .twistHardLimit

/-- R125: the start of the twist counter from the zone sensor (DESIGN CHOICE, safe: log entry 21). -/
def State.startTwist (s : State) (zone : Option Int) : State :=
  let s := s.setYwc { s.ywc with twistKnown := true, prevAngle := s.ywc.angle }
  match zone with
  | some z => s.takeTwist (nacelleSigned s.ywc.angle + 3600 * z)
  | none => (s.report (.present .twistUnknown 0)).takeTwist (nacelleSigned s.ywc.angle)

/-- R126: a reading after the start. -/
def State.moveTwist (s : State) : State :=
  let t := s.ywc.twist + wrapAngle ((s.ywc.angle : Int) - s.ywc.prevAngle)
  (s.setYwc { s.ywc with prevAngle := s.ywc.angle }).takeTwist t

/-- R118: the twist has reached or passed the move's target. -/
def Move.reached (m : Move) (twist : Int) : Bool :=
  (twist - m.target).natAbs ≤ 10 ||
    (match m.direction with
     | .clockwise => decide (m.target ≤ twist)
     | .counterClockwise => decide (twist ≤ m.target))

/-- R118: the target is looked for in MOVING. -/
def State.seekTarget (s : State) : State :=
  if s.ywc.state = .moving ∧ s.ywc.move.any (·.reached s.ywc.twist) then s.enterBrakeApply else s

/-- R105, R118, R125 to R127: an encoder reading. Until a load completes the hard limit is not compared. -/
def State.encoderReading (s : State) (angle : Fin 3600) (zone : Option Int) : State :=
  let s := s.setYwc { s.ywc with angle := angle.val }
  let s := if s.ywc.twistKnown then s.moveTwist else s.startTwist zone
  let s := if s.osc.state.isUnloaded then s else s.compareHardLimit
  s.seekTarget

/-- R128: the zone re-read at FAULT RESET. -/
def State.rereadZone (s : State) (zone : Option Int) : State :=
  if s.ywc.state = .idle ∧ s.ywc.twistKnown then
    match zone with
    | some z =>
      let s := (s.reportGone .twistUnknown).takeTwist (nacelleSigned s.ywc.angle + 3600 * z)
      if s.osc.state.isUnloaded then s else s.compareHardLimit
    | none => if s.flm.holds .twistUnknown then s else s.report (.present .twistUnknown 0)
  else s

/-! ## Hold, release, untwist (R129 to R131) -/

/-- R129: YAW HOLD. -/
def State.yawHold (s : State) : State := (s.setYwc { s.ywc with hold := true }).yawStopCause true

/-- R129: YAW RELEASE. -/
def State.yawRelease (s : State) : State := s.setYwc { s.ywc with hold := false }

/-- R130: the whole turns nearest to the twist, halves away from zero. -/
def wholeTurns (twist : Int) : Int := twist.sign * ((2 * twist.natAbs + 3600) / 7200 : Nat)

/-- R130: UNTWIST makes no move. -/
def State.untwistIdle (s : State) : Bool :=
  wholeTurns s.ywc.twist == 0 || !s.ywc.twistKnown || s.osc.state.isUnloaded || s.flm.reaction.untwistYawStop

/-- R130: the untwist move. -/
def State.untwistMove (s : State) : Move :=
  let target := s.ywc.twist - 3600 * wholeTurns s.ywc.twist
  { target := target, direction := directionTo s.ywc.twist target, urgent := true, untwist := true }

/-- R130: UNTWIST in yaw state IDLE. -/
def State.untwist (s : State) : State := if s.untwistIdle then s else s.enterRequestPower s.untwistMove

/-- R130: the reply data of an accepted UNTWIST. -/
def State.untwistData (s : State) : Half := if s.untwistIdle then 0 else BitVec.ofInt 16 (wholeTurns s.ywc.twist)

/-! ## Meanings -/

def execEncoderReading (dt : Clocks) (angle : Fin 3600) (zone : Option Int) (s : State) : Host.Outcome State Fault Refusal :=
  .next ((s.elapse dt).encoderReading angle zone)
def execPlatformHeadingReading (dt : Clocks) (reading : Option (Fin 3600)) (s : State) : Host.Outcome State Fault Refusal :=
  .next ((s.elapse dt).platformReading reading)
def execVaneReading (dt : Clocks) (reading : Option (Fin 3600)) (s : State) : Host.Outcome State Fault Refusal :=
  .next ((s.elapse dt).vaneReading reading)
def execWindSpeedReading (dt : Clocks) (reading : Option (Fin 801)) (s : State) : Host.Outcome State Fault Refusal :=
  .next ((s.elapse dt).windReading reading)
def execVaneInvalidTimerExpiry (s : State) : Host.Outcome State Fault Refusal := .next s.vaneInvalidTimer
def execYawEvaluation (s : State) : Host.Outcome State Fault Refusal := .next s.yawEvaluation
def execWaitPowerTimerExpiry (s : State) : Host.Outcome State Fault Refusal := .next s.waitPowerTimer
def execBrakeReleasedInput (dt : Clocks) (level : Bool) (s : State) : Host.Outcome State Fault Refusal :=
  .next ((s.elapse dt).brakeInput level)
def execReleaseMonitorExpiry (s : State) : Host.Outcome State Fault Refusal := .next s.releaseMonitor
def execApplyMonitorExpiry (s : State) : Host.Outcome State Fault Refusal := .next s.applyMonitor
def execBrakeRetryTimerExpiry (s : State) : Host.Outcome State Fault Refusal := .next s.brakeRetryTimer
def execDriveReadyInput (dt : Clocks) (drive : Fin 6) (level : Bool) (s : State) : Host.Outcome State Fault Refusal :=
  .next ((s.elapse dt).driveReady drive level)
def execDriveRunningInput (dt : Clocks) (drive : Fin 6) (level : Bool) (s : State) : Host.Outcome State Fault Refusal :=
  .next ((s.elapse dt).driveRunning drive level)
def execDriveFeedbackTimerExpiry (drive : Fin 6) (s : State) : Host.Outcome State Fault Refusal := .next (s.driveFeedback drive)

end Sys2Proof.Machine
end

