-- ==== Sys2Proof/Machine/Cooling.lean ====
section
/-! DEFINITION. The cooling controller (7.1 to 7.10) and the meanings of the commands TEMPERATURE_READING to
FAN_FEEDBACK_TIMER_EXPIRY. -/

namespace Sys2Proof.Machine

/-! ## Temperatures (R133, R134) -/

/-- The four channels the CLC uses: 1, 2, 3 and 7 of 0.5, numbered from 0 here (DEDUCED, safe: log entry 26). -/
def Clc.channel? (c : Clc) (i : Fin 8) : Option TempChannel :=
  if i = 0 then some c.convIn
  else if i = 1 then some c.convOut
  else if i = 2 then some c.genOut
  else if i = 6 then some c.cable
  else none

/-- One of the four channels changed; the other numbers name no channel of the CLC. -/
def Clc.setChannel (c : Clc) (i : Fin 8) (t : TempChannel) : Clc :=
  if i = 0 then { c with convIn := t }
  else if i = 1 then { c with convOut := t }
  else if i = 2 then { c with genOut := t }
  else if i = 6 then { c with cable := t }
  else c

/-- R134: the bitmap of the OUT channels. -/
def Clc.outBitmap (c : Clc) : Nat := bitmap fun i : Fin 8 => (c.channel? i).any (·.validity == .out)

/-- R133: the channel after a reading. -/
def TempChannel.take (now : Clocks) (t : TempChannel) : Option Int → TempChannel
  | some v => { held := v, validity := .valid, holdDue := none }
  | none =>
    match t.validity with
    | .valid => { t with validity := .holding, holdDue := some (now + ms 10000) }
    | .holding | .out => t

/-- R133, R134: a temperature reading. -/
def State.temperatureReading (s : State) (i : Fin 8) (reading : Option Int) : State :=
  match s.clc.channel? i with
  | none => s
  | some t =>
    let s := s.setClc (s.clc.setChannel i (t.take s.clock reading))
    if t.validity = .out ∧ reading.isSome then
      if s.clc.outBitmap = 0 then s.report (.gone .tempSensorInvalid)
      else s.report (.present .tempSensorInvalid s.clc.outBitmap)
    else s

/-- R134: a hold timer expires. -/
def State.holdTimer (s : State) (i : Fin 8) : State :=
  match s.clc.channel? i with
  | none => s
  | some t =>
    s.atDue t.holdDue fun s =>
      let s := s.setClc (s.clc.setChannel i { t with validity := .out, holdDue := none })
      s.report (.present .tempSensorInvalid s.clc.outBitmap)

/-! ## Pumps (R135, R138 to R140) -/

/-- A pump is DUTY. -/
def Clc.onDuty (c : Clc) : Bool := c.pumps.toList.any (·.state == .duty)

/-- R139: the flow monitor's condition. -/
def Clc.lowFlow (c : Clc) : Bool := c.onDuty && c.flow < c.minFlowInForce

/-- R138: the pump is watched, and its run output and running input disagree. -/
def Pump.disagrees (p : Pump) : Bool := p.state != .failed && (p.state == .duty) != p.runIn

/-- A pump with its state or input changed, and its feedback timer following (R138). -/
def Pump.change (now : Clocks) (old new : Pump) : Pump :=
  { new with feedbackDue := monitor now (ms 2000) old.disagrees new.disagrees old.feedbackDue }

/-- R135, R139: a coolant flow reading. -/
def State.flowReading (s : State) (reading : Option (Fin 2001)) : State :=
  match reading with
  | none => s
  | some v =>
    s.watchFlow fun s =>
      let c := { s.clc with flow := v.val }
      s.setClc { c with flowDue := if c.lowFlow then some (c.flowDue.getD (s.after (ms 5000))) else none }

/-- The other pump. -/
def otherPump (i : Fin 2) : Fin 2 := if i = 0 then 1 else 0

/-- A pump becomes DUTY: its run output turns on, and the flow monitor starts where the flow is low (R139, R140). -/
def Clc.takeDuty (now : Clocks) (c : Clc) (i : Fin 2) : Clc :=
  let c := { c with pumps := update c.pumps i fun p => p.change now { p with state := .duty } }
  { c with flowDue := if c.flow < c.minFlowInForce then some (now + ms 5000) else none }

/-- R140: a pump fails. -/
def State.failPump (s : State) (i : Fin 2) : State :=
  let wasDuty := s.clc.pumps[i].state == .duty
  let c := { s.clc with pumps := update s.clc.pumps i fun p => { p with state := .failed, feedbackDue := none } }
  let s := s.setClc (if wasDuty then { c with flowDue := none } else c)
  let s := s.report (.present .pumpFail (i.val + 1 : Nat))
  if wasDuty then
    match s.clc.pumps[otherPump i].state with
    | .standby => s.setClc (s.clc.takeDuty s.clock (otherPump i))
    | .failed | .duty => s.report (.present .coolingLost s.clc.flow)
  else s

/-- R139: the flow monitor expires. -/
def State.flowMonitor (s : State) : State :=
  s.atDue s.clc.flowDue fun s =>
    match lowest? fun i : Fin 2 => s.clc.pumps[i].state == .duty with
    | some i => s.watchFlow (·.failPump i)
    | none => s

/-- R138: a pump's running input. -/
def State.pumpRunning (s : State) (i : Fin 2) (level : Bool) : State :=
  s.watchFlow fun s =>
    s.setClc { s.clc with pumps := update s.clc.pumps i fun p => p.change s.clock { p with runIn := level } }

/-- R138: a pump's feedback timer expires. -/
def State.pumpFeedback (s : State) (i : Fin 2) : State :=
  s.atDue s.clc.pumps[i].feedbackDue fun s => s.watchFlow (·.failPump i)

/-! ## Fans (R141 to R144) -/

/-- R143: the bitmap of FAILED fans. -/
def Clc.failedFans (c : Clc) : Nat := bitmap fun f : Fin 4 => c.fans[f].failed

/-- R143: a fan's running input. -/
def State.fanRunning (s : State) (f : Fin 4) (level : Bool) : State :=
  s.setClc { s.clc with fans := update s.clc.fans f fun x => x.change s.clock { x with runIn := level } }

/-- R143: a fan fails; a running one is replaced under its grant, or its grant is released. -/
def State.failFan (s : State) (f : Fin 4) : State :=
  let wasRunning := s.clc.fans[f].runOut
  let s := s.setClc { s.clc with
    fans := update s.clc.fans f fun x => x.change s.clock { x with failed := true, runOut := false } }
  let s := s.report (.present .fanFail s.clc.failedFans)
  if wasRunning then
    if s.clc.usableFans < s.apa.fansGranted then (s.setApa { s.apa with fansGranted := s.apa.fansGranted - 1 }).examine
    else
      match s.clc.fanToStart with
      | some g => s.setClc (s.clc.setFanOut s.clock g true)
      | none => s
  else s

/-- R143: a fan's feedback timer expires. -/
def State.fanFeedback (s : State) (f : Fin 4) : State := s.atDue s.clc.fans[f].feedbackDue (·.failFan f)

/-- R141: a stage flag at the staging temperature `t`. -/
def stageFlag (threshold t : Int) (flag : Bool) : Bool :=
  if threshold ≤ t then true else if t < threshold - 30 then false else flag

/-- R141: the stage flags. -/
def Clc.stage (c : Clc) : Clc :=
  { c with stageFlags := Vector.ofFn fun k : Fin 4 => stageFlag c.params.stages[k] c.overrideTemp c.stageFlags[k] }

/-- R141: the desired stage. -/
def Clc.desiredStage (c : Clc) : Nat := countSet c.stageFlags

/-- R141: the target stage. -/
def Clc.targetStage (c : Clc) : Nat := min c.desiredStage c.usableFans

/-- R142, R161: a waiting fan request is withdrawn. -/
def State.withdrawFan (s : State) : State :=
  if s.apa.fanRequest then (s.setApa { s.apa with fanRequest := false }).examine else s

/-- R142, R161, R162: what the CLC does about its fan grants at an evaluation. -/
def State.actOnFans (s : State) : State :=
  let target := s.clc.targetStage
  if s.apa.fansGranted < target then (s.setApa { s.apa with fanRequest := true }).examine
  else
    let surplus := s.apa.fansGranted - target
    s.withdrawFan.releaseFans surplus

/-! ## Valve, thermal limit, temperatures (R145 to R148) -/

/-- R145: the condensation raise applies. -/
def Cts.condensation (c : Cts) : Bool := c.channels[4].reported == some .wet || c.channels[5].reported == some .wet

/-- R145: the valve position. -/
def valvePosition (out : Bool) (t target : Int) : Nat :=
  if out then 1000 else (max 0 (min 1000 (500 + ((t - target) * 5).tdiv 2))).toNat

/-- R145. -/
def State.formValve (s : State) : State :=
  let target := s.clc.params.valveTarget + (if s.cts.condensation then 50 else 0)
  s.setClc { s.clc with valve := valvePosition (s.clc.convIn.validity == .out) s.clc.convIn.held target }

/-- R146: the limit of one channel. -/
def channelLimit (rated : Nat) (knee trip t : Int) : Nat :=
  if t ≤ knee then rated
  else if trip ≤ t then 0
  else ((rated * (trip - t)) / (trip - knee)).toNat

/-- R146: the limit a channel gives, none while it is OUT. -/
def Clc.limit? (c : Clc) (rated : Nat) (t : TempChannel) : Option Nat :=
  if t.validity = .out then none else some (channelLimit rated c.params.knee c.params.tripTemp t.held)

/-- R146: T_own, the smaller of the limits formed; 0 when none is. -/
def Clc.thermalLimit (c : Clc) (rated : Nat) : Nat :=
  match c.limit? rated c.convOut, c.limit? rated c.genOut with
  | some a, some b => min a b
  | some a, none => a
  | none, some b => b
  | none, none => 0

/-- R146: the CLC forms T_own. -/
def State.formThermalLimit (s : State) : State := s.setClc { s.clc with tOwn := s.clc.thermalLimit s.ratedOwn }

/-- R147: OVERTEMPERATURE. -/
def State.judgeOvertemperature (s : State) : State :=
  let t := s.clc.convOut
  if t.validity = .out then s
  else if 700 ≤ t.held then (if s.flm.holds .overtemperature then s else s.report (.present .overtemperature t.held))
  else s.reportGone .overtemperature

/-- R148: STRING_CABLE_HOT. -/
def State.judgeCable (s : State) : State :=
  let t := s.clc.cable
  if t.validity = .out then s
  else if s.clc.params.cableLimit < t.held then
    (if s.flm.holds .stringCableHot then s else s.report (.present .stringCableHot t.held))
  else if t.held ≤ s.clc.params.cableLimit - 20 then s.reportGone .stringCableHot
  else s

/-- R136: from this cooling evaluation on the minimum flow of the parameters applies. A change of pump delivering flow by it
has the OSC test the start conditions, and the flow monitor stays as it is (DEDUCED, unsafe: log entry 18). -/
def State.takeMinFlow (s : State) : State :=
  s.watchFlow fun s => s.setClc { s.clc with minFlowInForce := s.clc.params.minFlow }

/-- R137: a cooling evaluation, with the parameters of R136 in force. -/
def State.evaluateCooling (s : State) : State :=
  let s := s.takeMinFlow
  let s := (s.setClc s.clc.stage).actOnFans
  (s.formValve.formThermalLimit).judgeOvertemperature.judgeCable

/-- R137: the cooling evaluation timer expires; the next expiry falls 1000 ms after this one. -/
def State.coolingEvaluation (s : State) : State :=
  let due := s.clc.evalDue
  let s := s.runTo due
  (s.setClc { s.clc with evalDue := due + ms 1000 }).evaluateCooling

/-! ## FAULT RESET (R150) -/

/-- R150: a FAILED pump whose running input is off becomes STANDBY. -/
def Pump.review (p : Pump) : Pump :=
  if p.state = .failed ∧ !p.runIn then { p with state := .standby, feedbackDue := none } else p

/-- R150: a FAILED fan whose running input is off becomes usable. -/
def Fan.review (f : Fan) : Fan := if f.failed ∧ !f.runIn then { f with failed := false, feedbackDue := none } else f

/-- R150: the lowest-numbered FAILED pump. -/
def Clc.failedPump? (c : Clc) : Option (Fin 2) := lowest? fun i => c.pumps[i].state == .failed

/-- R150: with no pump DUTY, the lowest-numbered STANDBY pump takes duty. -/
def State.resumeDuty (s : State) : State :=
  if s.clc.onDuty then s
  else
    match lowest? fun i : Fin 2 => s.clc.pumps[i].state == .standby with
    | some i => (s.setClc (s.clc.takeDuty s.clock i)).reportGone .coolingLost
    | none => s

/-- R150: the review of pump and fan marks. A pump that stays FAILED is reported again by its number, the lowest where
both do (DESIGN CHOICE, unsafe: log entry 12). -/
def State.reviewCooling (s : State) : State :=
  let s := s.setClc { s.clc with pumps := mapTable s.clc.pumps Pump.review, fans := mapTable s.clc.fans Fan.review }
  let s := s.resumeDuty
  let s :=
    match s.clc.failedPump? with
    | some i => s.report (.present .pumpFail (i.val + 1 : Nat))
    | none => s.reportGone .pumpFail
  if s.clc.failedFans = 0 then s.reportGone .fanFail else s.report (.present .fanFail s.clc.failedFans)

/-! ## Meanings -/

def execTemperatureReading (dt : Clocks) (channel : Fin 8) (reading : Option Int) (s : State) : Host.Outcome State Fault Refusal :=
  .next ((s.elapse dt).temperatureReading channel reading)
def execHoldTimerExpiry (channel : Fin 8) (s : State) : Host.Outcome State Fault Refusal := .next (s.holdTimer channel)
def execFlowReading (dt : Clocks) (reading : Option (Fin 2001)) (s : State) : Host.Outcome State Fault Refusal :=
  .next ((s.elapse dt).flowReading reading)
def execFlowMonitorExpiry (s : State) : Host.Outcome State Fault Refusal := .next s.flowMonitor
def execPumpRunningInput (dt : Clocks) (pump : Fin 2) (level : Bool) (s : State) : Host.Outcome State Fault Refusal :=
  .next ((s.elapse dt).pumpRunning pump level)
def execPumpFeedbackTimerExpiry (pump : Fin 2) (s : State) : Host.Outcome State Fault Refusal := .next (s.pumpFeedback pump)
def execCoolingEvaluation (s : State) : Host.Outcome State Fault Refusal := .next s.coolingEvaluation
def execFanRunningInput (dt : Clocks) (fan : Fin 4) (level : Bool) (s : State) : Host.Outcome State Fault Refusal :=
  .next ((s.elapse dt).fanRunning fan level)
def execFanFeedbackTimerExpiry (fan : Fin 4) (s : State) : Host.Outcome State Fault Refusal := .next (s.fanFeedback fan)

end Sys2Proof.Machine
end

