-- ==== Sys2Proof/Machine/Sensing.lean ====
section
/-! DEFINITION. The charge-timing sense unit (7.12) and the meanings of the commands SCAN_TIMER_EXPIRY to
CEILING_REACHED. -/

namespace Sys2Proof.Machine

/-! ## The conditions (R157) -/

/-- R157: the bitmap of channels whose reported class satisfies `p`. -/
def Cts.classBitmap (c : Cts) (p : Fin 8 → Option RawClass → Bool) : Nat := bitmap fun n : Fin 8 => p n c.channels[n].reported

/-- R157: the four bitmaps. -/
def Cts.leakBitmap (c : Cts) : Nat := c.classBitmap fun n r => n.val < 4 && r == some .wet
def Cts.condensationBitmap (c : Cts) : Nat := c.classBitmap fun n r => (n.val == 4 || n.val == 5) && r == some .wet
def Cts.lowBitmap (c : Cts) : Nat := c.classBitmap fun n r => 6 ≤ n.val && r == some .dry
def Cts.faultBitmap (c : Cts) : Nat := c.classBitmap fun _ r => r == some .opened || r == some .noTrip

/-- R157: what `act` does to the CTS, and then each bitmap reported where it has changed, in the order of the table
(DESIGN CHOICE, unsafe: log entry 16). -/
def State.watchSense (s : State) (act : Cts → Cts) : State :=
  let old := s.cts
  let new := act old
  let s := s.setCts new
  let s := s.reportBitmap .coolantLeak old.leakBitmap new.leakBitmap
  let s := s.reportBitmap .condensation old.condensationBitmap new.condensationBitmap
  let s := s.reportBitmap .coolantLow old.lowBitmap new.lowBitmap
  s.reportBitmap .senseChannelFault old.faultBitmap new.faultBitmap

/-! ## Classes (R155, R156) -/

/-- R155: the raw class of a count, below the ceiling. -/
def SenseChannel.classify (c : SenseChannel) (n : Nat) : RawClass :=
  if n < c.baseline / 2 then .opened else if c.baseline + c.margin < n then .wet else .dry

/-- R156: the debounce. -/
def SenseChannel.debounce (c : SenseChannel) (raw : RawClass) : SenseChannel :=
  let c := { c with raw := some raw }
  if c.reported = some raw then { c with candidate := none, agree := 0 }
  else if c.candidate = some raw then
    if c.agree + 1 = 3 then { c with reported := some raw, candidate := none, agree := 0 }
    else { c with agree := c.agree + 1 }
  else { c with candidate := some raw, agree := 1 }

/-! ## Scans (R153, R154) -/

/-- R153: the first scanned channel from `n` on. -/
def Cts.scannedFrom? (c : Cts) (n : Nat) : Option (Fin 8) := lowest? fun i : Fin 8 => n ≤ i.val && c.channels[i].scanned

/-- R153, R154: the measurement of the first scanned channel from `n` on starts with its discharge; with none the scan ends. -/
def Cts.measureFrom (now : Clocks) (n : Nat) (c : Cts) : Cts :=
  { c with scan := (c.scannedFrom? n).map fun i => { channel := i, phase := .discharging (now + us 50) } }

/-- R154: the clock periods that `n` periods of the modulation clock take, rounded down for the slow clock
(DEDUCED, unsafe: log entry 23). -/
def Cts.countTime (c : Cts) (n : Nat) : Clocks := if c.clockSel < 7 then n * (5 * 2 ^ c.clockSel) else n * 78125 / 128

/-- R153: the scan timer expires; the next expiry falls 2000 ms after this one. -/
def State.scanTimer (s : State) : State :=
  s.atDue s.cts.scanDue fun t =>
    t.setCts { t.cts.measureFrom t.clock 0 with scanDue := s.cts.scanDue.map (· + ms 2000) }

/-- R154: the discharge ends, and counting begins. -/
def State.dischargeEnd (s : State) : State :=
  match s.cts.scan with
  | some { channel := i, phase := .discharging due } =>
    let s := s.runTo due
    s.setCts { s.cts with scan := some { channel := i, phase := .counting s.clock } }
  | some { channel := _, phase := .counting _ } | none => s

/-- R155 to R157, R153: a reading of channel `i`, and the start of the next channel. -/
def State.takeReading (s : State) (i : Fin 8) (raw : RawClass) : State :=
  let s := s.watchSense fun c => { c with channels := update c.channels i (·.debounce raw) }
  s.setCts (s.cts.measureFrom s.clock (i.val + 1))

/-- R154: the comparator trips after `n` periods; at the ceiling or above it no trip is awaited any more (DESIGN CHOICE, unsafe: log entry 7). -/
def State.comparatorTrip (s : State) (n : Nat) : State :=
  match s.cts.scan with
  | some { channel := i, phase := .counting since } =>
    if n < s.cts.channels[i].ceiling then
      (s.runTo (since + s.cts.countTime n)).takeReading i (s.cts.channels[i].classify n)
    else s
  | some { channel := _, phase := .discharging _ } | none => s

/-- R154: the count reaches the ceiling without a trip. -/
def State.ceilingReached (s : State) : State :=
  match s.cts.scan with
  | some { channel := i, phase := .counting since } =>
    (s.runTo (since + s.cts.countTime s.cts.channels[i].ceiling)).takeReading i .noTrip
  | some { channel := _, phase := .discharging _ } | none => s

/-- R152, R158: the channel with its class UNKNOWN and its candidate cleared. -/
def SenseChannel.forget (c : SenseChannel) : SenseChannel := { c with reported := none, candidate := none, agree := 0 }

/-- R158: the CTS when the OSC enters UNCONFIGURED. -/
def State.stopSensing (s : State) : State :=
  s.watchSense fun c => { c with scan := none, scanDue := none, channels := mapTable c.channels SenseChannel.forget }

/-! ## Meanings -/

def execScanTimerExpiry (s : State) : Host.Outcome State Fault Refusal := .next s.scanTimer
def execDischargeEnd (s : State) : Host.Outcome State Fault Refusal := .next s.dischargeEnd
def execComparatorTrip (count : Nat) (s : State) : Host.Outcome State Fault Refusal := .next (s.comparatorTrip count)
def execCeilingReached (s : State) : Host.Outcome State Fault Refusal := .next s.ceilingReached

end Sys2Proof.Machine
end

