-- ==== Sys2Proof/Machine/Image.lean ====
section
/-! DEFINITION. The configuration image (10.2, 10.3): its records, the walk of R194, the settling of R196 and the checks
of R195. Nothing here touches the state: an image is judged in the loader's staging copy. -/

namespace Sys2Proof.Machine

/-! ## Records (10.2.2) -/

/-- The tables of an image. -/
inductive Table where
  | station | peer | sector | offset | cooling | sense | loads
  deriving DecidableEq, Repr

def Table.ofId (id : Nat) : Option Table :=
  match id with
  | 1 => some .station | 2 => some .peer | 3 => some .sector | 4 => some .offset | 5 => some .cooling
  | 6 => some .sense | 7 => some .loads | _ => none

/-- How many indices a table has, from 0. -/
def Table.indices : Table → Nat
  | .station => 1 | .peer => 12 | .sector => 24 | .offset => 8 | .cooling => 1 | .sense => 8 | .loads => 1

def Table.dataLength : Table → Nat
  | .station => 23 | .peer => 4 | .sector => 3 | .offset => 2 | .cooling => 19 | .sense => 6 | .loads => 10

/-- A STATION record. -/
structure StationRecord where
  cCfg : Nat
  rampUp : Nat
  rampDown : Nat
  fCab : Nat
  cap : Nat
  strobe : Nat
  autoStart : Bool
  startThreshold : Nat
  softLimit : Nat
  hardLimit : Nat
  bandLower : Nat
  bandUpper : Nat
  deriving DecidableEq, Repr

/-- A SECTOR record. -/
structure SectorRecord where
  steer : Bool
  restrict : Bool
  partner : Nat
  offsetRef : Nat
  deriving DecidableEq, Repr

/-- A COOLING record. -/
structure CoolingRecord where
  params : CoolingParams
  clockSel : Nat
  deriving DecidableEq, Repr

/-- A SENSE record. -/
structure SenseRecord where
  baseline : Nat
  margin : Nat
  ceiling : Nat
  deriving DecidableEq, Repr

/-- The staging copy of R194. -/
structure Staging where
  station : Option StationRecord
  peers : Vector (Option Descriptor) 12
  sectors : Vector (Option SectorRecord) 24
  offsets : Vector (Option Int) 8
  cooling : Option CoolingRecord
  sense : Vector (Option SenseRecord) 8
  loads : Option Figures
  deriving DecidableEq, Repr

def emptyStaging : Staging :=
  { station := none, peers := Vector.replicate 12 none, sectors := Vector.replicate 24 none,
    offsets := Vector.replicate 8 none, cooling := none, sense := Vector.replicate 8 none, loads := none }

/-- A signed two-byte field (0.7). -/
def s16At (bs : List Byte) (k : Nat) : Int := (u16At bs k).toInt

def readStation (d : List Byte) : StationRecord :=
  { cCfg := (u32At d 0).toNat, rampUp := (u16At d 4).toNat, rampDown := (u16At d 6).toNat, fCab := (u16At d 8).toNat,
    cap := (u8At d 10).toNat, strobe := (u8At d 11).toNat, autoStart := (u8At d 12).getLsbD 0,
    startThreshold := (u16At d 13).toNat, softLimit := (u16At d 15).toNat, hardLimit := (u16At d 17).toNat,
    bandLower := (u16At d 19).toNat, bandUpper := (u16At d 21).toNat }

def readPeer (d : List Byte) : Descriptor :=
  { station := (u8At d 0).toNat, rated := (u16At d 1).toNat, excluded := (u8At d 3).getLsbD 0,
    cableMonitor := (u8At d 3).getLsbD 1 }

def readSector (d : List Byte) : SectorRecord :=
  { steer := (u8At d 0).getLsbD 0, restrict := (u8At d 0).getLsbD 1, partner := (u8At d 1).toNat,
    offsetRef := (u8At d 2).toNat }

def readCooling (d : List Byte) : CoolingRecord :=
  { params :=
      { stages := #v[s16At d 0, s16At d 2, s16At d 4, s16At d 6], valveTarget := s16At d 8, knee := s16At d 10,
        tripTemp := s16At d 12, minFlow := (u16At d 14).toNat, cableLimit := s16At d 16 }
    clockSel := (u8At d 18).toNat }

def readSense (d : List Byte) : SenseRecord :=
  { baseline := (u16At d 0).toNat, margin := (u16At d 2).toNat, ceiling := (u16At d 4).toNat }

def readLoads (d : List Byte) : Figures :=
  { budget := (u16At d 0).toNat, budgetRt := (u16At d 2).toNat, pumpLoad := (u16At d 4).toNat,
    fanLoad := (u16At d 6).toNat, yawLoad := (u16At d 8).toNat }

/-- R194: a record placed in its table at its index; the last one stands. -/
def Staging.place (st : Staging) (t : Table) (i : Nat) (d : List Byte) : Staging :=
  match t with
  | .station => { st with station := some (readStation d) }
  | .peer => if h : i < 12 then { st with peers := st.peers.set i (some (readPeer d)) } else st
  | .sector => if h : i < 24 then { st with sectors := st.sectors.set i (some (readSector d)) } else st
  | .offset => if h : i < 8 then { st with offsets := st.offsets.set i (some (s16At d 0)) } else st
  | .cooling => { st with cooling := some (readCooling d) }
  | .sense => if h : i < 8 then { st with sense := st.sense.set i (some (readSense d)) } else st
  | .loads => { st with loads := some (readLoads d) }

/-! ## The walk (R194) -/

/-- What judging an image gives: the staging copy, or the detail code of the refusal. -/
inductive Judged where
  | good (st : Staging)
  | refuse (code : Nat)
  deriving DecidableEq, Repr

/-- R194: the walk over exactly `count` records, which must end where the bytes end. -/
def walk : Nat → List Byte → Staging → Judged
  | 0, [], st => .good st
  | 0, _ :: _, _ => .refuse 4
  | count + 1, id :: index :: len :: rest, st =>
    if rest.length < len.toNat then .refuse 4
    else
      match Table.ofId id.toNat with
      | none => .refuse 5
      | some t =>
        if t.indices ≤ index.toNat then .refuse 6
        else if len.toNat ≠ t.dataLength then .refuse 4
        else walk count (rest.drop len.toNat) (st.place t index.toNat (rest.take len.toNat))
  | _ + 1, _, _ => .refuse 4

/-! ## Settling (R196) -/

/-- R196: a ramp step. -/
def settleRamp (u : Nat) : Nat := if u = 0 then 1 else min 5000 u

/-- R196, R111: an offset brought to the nearer end of −300..+300. -/
def settleOffset (o : Int) : Int := max (-300) (min 300 o)

/-- R196: the STATION record. -/
def StationRecord.settle (r : StationRecord) : StationRecord :=
  let noBand := r.bandLower = 0 ∧ r.bandUpper = 0
  { r with
    rampUp := settleRamp r.rampUp, rampDown := settleRamp r.rampDown, cap := min 100 r.cap
    startThreshold := if r.startThreshold = 0 then 80 else r.startThreshold
    softLimit := if r.softLimit = 0 then 7200 else r.softLimit
    hardLimit := if r.hardLimit = 0 then 9000 else r.hardLimit
    bandLower := if noBand then 50 else r.bandLower
    bandUpper := if noBand then 120 else r.bandUpper }

/-- R196. -/
def Staging.settle (st : Staging) : Staging :=
  { st with station := st.station.map (·.settle), offsets := mapTable st.offsets (·.map settleOffset) }

/-! ## The checks (R195) -/

/-- The PEER records of the staging copy. -/
def Staging.peerList (st : Staging) : List Descriptor := st.peers.toList.filterMap id

/-- A temperature field in −400..+1500. -/
def goodTemperature (t : Int) : Bool := -400 ≤ t && t ≤ 1500

/-- Detail code 11, record by record. -/
def StationRecord.inRange (r : StationRecord) : Bool := r.cCfg ≤ 240000 && r.fCab ≤ 1000 && r.strobe ≤ 2
def Descriptor.inRange (p : Descriptor) : Bool := 1 ≤ p.station && p.station ≤ 12 && p.rated ≤ 20000
def SectorRecord.inRange (r : SectorRecord) : Bool := (r.partner < 12 || r.partner == 255) && r.offsetRef ≤ 7
def CoolingRecord.inRange (r : CoolingRecord) : Bool :=
  let p := r.params
  p.stages.toList.all goodTemperature && goodTemperature p.valveTarget && goodTemperature p.knee &&
    goodTemperature p.tripTemp && goodTemperature p.cableLimit && p.minFlow ≤ 2000 && r.clockSel ≤ 7
def SenseRecord.inRange (r : SenseRecord) : Bool := 1 ≤ r.ceiling && r.ceiling ≤ 4095

/-- Detail code 11: every staged field is in its range. -/
def Staging.inRange (st : Staging) : Bool :=
  st.station.all (·.inRange) && st.peerList.all (·.inRange) && (st.sectors.toList.filterMap id).all (·.inRange) &&
    st.cooling.all (·.inRange) && (st.sense.toList.filterMap id).all (·.inRange) && st.loads.all (0 < ·.yawLoad)

/-- Detail code 12: the twist limits, after R196. -/
def StationRecord.goodTwist (r : StationRecord) : Bool :=
  5400 ≤ r.softLimit && r.softLimit + 1800 ≤ r.hardLimit && r.hardLimit ≤ 10800

/-- Detail code 13: the cooling parameters in use have the knee below the trip temperature. -/
def Staging.coolingParams (st : Staging) : CoolingParams := (st.cooling.map (·.params)).getD defaultCooling

/-- Detail code 14: the figures in use. -/
def Staging.figures (st : Staging) : Figures := st.loads.getD defaultFigures

/-- No two PEER records hold one station number. -/
def Staging.peersDistinct (st : Staging) : Bool := decide ((st.peerList.map (·.station)).Nodup)

/-- R195: each detail code with whether its refusal applies, in the order of the table. -/
def Staging.failures (st : Staging) (own : Nat) : List (Nat × Bool) :=
  [(7, st.station.isNone), (8, decide (st.peerList.length < 2)), (9, !st.peerList.any (·.station == own)),
   (10, !st.peersDistinct), (11, !st.inRange), (12, !st.station.all (·.goodTwist)),
   (13, decide (st.coolingParams.tripTemp ≤ st.coolingParams.knee)),
   (14, decide (st.figures.budgetRt < st.figures.pumpLoad ∨ st.figures.budget < st.figures.budgetRt)),
   (15, (st.sense.toList.filterMap id).any fun r => decide (r.ceiling ≤ r.baseline))]

/-- R195: the first failure gives the detail code. -/
def Staging.check (st : Staging) (own : Nat) : Judged :=
  match (st.failures own).find? Prod.snd with
  | some (code, _) => .refuse code
  | none => .good st

/-- R193: the header fields. -/
def imageLength (header : List Byte) : Nat := (u16At header 0).toNat
def headerGood (header : List Byte) : Bool :=
  4 ≤ imageLength header && imageLength header ≤ 2048 && (u8At header 3) == 1

/-- R194, R195, R196: the judgement of a whole image, its header, records and CRC bytes, for the station `own`. -/
def judgeImage (header rest : List Byte) (own : Nat) : Judged :=
  let records := rest.take (imageLength header - 4)
  if crc16 (header ++ records) ≠ u16At rest (imageLength header - 4) then .refuse 3
  else
    match walk (u8At header 2).toNat records emptyStaging with
    | .refuse code => .refuse code
    | .good st => st.settle.check own

end Sys2Proof.Machine
end

