-- ==== Sys2Proof/Machine/Modes.lean ====
section
/-! DEFINITION. The configuration load (10.1, 10.4, 10.5), the two resets (R188 to R190, R192, R208), the timers of the
OSC (10.6, 10.7), and the meanings of the commands COLD_RESET, WARM_RESET, CONFIG_MARKER_RECEIVED to LIST_TIMER_EXPIRY. -/

namespace Sys2Proof.Machine

/-! ## UNCONFIGURED (R198) -/

/-- R198, R158: a refusal with its detail code; the report comes first (DESIGN CHOICE, unsafe: log entry 16). -/
def State.refuseImage (s : State) (code : Nat) : State :=
  let s := s.setOsc { s.osc with state := .unconfigured, loader := .idle }
  (s.report (.present .configInvalid code)).stopSensing

/-! ## The load (R197) -/

/-- R45, R50, R56, R57: the PTB. -/
def State.loadPeers (s : State) (st : Staging) : State :=
  s.watchPeers fun s => s.setPtb { s.ptb with
    loaded := true, slots := st.peers, entries := Vector.replicate 12 freshEntry
    isolationDue := some (s.after (ms 2000)), isolated := false }

/-- R62, R66: the SCU. -/
def State.loadShare (s : State) (r : StationRecord) : State :=
  s.setScu { s.scu with
    periodDue := some (s.after (ms 20)), cap := r.cap, cCfg := r.cCfg, rampUp := r.rampUp, rampDown := r.rampDown
    fCab := r.fCab }

/-- 10.2.2: the strobe modes. -/
def strobeModeOf (n : Nat) : StrobeMode := match n with | 1 => .pulse | 2 => .window | _ => .off

/-- R93, R96: the CVP. -/
def State.loadConverter (s : State) (r : StationRecord) : State :=
  s.setCvp { s.cvp with
    strobeMode := strobeModeOf r.strobe, silenceDue := some (s.cvp.silenceDue.getD (s.after (ms 60))) }

/-- R111: a sector from its record; 255 is NONE. The offset reference of a sector without a record is 0
(DESIGN CHOICE, unsafe: log entry 36). -/
def sectorOf (r : Option SectorRecord) : Sector :=
  match r with
  | none => plainSector
  | some r =>
    { steer := r.steer, restrict := r.restrict, partner := if h : r.partner < 12 then some ⟨r.partner, h⟩ else none,
      offsetRef := Fin.ofNat 8 r.offsetRef }

/-- R106, R107, R111 and the table of R132: the YWC, without its comparison. The table's column for the load stops the
two monitors, and the retry and wait-power timers; a monitor stopped so starts at the next beginning of a disagreement
(DEDUCED, unsafe: log entry 5). -/
def Ywc.load (now : Clocks) (y : Ywc) (st : Staging) (r : StationRecord) : Ywc :=
  { y with
    window := [], misalignCount := 0, offsetInUse := 0, steering := false
    releaseDue := none, applyDue := none, retryDue := none, waitDue := none
    sectors := mapTable st.sectors sectorOf, offsets := mapTable st.offsets (·.getD 0)
    params :=
      { startThreshold := r.startThreshold, softLimit := r.softLimit, hardLimit := r.hardLimit, bandLower := r.bandLower
        bandUpper := r.bandUpper }
    evalDue := some (now + ms 1000)
    vaneInvalidDue := if y.vaneSeen then y.vaneInvalidDue else some (now + ms 10000) }

/-- R127: the YWC with its comparison. -/
def State.loadYaw (s : State) (st : Staging) (r : StationRecord) : State :=
  (s.setYwc (s.ywc.load s.clock st r)).compareHardLimit

/-- R136, R146: the CLC takes its parameters and forms T_own. The minimum flow in force stays until the next cooling
evaluation (R136), and the flow monitor stays as it is (R151; DEDUCED, unsafe: log entry 18). -/
def State.loadCooling (s : State) (st : Staging) : State :=
  (s.setClc { s.clc with params := st.coolingParams }).formThermalLimit

/-- R152: a channel's settings; without a SENSE record it is not scanned (DEDUCED, safe: log entry 24). -/
def SenseChannel.load (c : SenseChannel) (r : Option SenseRecord) : SenseChannel :=
  match r with
  | none => { c.forget with scanned := false }
  | some r => { c.forget with scanned := true, baseline := r.baseline, margin := r.margin, ceiling := r.ceiling }

/-- R152: the CTS. -/
def State.loadSensing (s : State) (st : Staging) : State :=
  s.watchSense fun c => { c with
    scan := none, clockSel := (st.cooling.map (·.clockSel)).getD 2
    channels := Vector.ofFn fun i : Fin 8 => c.channels[i].load st.sense[i] }

/-- R159: the APA. -/
def State.loadPower (s : State) (st : Staging) : State := ((s.setApa { s.apa with figures := st.figures }).shed).examine

/-- R197: the OSC. -/
def State.loadModes (s : State) (r : StationRecord) : State :=
  let s := s.setOsc { s.osc with
    loader := .idle, enable := false, runCommand := r.autoStart && !s.osc.stringStopSeen }
  if s.flm.reaction.safeStop then s.setOsc { s.osc with state := .safeStop } else s.enterStandby

/-- R197: the load completes; the blocks take their parts in the order R197 names them (DESIGN CHOICE, unsafe: log entry 16). -/
def State.completeLoad (s : State) (st : Staging) (r : StationRecord) : State :=
  let s := (s.loadPeers st).loadShare r
  let s := (s.loadConverter r).loadYaw st r
  let s := ((s.loadCooling st).loadSensing st).loadPower st
  s.loadModes r

/-! ## Reading the image (R193, R194) -/

/-- R193: the select line of the configuration memory, asserted while the image is read. -/
def Osc.memorySelect (o : Osc) : Bool :=
  match o.loader with
  | .reading _ => true
  | .idle => false

/-- R193: the bytes the part sends to the memory before it clocks in the image: the read request and two address bytes. -/
def memoryRequest : List Byte := [0x5A, 0, 0]

/-- R193: the marker byte. -/
def State.configMarker (s : State) (marker : Byte) : State :=
  match s.osc.loader with
  | .reading [] => if marker = 0x96 then s.setOsc { s.osc with loader := .reading [marker] } else s.refuseImage 1
  | .reading (_ :: _) | .idle => s

/-- R193: the image header. -/
def State.configHeader (s : State) (b0 b1 b2 b3 : Byte) : State :=
  match s.osc.loader with
  | .reading [m] =>
    if headerGood [b0, b1, b2, b3] then s.setOsc { s.osc with loader := .reading [m, b0, b1, b2, b3] } else s.refuseImage 2
  | .reading [] | .reading (_ :: _ :: _) | .idle => s

/-- R193, R194, R197: the rest of the image, length − 4 bytes and the two CRC bytes (DEDUCED, safe: log entry 34); another number of
bytes is not this event (DESIGN CHOICE, unsafe: log entry 7). -/
def State.configRest (s : State) (rest : List Byte) : State :=
  match s.osc.loader with
  | .reading [_, b0, b1, b2, b3] =>
    let header := [b0, b1, b2, b3]
    if rest.length = imageLength header - 4 + 2 then
      match judgeImage header rest s.osc.station with
      | .refuse code => s.refuseImage code
      | .good st =>
        match st.station with
        | some r => s.completeLoad st r
        | none => s.refuseImage 7
    else s
  | .reading _ | .idle => s

/-! ## Resets (R12, R101, R104, R158, R188 to R190, R192, R208) -/

/-- Every block but the FLM as a reset leaves it; the input pins keep their levels, the waiting commands wait on
(DESIGN CHOICE, unsafe: log entry 6; DESIGN CHOICE, unsafe: log entry 22). -/
def State.resetBlocks (s : State) (flm : Flm) (station : Nat) : State :=
  { clock := 0, slc := slcAfterReset, ptb := ptbAfterReset, scu := scuAfterReset, cvp := cvpAfterReset s.cvp.selectLine
    ywc := ywcAfterReset s.ywc.brakeIn s.ywc.ready s.ywc.running
    clc := clcAfterReset (mapTable s.clc.pumps (·.runIn)) (mapTable s.clc.fans (·.runIn))
    cts := ctsAfterReset, apa := apaAfterReset, flm := flm, osc := oscAfterReset station, unreceived := s.unreceived
    pending := s.pending }

/-- R119, R192, R198: what the blocks find at the end of a reset: too few ready drives, then a strap value outside 1..12.
R191 lets the two reports be taken in either order; the drives come first (DESIGN CHOICE, unsafe: log entry 16). -/
def State.endReset (s : State) : State :=
  let s := s.reportDrives 6 s.ywc.usableCount
  if s.osc.validStation then s else s.refuseImage 16

/-- R188: power-on reset. -/
def State.coldReset (s : State) (straps : BitVec 4) : State := (s.resetBlocks flmAfterColdReset straps.toNat).endReset

/-- R189: reset through the reset line. -/
def State.warmReset (s : State) (straps : BitVec 4) : State := (s.resetBlocks (s.flm.warmReset s.stamp) straps.toNat).endReset

/-! ## Timers of the OSC (R201, R203, R205, R206) -/

/-- R201: the start timer expires. -/
def State.startTimer (s : State) : State :=
  s.atDue s.osc.startDue fun s =>
    (s.setOsc { s.osc with startDue := none }).report (.present .startTimeout s.cvp.measurement.actual.toInt)

/-- R203: the stop timer expires. -/
def State.stopTimer (s : State) : State :=
  s.atDue s.osc.stopDue fun s => (s.setOsc { s.osc with stopDue := none }).endStopping

/-- R205: the restart delay expires. -/
def State.restartDelay (s : State) : State :=
  s.atDue s.osc.restartDue fun s => (s.setOsc { s.osc with restartDue := none }).enterStandby

/-- R206: the list timer expires. -/
def State.listTimer (s : State) : State :=
  s.atDue s.osc.listDue fun s =>
    let wasFull := s.osc.tripList.length = 4
    let list := s.osc.tripList.drop 1
    let s := s.setOsc { s.osc with tripList := list, listDue := list.head?.map (listDueFor s.clock) }
    if wasFull then s.reportGone .restartLimit else s

/-! ## Meanings -/

def execColdReset (straps : BitVec 4) (s : State) : Host.Outcome State Fault Refusal := .next (s.coldReset straps)
def execWarmReset (dt : Clocks) (straps : BitVec 4) (s : State) : Host.Outcome State Fault Refusal :=
  .next ((s.elapse dt).warmReset straps)
def execConfigMarkerReceived (dt : Clocks) (marker : Byte) (s : State) : Host.Outcome State Fault Refusal :=
  .next ((s.elapse dt).configMarker marker)
def execConfigHeaderReceived (dt : Clocks) (b0 b1 b2 b3 : Byte) (s : State) : Host.Outcome State Fault Refusal :=
  .next ((s.elapse dt).configHeader b0 b1 b2 b3)
def execConfigReadComplete (dt : Clocks) (rest : List Byte) (s : State) : Host.Outcome State Fault Refusal :=
  .next ((s.elapse dt).configRest rest)
def execStartTimerExpiry (s : State) : Host.Outcome State Fault Refusal := .next s.startTimer
def execStopTimerExpiry (s : State) : Host.Outcome State Fault Refusal := .next s.stopTimer
def execRestartDelayExpiry (s : State) : Host.Outcome State Fault Refusal := .next s.restartDelay
def execListTimerExpiry (s : State) : Host.Outcome State Fault Refusal := .next s.listTimer

end Sys2Proof.Machine
end

