-- ==== Sys2Proof/Machine/Commands.lean ====
section
/-! DEFINITION. The commands of the gateway and the terminal (2.7): the way of one COMMAND frame through R25 to R44, the
owners' parts (R66, R128 to R130, R186, R200, R207), and the meanings of START to UNKNOWN_COMMAND. -/

namespace Sys2Proof.Machine

/-- What an owner answers (R42): its result, its data, and the state after. -/
structure Answer where
  result : Result
  data : Half
  after : State
  deriving DecidableEq, Repr

/-! ## The owners -/

/-- R200: START. -/
def State.ownStart (s : State) : Answer :=
  match s.osc.state with
  | .standby => ⟨.accepted, 0, (s.setOsc { s.osc with runCommand := true }).testStart⟩
  | .loading | .unconfigured | .starting | .producing | .rideThrough | .stopping | .tripped | .safeStop => ⟨.refusedState, 0, s⟩

/-- R200, R203: STOP. -/
def State.ownStop (s : State) : Answer :=
  match s.osc.state with
  | .producing | .rideThrough =>
    ⟨.accepted, 0, s.setOsc { s.osc with state := .stopping, runCommand := false, stopDue := some (s.after (ms 30000)) }⟩
  | .loading | .unconfigured | .standby | .starting | .stopping | .tripped | .safeStop => ⟨.refusedState, 0, s⟩

/-- R200: STRING STOP. -/
def State.stringStop (s : State) : State :=
  let s := s.setOsc { s.osc with runCommand := false, stringStopSeen := true }
  if s.osc.state.isProducing then s.enableOff.enterStandby else s

/-- R130: UNTWIST. -/
def State.ownUntwist (s : State) : Answer :=
  match s.ywc.state with
  | .idle => ⟨.accepted, s.untwistData, s.untwist⟩
  | .requestPower | .brakeRelease | .moving | .brakeApply => ⟨.refusedState, 0, s⟩

/-- R207: SAFE_STOP is left when safe stop no longer holds. -/
def State.leaveSafeStop (s : State) : State :=
  if s.osc.state = .safeStop ∧ !s.flm.reaction.safeStop then s.enterStandby else s

/-- R186, step 1: the reviews of the YWC and the CLC, in this order (DESIGN CHOICE, unsafe: log entry 16). -/
def State.faultReview (s : State) (zone : Option Int) : State := (s.rereadZone zone).reviewCooling

/-- R186, steps 2 to 4, and R207. -/
def State.closeCleared (s : State) : State :=
  ((s.setFlm (s.flm.faultReset s.stamp)).tell s.flm.reaction).leaveSafeStop

/-- R186: FAULT RESET. -/
def State.ownFaultReset (zone : Option Int) (s : State) : Answer :=
  let s := s.faultReview zone
  ⟨.accepted, BitVec.ofNat 16 s.flm.resettableCount, s.closeCleared⟩

/-- The record in a slot of the pool. -/
def Flm.recordAt? (f : Flm) (i : Nat) : Option Record := (f.opens ++ f.history).find? (·.slot.val == i)

/-- R42, R38, R185: RECORD REQUEST, the copy addressed to `target`. -/
def State.ownRecordRequest (target : BitVec 4) (slot : Nat) (s : State) : Answer :=
  if s.slc.recordSlot.isSome then ⟨.busy, 0, s⟩
  else
    match s.flm.recordAt? slot with
    | none => ⟨.badArgument, 0, s⟩
    | some r =>
      ⟨.accepted, 0, s.setSlc { s.slc with
        recordSlot := some { content := { target := target, payload := r.copy }, loss := 0, echo := 0 } }⟩

/-! ## The way of a command (R31, R32, R39 to R44) -/

/-- R41: the answer to a command whose code or argument is not allowed. -/
def State.argumentFault? (s : State) (code arg : Nat) : Option Result :=
  if code = 0 ∨ 9 < code then some .unknownCommand
  else if code = 7 then (if 63 < arg ∨ (s.flm.recordAt? arg).isNone then some .badArgument else none)
  else if code = 8 then (if 100 < arg then some .badArgument else none)
  else if arg ≠ 0 then some .badArgument
  else none

/-- R17, R37: the REPLY slot filled. -/
def State.fillReply (s : State) (h : Header) (result : Result) (data : Half) : State :=
  s.setSlc { s.slc with
    replySlot := some
      { content := { target := h.sender, code := BitVec.ofNat 8 h.commandCode, result := result, data := data },
        loss := 0, echo := 0 } }

/-- The sender may command: the gateway or the terminal (R40, R43). -/
def Header.permitted (h : Header) : Bool := h.sender == 13 || h.sender == 14

/-- R39 to R42: a targeted command. -/
def State.targeted (s : State) (h : Header) (owner : BitVec 4 → State → Answer) : State :=
  if s.slc.replySlot.isSome then s.flag .commandOverrun
  else if !h.permitted then (s.flag .notPermitted).fillReply h .notPermitted 0
  else
    match s.argumentFault? h.commandCode h.argument with
    | some r => s.fillReply h r 0
    | none =>
      let a := owner h.sender s
      a.after.fillReply h a.result (if a.result = .accepted then a.data else 0)

/-- R43: a broadcast command. -/
def State.broadcast (s : State) (h : Header) (owner : BitVec 4 → State → Answer) : State :=
  if !h.permitted then s.flag .notPermitted
  else
    match s.argumentFault? h.commandCode h.argument with
    | some _ => s
    | none =>
      let a := owner 15 s
      match a.result with
      | .accepted => a.after
      | .busy => s.flag .commandOverrun
      | .refusedState | .notPermitted | .badArgument | .unknownCommand => s

/-- R31, R44: whether a COMMAND is taken, and how. -/
def State.takeCommand (s : State) (h : Header) (owner : BitVec 4 → State → Answer) : State :=
  if h.target = 15 then s.broadcast h owner
  else if s.osc.validStation ∧ h.target.toNat = s.osc.station then s.targeted h owner
  else s

/-- A COMMAND frame ends whose code `codes` accepts: R25, R29, R32, R31. -/
def State.commandFrame (s : State) (heard : List BitTime) (codes : Nat → Bool) (owner : Nat → BitVec 4 → State → Answer) : State :=
  let row : RxFrame → Bool
    | .known h _ => h.kind.toNat == 2 && codes h.commandCode
    | .tooShort | .uncorrectable | .unknownKind _ => false
  s.whenFrame heard row fun t =>
    match classify (heardBits heard) with
    | .known h corrected =>
      t.senderChecks h corrected fun t =>
        if (trailingBits (heardBits heard)).length ≠ 0 then t.flag .lengthError
        else (t.dispatch h.sender.toNat fun _ _ e => e).takeCommand h (owner h.argument)
    | .tooShort | .uncorrectable | .unknownKind _ => t

/-! ## Meanings -/

def execStart (heard : List BitTime) (s : State) : Host.Outcome State Fault Refusal :=
  .next (s.commandFrame heard (· == 1) fun _ _ => State.ownStart)
def execStop (heard : List BitTime) (s : State) : Host.Outcome State Fault Refusal :=
  .next (s.commandFrame heard (· == 2) fun _ _ => State.ownStop)
def execYawHold (heard : List BitTime) (s : State) : Host.Outcome State Fault Refusal :=
  .next (s.commandFrame heard (· == 3) fun _ _ t => ⟨.accepted, 0, t.yawHold⟩)
def execYawRelease (heard : List BitTime) (s : State) : Host.Outcome State Fault Refusal :=
  .next (s.commandFrame heard (· == 4) fun _ _ t => ⟨.accepted, 0, t.yawRelease⟩)
def execUntwist (heard : List BitTime) (s : State) : Host.Outcome State Fault Refusal :=
  .next (s.commandFrame heard (· == 5) fun _ _ => State.ownUntwist)
def execFaultReset (heard : List BitTime) (zone : Option Int) (s : State) : Host.Outcome State Fault Refusal :=
  .next (s.commandFrame heard (· == 6) fun _ _ => State.ownFaultReset zone)
def execRecordRequest (heard : List BitTime) (s : State) : Host.Outcome State Fault Refusal :=
  .next (s.commandFrame heard (· == 7) fun arg target => State.ownRecordRequest target arg)
def execStringCap (heard : List BitTime) (s : State) : Host.Outcome State Fault Refusal :=
  .next (s.commandFrame heard (· == 8) fun arg _ t => ⟨.accepted, 0, t.setCap arg⟩)
def execStringStop (heard : List BitTime) (s : State) : Host.Outcome State Fault Refusal :=
  .next (s.commandFrame heard (· == 9) fun _ _ t => ⟨.accepted, 0, t.stringStop⟩)
def execUnknownCommand (heard : List BitTime) (s : State) : Host.Outcome State Fault Refusal :=
  .next (s.commandFrame heard (fun c => c == 0 || 9 < c) fun _ _ t => ⟨.unknownCommand, 0, t⟩)

end Sys2Proof.Machine
end

