-- ==== Sys2Proof/Machine/Dispatch.lean ====
section
/-! DEFINITION. The meaning of a command: one arm for each row of the table. -/

namespace Sys2Proof.Machine

def exec (i : Instr) (s : State) : Host.Outcome State Fault Refusal :=
  match i with
  | .coldReset straps => Sys2Proof.Machine.execColdReset straps s
  | .warmReset dt straps => Sys2Proof.Machine.execWarmReset dt straps s
  | .idleGap => Sys2Proof.Machine.execIdleGap s
  | .boundary => Sys2Proof.Machine.execBoundary s
  | .arbitrationStart dt => Sys2Proof.Machine.execArbitrationStart dt s
  | .pulsePosition heardEarlier => Sys2Proof.Machine.execPulsePosition heardEarlier s
  | .survival lit => Sys2Proof.Machine.execSurvival lit s
  | .echoMismatch bit => Sys2Proof.Machine.execEchoMismatch bit s
  | .frameSent => Sys2Proof.Machine.execFrameSent s
  | .frameTooLong => Sys2Proof.Machine.execFrameTooLong s
  | .frameDiscarded heard => Sys2Proof.Machine.execFrameDiscarded heard s
  | .statusReceived heard => Sys2Proof.Machine.execStatusReceived heard s
  | .noticeReceived heard => Sys2Proof.Machine.execNoticeReceived heard s
  | .replyOrRecordReceived heard => Sys2Proof.Machine.execReplyOrRecordReceived heard s
  | .start heard => Sys2Proof.Machine.execStart heard s
  | .stop heard => Sys2Proof.Machine.execStop heard s
  | .yawHold heard => Sys2Proof.Machine.execYawHold heard s
  | .yawRelease heard => Sys2Proof.Machine.execYawRelease heard s
  | .untwist heard => Sys2Proof.Machine.execUntwist heard s
  | .faultReset heard zone => Sys2Proof.Machine.execFaultReset heard zone s
  | .recordRequest heard => Sys2Proof.Machine.execRecordRequest heard s
  | .stringCap heard => Sys2Proof.Machine.execStringCap heard s
  | .stringStop heard => Sys2Proof.Machine.execStringStop heard s
  | .unknownCommand heard => Sys2Proof.Machine.execUnknownCommand heard s
  | .statusTimerExpiry => Sys2Proof.Machine.execStatusTimerExpiry s
  | .duplicateTimerExpiry => Sys2Proof.Machine.execDuplicateTimerExpiry s
  | .ageTimerStale peer => Sys2Proof.Machine.execAgeTimerStale peer s
  | .ageTimerLost peer => Sys2Proof.Machine.execAgeTimerLost peer s
  | .isolationTimerExpiry => Sys2Proof.Machine.execIsolationTimerExpiry s
  | .foreignTimerExpiry => Sys2Proof.Machine.execForeignTimerExpiry s
  | .controlPeriod => Sys2Proof.Machine.execControlPeriod s
  | .selectAsserted dt => Sys2Proof.Machine.execSelectAsserted dt s
  | .selectReleased dt => Sys2Proof.Machine.execSelectReleased dt s
  | .readSetpoint dt => Sys2Proof.Machine.execReadSetpoint dt s
  | .readSetpointEnd dt => Sys2Proof.Machine.execReadSetpointEnd dt s
  | .writeMeasurement dt => Sys2Proof.Machine.execWriteMeasurement dt s
  | .unknownPortType dt bit => Sys2Proof.Machine.execUnknownPortType dt bit s
  | .measurementArrival dt bit => Sys2Proof.Machine.execMeasurementArrival dt bit s
  | .pauseTimerExpiry => Sys2Proof.Machine.execPauseTimerExpiry s
  | .strobeTimerExpiry => Sys2Proof.Machine.execStrobeTimerExpiry s
  | .silenceTimerExpiry => Sys2Proof.Machine.execSilenceTimerExpiry s
  | .curveDeadline => Sys2Proof.Machine.execCurveDeadline s
  | .recoveryTimerExpiry => Sys2Proof.Machine.execRecoveryTimerExpiry s
  | .overvoltageTimerExpiry => Sys2Proof.Machine.execOvervoltageTimerExpiry s
  | .encoderReading dt angle zone => Sys2Proof.Machine.execEncoderReading dt angle zone s
  | .platformHeadingReading dt reading => Sys2Proof.Machine.execPlatformHeadingReading dt reading s
  | .vaneReading dt reading => Sys2Proof.Machine.execVaneReading dt reading s
  | .windSpeedReading dt reading => Sys2Proof.Machine.execWindSpeedReading dt reading s
  | .vaneInvalidTimerExpiry => Sys2Proof.Machine.execVaneInvalidTimerExpiry s
  | .yawEvaluation => Sys2Proof.Machine.execYawEvaluation s
  | .waitPowerTimerExpiry => Sys2Proof.Machine.execWaitPowerTimerExpiry s
  | .brakeReleasedInput dt level => Sys2Proof.Machine.execBrakeReleasedInput dt level s
  | .releaseMonitorExpiry => Sys2Proof.Machine.execReleaseMonitorExpiry s
  | .applyMonitorExpiry => Sys2Proof.Machine.execApplyMonitorExpiry s
  | .brakeRetryTimerExpiry => Sys2Proof.Machine.execBrakeRetryTimerExpiry s
  | .driveReadyInput dt drive level => Sys2Proof.Machine.execDriveReadyInput dt drive level s
  | .driveRunningInput dt drive level => Sys2Proof.Machine.execDriveRunningInput dt drive level s
  | .driveFeedbackTimerExpiry drive => Sys2Proof.Machine.execDriveFeedbackTimerExpiry drive s
  | .temperatureReading dt channel reading => Sys2Proof.Machine.execTemperatureReading dt channel reading s
  | .holdTimerExpiry channel => Sys2Proof.Machine.execHoldTimerExpiry channel s
  | .flowReading dt reading => Sys2Proof.Machine.execFlowReading dt reading s
  | .flowMonitorExpiry => Sys2Proof.Machine.execFlowMonitorExpiry s
  | .pumpRunningInput dt pump level => Sys2Proof.Machine.execPumpRunningInput dt pump level s
  | .pumpFeedbackTimerExpiry pump => Sys2Proof.Machine.execPumpFeedbackTimerExpiry pump s
  | .coolingEvaluation => Sys2Proof.Machine.execCoolingEvaluation s
  | .fanRunningInput dt fan level => Sys2Proof.Machine.execFanRunningInput dt fan level s
  | .fanFeedbackTimerExpiry fan => Sys2Proof.Machine.execFanFeedbackTimerExpiry fan s
  | .scanTimerExpiry => Sys2Proof.Machine.execScanTimerExpiry s
  | .dischargeEnd => Sys2Proof.Machine.execDischargeEnd s
  | .comparatorTrip count => Sys2Proof.Machine.execComparatorTrip count s
  | .ceilingReached => Sys2Proof.Machine.execCeilingReached s
  | .configMarkerReceived dt marker => Sys2Proof.Machine.execConfigMarkerReceived dt marker s
  | .configHeaderReceived dt b0 b1 b2 b3 => Sys2Proof.Machine.execConfigHeaderReceived dt b0 b1 b2 b3 s
  | .configReadComplete dt rest => Sys2Proof.Machine.execConfigReadComplete dt rest s
  | .startTimerExpiry => Sys2Proof.Machine.execStartTimerExpiry s
  | .stopTimerExpiry => Sys2Proof.Machine.execStopTimerExpiry s
  | .restartDelayExpiry => Sys2Proof.Machine.execRestartDelayExpiry s
  | .listTimerExpiry => Sys2Proof.Machine.execListTimerExpiry s
  | .portClockRisingEdge dt bit => Sys2Proof.Machine.execPortClockRisingEdge dt bit s
  | .lightSeenInTrail dt => Sys2Proof.Machine.execLightSeenInTrail dt s

end Sys2Proof.Machine
end

