-- ==== Sys2Proof/Safety.lean ====
section
/-! DEFINITION. What counts as a sound state of the part, in the terms the statements use: one predicate for each
promise that the spec makes of every moment. -/

namespace Sys2Proof.Machine

/-- R199: the converter enable is on in the producing states and only there; each timer of the OSC runs only in the
state it belongs to, and the loader reads only in LOADING (R193, R201, R203, R205). -/
def State.modesSound (s : State) : Prop :=
  s.osc.enable = s.osc.state.isProducing ∧
    (s.osc.startDue.isSome → s.osc.state = .starting) ∧
    (s.osc.stopDue.isSome → s.osc.state = .stopping) ∧
    (s.osc.restartDue.isSome → s.osc.state = .tripped) ∧
    (s.osc.loader ≠ .idle → s.osc.state = .loading)

/-- R79, R80: with the enable off the export limit is 0: in the SCU, in the back buffer and in the front buffer. -/
def State.limitsSound (s : State) : Prop :=
  (s.scu.enable = false → s.scu.eLim = 0) ∧ (s.cvp.backEnable = false → s.cvp.backLimit = 0) ∧
    (s.cvp.front.enable = false → s.cvp.front.exportLimit = 0)

/-- R76, R97, R100, R167, R169, R202: the CVP, the SCU and the APA agree on ride-through, and the OSC is in
RIDE_THROUGH only during one. -/
def State.rideThroughSound (s : State) : Prop :=
  s.scu.hold = s.cvp.rideThrough ∧ s.apa.rideThrough = s.cvp.rideThrough ∧
    s.cvp.curveDue.isSome = s.cvp.rideThrough ∧
    (s.cvp.recoveryDue.isSome → s.cvp.rideThrough = true) ∧ (s.osc.state = .rideThrough → s.cvp.rideThrough = true)

/-- R115 to R121, R132, R160: the table of 6.5. Brake release output, drive enables, grant and request follow the yaw
state; no more drives are enabled than motors granted; before a load the yaw state is IDLE. -/
def State.yawSound (s : State) : Prop :=
  s.ywc.releaseOut = (s.ywc.state == .brakeRelease || s.ywc.state == .moving) ∧
    (s.ywc.state ≠ .moving → s.ywc.enables = Vector.replicate 6 false) ∧
    countSet s.ywc.enables ≤ s.apa.yawGranted ∧
    (s.apa.yawGranted = 0 ∨ (4 ≤ s.apa.yawGranted ∧ s.apa.yawGranted ≤ 6)) ∧
    (s.apa.yawGranted = 0 ↔ s.ywc.state = .idle ∨ s.ywc.state = .requestPower) ∧
    s.apa.yawRequest.isSome = (s.ywc.state == .requestPower) ∧
    s.ywc.move.isSome = (s.ywc.state != .idle) ∧
    (s.osc.state.isUnloaded = true → s.ywc.state = .idle ∧ s.ywc.evalDue = none)

/-- R142, R143, R159, R160: the fans granted are the fans running, none of them FAILED; the figures are in order; the
granted total is within the configured budget; shedding is owed only while a stopped move keeps its grant (R167, R168). -/
def State.powerSound (s : State) : Prop :=
  countSet (mapTable s.clc.fans (·.runOut)) = s.apa.fansGranted ∧
    (∀ f : Fin 4, s.clc.fans[f].failed = true → s.clc.fans[f].runOut = false) ∧
    s.apa.figures.pumpLoad ≤ s.apa.figures.budgetRt ∧ s.apa.figures.budgetRt ≤ s.apa.figures.budget ∧
    s.apa.total ≤ s.apa.figures.budget ∧ (s.osc.state.isUnloaded = true → s.apa.rideThrough = false) ∧
    (s.apa.shedPending = true → s.ywc.state = .brakeApply)

/-- R173 to R178: OPEN and HISTORY hold each slot at most once, so every slot is in exactly one of the three lists; the
OPEN list holds each code at most once, by falling severity; its records are not CLOSED, those of HISTORY are, and owe
CLOSED or OPENED-AND-CLOSED if anything. -/
def Flm.sound (f : Flm) : Prop :=
  ((f.opens ++ f.history).map (·.slot)).Nodup ∧ (f.opens.map (·.code)).Nodup ∧
    f.opens.Pairwise (fun a b => b.severity.rank ≤ a.severity.rank) ∧
    (∀ r ∈ f.opens, r.state ≠ .closed ∧ r.closePending = false) ∧
    (∀ r ∈ f.history, r.state = .closed ∧ r.openPending = false ∧
      (r.closeTransition = some .closed ∨ r.closeTransition = some .openedAndClosed))

/-- R125, R126: the twist counter stays within −10800..+10800. -/
def State.twistSound (s : State) : Prop := -10800 ≤ s.ywc.twist ∧ s.ywc.twist ≤ 10800

/-- R5, R10, R20, R33: a station outside 1..12 neither contends nor sends; the transmitter is active only in FRAME;
accumulator bits 11 to 15 are never set. -/
def State.linkSound (s : State) : Prop :=
  (s.slc.contender.isSome → s.osc.validStation = true) ∧
    (s.slc.sending.isSome → s.osc.validStation = true ∧ s.slc.lineState = .frame) ∧
    s.slc.errors &&& 0xF800#16 = 0

/-! ## The terms of the statements about received frames -/

/-- R2, R33: the state when the frame `heard` of another station has ended and its header has been accepted, corrected or
not: the line is TRAIL with a dark count of 1 at the end of the dark bit time after the frame. -/
def State.afterFrame (s : State) (heard : List BitTime) (corrected : Bool) : State :=
  let now := max s.clock (s.slc.lastBoundary + bitTimes (64 + (heard.length + 1)))
  { s with
    clock := now
    slc := { s.slc with
      lineState := .trail, gapDue := now + bitTimes 15
      errors := if corrected then s.slc.errors ||| 1#16 else s.slc.errors
      errorsSinceCopy := if corrected then s.slc.errorsSinceCopy ||| 1#16 else s.slc.errorsSinceCopy }
    unreceived := if (heard.length - 40) % 8 ≠ 0 then s.unreceived + 1 else s.unreceived }

/-- R33, R34: the state with bit `n` of the accumulator set, its event noted as taken since the REPLY's copy. -/
def State.withError (s : State) (n : Nat) : State :=
  { s with slc := { s.slc with
      errors := s.slc.errors ||| BitVec.twoPow 16 n, errorsSinceCopy := s.slc.errorsSinceCopy ||| BitVec.twoPow 16 n } }

/-- R2, R3, R25, R27: a frame of another station ends now whose header is accepted as `h` and whose sender is neither the
own station nor foreign. -/
def State.hears (s : State) (heard : List BitTime) (h : Header) (corrected : Bool) : Prop :=
  s.slc.lineState = .frame ∧ s.slc.sending = none ∧ heardWellFormed heard = true ∧
    classify (heardBits heard) = .known h corrected ∧
    ¬ (s.osc.validStation = true ∧ h.sender.toNat = s.osc.station) ∧ s.foreign h.sender.toNat = false

/-- R24, R28, R30: the payload of the frame is of the length its header gives and its kind has, and agrees with the CRC. -/
def State.payloadGood (s : State) (heard : List BitTime) (h : Header) : Prop :=
  let bytes := s.trailing heard
  bytes.length = h.field.toNat + 2 ∧ h.field.toNat = kindLength h.kind.toNat ∧
    crc16 (bytes.take h.field.toNat) = u16At bytes h.field.toNat

/-- R27, R32, R45, R47: the sender is the slot peer in slot `j`, not EXCLUDED. -/
def State.fromPeer (s : State) (h : Header) (j : Fin 12) : Prop :=
  s.ptb.loaded = true ∧ s.ptb.slotOf? h.sender.toNat = some j ∧ s.activePeer j = true

/-- R57: the PEER_LOST bitmap. -/
def State.lostBits (s : State) : Nat :=
  (((List.finRange 12).filter fun i => s.activePeer i &&
    decide (s.ptb.entries[i].freshness = .lost ∨ s.ptb.entries[i].freshness = .neverHeard)).map fun i => 2 ^ i.val).sum

/-- R60: the SHARE_VIEW_DISAGREE bitmap. -/
def State.disagreeBits (s : State) : Nat :=
  (((List.finRange 12).filter fun i => decide (s.ptb.entries[i].disagreement = 50)).map fun i => 2 ^ i.val).sum

/-- R57, R60: the fault manager once a bitmap has gone from `old` to `new` at `now`. -/
def Flm.bitmapMoved (f : Flm) (now : Clocks) (c : FaultCode) (old new : Nat) : Flm :=
  if new = old then f else if new = 0 then f.take (stampOf now) (.gone c) else f.take (stampOf now) (.present c new)

/-! ## The terms of the statements about commands -/

/-- R25, R29, R31, R39, R40, R45: a COMMAND of code `code` and argument `arg` from the gateway or the terminal ends now,
targeted at the own station, while the REPLY slot is empty. -/
def State.commanded (s : State) (heard : List BitTime) (h : Header) (corrected : Bool) (code arg : Nat) : Prop :=
  s.hears heard h corrected ∧ h.kind = 2 ∧ heard.length = 40 ∧ (h.sender = 13 ∨ h.sender = 14) ∧
    s.ptb.slotOf? h.sender.toNat = none ∧ s.osc.validStation = true ∧ h.target.toNat = s.osc.station ∧
    s.slc.replySlot = none ∧ h.commandCode = code ∧ h.argument = arg

/-- The row of a COMMAND by its code (2.7.1). -/
def commandRow (heard : List BitTime) (zone : Option Int) (code : Nat) : Instr :=
  match code with
  | 1 => .start heard
  | 2 => .stop heard
  | 3 => .yawHold heard
  | 4 => .yawRelease heard
  | 5 => .untwist heard
  | 6 => .faultReset heard zone
  | 7 => .recordRequest heard
  | 8 => .stringCap heard
  | 9 => .stringStop heard
  | _ => .unknownCommand heard

/-- R32, R56: the state in which a valid COMMAND has counted as heard from its sender: the isolation timer restarts, and
isolation ends, where the sender is a slot peer that is not EXCLUDED. -/
def State.counted (s : State) (sender : Nat) : State :=
  if s.ptb.loaded = true ∧ (s.ptb.slotOf? sender).any s.activePeer = true then
    { s with
      ptb := { s.ptb with isolationDue := some (s.clock + ms 2000), isolated := false }
      flm := if s.ptb.isolated then s.flm.take s.stamp (.gone .linkIsolated) else s.flm }
  else s

/-- R41: the answer to a command whose code or argument is not allowed; none where it passes. -/
def State.badCommand (s : State) (code arg : Nat) : Option Result :=
  if ¬ (1 ≤ code ∧ code ≤ 9) then some .unknownCommand
  else if (code ≤ 6 ∨ code = 9) ∧ arg ≠ 0 then some .badArgument
  else if code = 7 ∧ ∀ i : Fin 64, s.flm.inUse i = true → i.val ≠ arg then some .badArgument
  else if code = 8 ∧ 100 < arg then some .badArgument
  else none

/-- R17, R37, R42: the state with the REPLY slot filled with the answer to the command `h`. -/
def State.answered (s : State) (h : Header) (result : Result) (data : Half) : State :=
  { s with slc := { s.slc with
      replySlot := some
        { content := { target := h.sender, code := BitVec.ofNat 8 h.commandCode, result := result, data := data },
          loss := 0, echo := 0 } } }

/-! ## The terms of the statements about layouts -/

/-- 0.7, 0.11: the unsigned number in the `width` bytes from `offset` on, most significant byte first. -/
def numberAt (bs : List Byte) (offset width : Nat) : Nat :=
  ((bs.drop offset).take width).foldl (fun n b => 256 * n + b.toNat) 0

/-- A table of chapter 2 or 5, row by row: offset, width, and the value of the field as an unsigned number. -/
abbrev Layout : Type := List (Nat × Nat × Nat)

/-- The bytes are those of the layout: each field at its offset, and nothing after the last. -/
def laidOut (bs : List Byte) (length : Nat) (fields : Layout) : Prop :=
  bs.length = length ∧ ∀ q ∈ fields, numberAt bs q.1 q.2.1 = q.2.2

/-- The table of 2.6.2. -/
def StatusPayload.layout (p : StatusPayload) : Layout :=
  [(0, 1, p.opState.toNat), (1, 1, p.flags.toNat), (2, 2, p.ratedPower.toNat), (4, 2, p.demand.toNat),
   (6, 2, p.appliedShare.toNat), (8, 2, p.thermalLimit.toNat), (10, 2, p.actualExport.toNat), (12, 4, p.dSeen.toNat),
   (16, 4, p.cLive.toNat), (20, 2, p.heading.toNat), (22, 2, p.windDirection.toNat), (24, 2, p.windSpeed.toNat),
   (26, 2, p.twist.toNat), (28, 2, p.steeringOffset.toNat), (30, 1, p.openRecords.toNat),
   (31, 1, p.highestSeverity.toNat), (32, 1, p.newestCode.toNat), (33, 1, p.summaryFlags.toNat),
   (34, 2, p.linkErrors.toNat)]

/-- The table of 2.6.3. -/
def NoticePayload.layout (p : NoticePayload) : Layout :=
  [(0, 1, p.slotIndex.toNat), (1, 1, p.code.toNat), (2, 1, p.severity.toNat), (3, 1, p.transition.toNat),
   (4, 1, p.closeReason.toNat), (5, 1, p.repeatCount.toNat), (6, 4, p.openStamp.toNat), (10, 4, p.closeStamp.toNat),
   (14, 4, p.value.toNat)]

/-- The table of 2.6.5. -/
def RecordPayload.layout (p : RecordPayload) : Layout :=
  p.notice.layout ++ [(18, 1, p.recordState.toNat), (19, 4, p.lastSeen.toNat)]

/-- The table of 2.6.4, with the accumulator `errors`. -/
def ReplyContent.layout (p : ReplyContent) (errors : Half) : Layout :=
  [(0, 1, p.code.toNat),
   (1, 1, match p.result with
     | .accepted => 0 | .refusedState => 1 | .notPermitted => 2 | .badArgument => 3 | .unknownCommand => 4 | .busy => 5),
   (2, 2, p.data.toNat), (4, 2, errors.toNat)]

/-- 2.6.3, R36: the notice fields of a record, for the transition to be announced. -/
def Record.noticeLayout (r : Record) (transition : Transition) : Layout :=
  [(0, 1, r.slot.val), (1, 1, r.code.number), (2, 1, r.severity.rank),
   (3, 1, match transition with | .opened => 0 | .closed => 1 | .openedAndClosed => 2),
   (4, 1, match r.state, r.closeReason with
     | .closed, .conditionGone => 1 | .closed, .faultReset => 2 | .closed, .warmReset => 3 | _, _ => 0),
   (5, 1, r.repeatCount % 256), (6, 4, r.openStamp.toNat),
   (10, 4, if r.state = .closed then r.closeStamp.toNat else 0), (14, 4, r.value.toNat)]

/-- 2.6.5, R38: the fields of the copy of a record whose latest transition is given. -/
def Record.copyLayout (r : Record) (latest : Transition) : Layout :=
  r.noticeLayout latest ++
    [(18, 1, match r.state with | .opened => 0 | .openCleared => 1 | .closed => 2), (19, 4, r.lastSeen.toNat)]

/-- The table of 5.3.1. -/
def SetpointBlock.layout (b : SetpointBlock) : Layout :=
  [(0, 1, b.counter.toNat),
   (1, 1, (if b.enable then 1 else 0) + (if b.rideThrough then 2 else 0) + (if b.reactivePriority then 4 else 0)),
   (2, 2, b.exportLimit.toNat), (4, 2, b.reactive.toNat)]

/-- The table of 5.3.2. -/
def Measurement.layout (m : Measurement) : Layout :=
  [(0, 2, m.available.toNat), (2, 2, m.actual.toNat), (4, 2, m.voltage.toNat), (6, 2, m.dcLink.toNat),
   (8, 2, m.faultWord.toNat)]

/-- R182: the record, standing in the OPEN list or in HISTORY as its state says, owes the notice of the transition. -/
def Record.owes (r : Record) (x : Transition) : Prop :=
  (r.state ≠ .closed ∧ r.openPending = true ∧ x = .opened) ∨
    (r.state = .closed ∧ r.closePending = true ∧ r.closeTransition = some x)

/-! ## The terms of the statements about the line -/

/-- R19: the order among candidates of equal effective priority. -/
def Source.place : Source → Nat
  | .reply => 0 | .status => 1 | .notice => 2 | .record => 3

/-- R18: the notice register after the FLM's answer `best`, from the register `old`. -/
def noticeAfter (old : Option NoticeReg) (best : Option (Record × Transition)) : Option NoticeReg :=
  best.map fun b =>
    let held := old.filter fun n => n.slot = b.1.slot ∧ n.transition = b.2
    { slot := b.1.slot, transition := b.2, code := b.1.code, loss := (held.map (·.loss)).getD 0,
      echo := (held.map (·.echo)).getD 0 }

/-- R2, R18, R19, R20: what a boundary at `now` leaves in the SLC: the notice register follows the FLM's answer, and the
full source of highest effective priority contends, the first in the order of R19 among equals, if the station may. -/
def State.boundaryAt (s : State) (now : Clocks) (x : Slc) : Prop :=
  x = { s.slc with
        lineState := .idle, lastBoundary := now, pulseFrom := none, contender := x.contender
        notice := noticeAfter s.slc.notice s.flm.bestNotice? } ∧
    match x.contender with
    | none => s.osc.validStation = false ∨ ∀ src, x.full src = false
    | some c =>
      s.osc.validStation = true ∧ x.full c.source = true ∧ c.priority = min 14 (x.base c.source + x.loss c.source / 4) ∧
        c.key = BitVec.ofNat 8 (16 * c.priority + s.osc.station) ∧ c.round = 1 ∧
        ∀ src, x.full src = true →
          x.priority src < c.priority ∨ (x.priority src = c.priority ∧ c.source.place ≤ src.place)

/-! ## The terms of the statements about the image -/

/-- 10.2.2: a record as it stands in the image: table id, index, data length, data. -/
structure RawRecord where
  id : Byte
  index : Byte
  data : List Byte
  deriving DecidableEq, Repr

def RawRecord.bytes (q : RawRecord) : List Byte := q.id :: q.index :: BitVec.ofNat 8 q.data.length :: q.data

/-- 10.2.2: how many indices the table of a number 1 to 7 has, and how many data bytes its records. -/
def tableShape (id : Byte) : Option (Nat × Nat) :=
  match id.toNat with
  | 1 => some (1, 23) | 2 => some (12, 4) | 3 => some (24, 3) | 4 => some (8, 2) | 5 => some (1, 19) | 6 => some (8, 6)
  | 7 => some (1, 10) | _ => none

/-- R194: a record that the walk takes. -/
def RawRecord.fits (q : RawRecord) : Prop := ∃ n len, tableShape q.id = some (n, len) ∧ q.index.toNat < n ∧ q.data.length = len

/-- R194: the data of the last record of a table and index in an image. -/
def lastRecord (image : List RawRecord) (id : Byte) (index : Nat) : Option (List Byte) :=
  (image.reverse.find? fun q => q.id == id && q.index.toNat == index).map (·.data)

/-- R195: a temperature field outside −400..+1500. -/
def offScale (x : Int) : Bool := decide (x < -400 ∨ 1500 < x)

/-- R195: the refusals 7 to 15 of a staging copy, settled by R196, for the station `own`. -/
def Staging.refusedFor (st : Staging) (own : Nat) : Nat → Prop
  | 7 => st.station = none
  | 8 => ∀ i j : Fin 12, (st.peers[i]).isSome = true → (st.peers[j]).isSome = true → i = j
  | 9 => ∀ j : Fin 12, (st.peers[j]).any (fun d => d.station == own) = false
  | 10 => ∃ i j : Fin 12, i ≠ j ∧ (st.peers[i]).any (fun d => (st.peers[j]).any fun e => d.station == e.station) = true
  | 11 =>
    st.station.any (fun r => decide (240000 < r.cCfg ∨ 1000 < r.fCab ∨ 2 < r.strobe)) = true ∨
    (∃ j : Fin 12, (st.peers[j]).any (fun d => decide (d.station = 0 ∨ 12 < d.station ∨ 20000 < d.rated)) = true) ∨
    (∃ k : Fin 24, (st.sectors[k]).any (fun q => decide ((12 ≤ q.partner ∧ q.partner ≠ 255) ∨ 7 < q.offsetRef)) = true) ∨
    (st.cooling.any (fun c =>
      decide (7 < c.clockSel ∨ 2000 < c.params.minFlow ∨ ∃ k : Fin 4, offScale c.params.stages[k] = true) ||
        offScale c.params.valveTarget || offScale c.params.knee || offScale c.params.tripTemp ||
        offScale c.params.cableLimit) = true) ∨
    (∃ i : Fin 8, (st.sense[i]).any (fun q => decide (q.ceiling = 0 ∨ 4095 < q.ceiling)) = true) ∨
    st.loads.any (fun f => decide (f.yawLoad = 0)) = true
  | 12 =>
    st.station.any (fun r =>
      decide (r.softLimit < 5400 ∨ r.hardLimit < r.softLimit + 1800 ∨ 10800 < r.hardLimit)) = true
  | 13 => st.cooling.any (fun c => decide (c.params.tripTemp ≤ c.params.knee)) = true
  | 14 => st.loads.any (fun f => decide (f.budgetRt < f.pumpLoad ∨ f.budget < f.budgetRt)) = true
  | 15 => ∃ i : Fin 8, (st.sense[i]).any (fun q => decide (q.ceiling ≤ q.baseline)) = true
  | _ => False

/-! ## What a load leaves -/

/-- R45, R62, R66, R127, R195, R196: an image is loaded in every state but LOADING and UNCONFIGURED; the control-period
timer runs from the load on; the remap names each station once, the own among them; the figures taken from the image are
in their ranges. -/
def State.configSound (s : State) : Prop :=
  s.ptb.loaded = !s.osc.state.isUnloaded ∧ s.scu.periodDue.isSome = s.ptb.loaded ∧
    (s.ptb.loaded = true → s.osc.validStation = true ∧ (s.ptb.slotOf? s.osc.station).isSome = true) ∧
    (∀ (j : Fin 12) (d : Descriptor), s.ptb.slots[j] = some d → 1 ≤ d.station ∧ d.station ≤ 12 ∧ d.rated ≤ 20000) ∧
    (∀ (i j : Fin 12) (d e : Descriptor),
      s.ptb.slots[i] = some d → s.ptb.slots[j] = some e → d.station = e.station → i = j) ∧
    s.scu.cCfg ≤ 240000 ∧ s.scu.fCab ≤ 1000 ∧ s.scu.cap ≤ 100 ∧ s.clc.params.knee < s.clc.params.tripTemp ∧
    s.ywc.params.softLimit + 1800 ≤ s.ywc.params.hardLimit ∧ s.ywc.params.hardLimit ≤ 10800

/-! ## Runs of commands -/

/-- The commands of a list carried out one after the other, as long as each answers a next state. -/
def execAll : List Instr → State → Host.Outcome State Fault Refusal
  | [], s => .next s
  | c :: cs, s =>
    match exec c s with
    | .next t => execAll cs t
    | .fault f => .fault f
    | .refused r => .refused r

/-! ## The terms of the statements about the converter port -/

/-- R92, R93, R102: the CVP after a swap at `now`. -/
def Cvp.swapped (now : Clocks) (c : Cvp) : Cvp :=
  let v := c.measurement.voltage.toNat
  let dip := c.rideThrough && decide (v < 900)
  { c with
    swapPending := false
    front :=
      { counter := c.front.counter + 1, enable := c.backEnable, rideThrough := c.rideThrough, reactivePriority := dip
        exportLimit := BitVec.ofNat 16 c.backLimit
        reactive := if dip then BitVec.ofNat 16 (min 1000 (2 * (900 - v))) else 0 }
    strobeLine := c.strobeMode != .off
    strobeDue :=
      match c.strobeMode with
      | .off => none
      | .pulse => some (now + us 100)
      | .window => some (now + ms 16) }

/-- R91: the CVP after a block handed to it at `now`: swapped at once, or owed a swap while a read is in progress. -/
def Cvp.handed (now : Clocks) (enable : Bool) (limit : Nat) (c : Cvp) : Cvp :=
  let c := { c with backEnable := enable, backLimit := limit }
  if c.readInProgress then { c with swapPending := true } else c.swapped now

/-- R84: the port counts clock edges. -/
def State.portOpen (s : State) : Prop := s.cvp.selectLine = true ∧ s.cvp.seenReleased = true

/-- R84, R87: the next rising edge of the port clock, with `bit` on data in, completes the tenth byte of a measurement
write, and the ten bytes are the block `m`. -/
def State.arrives (s : State) (bit : Bool) (m : Measurement) : Prop :=
  s.portOpen ∧ s.cvp.port = .write 9 ∧ s.cvp.bitCount = 7 ∧
    readMeasurement (s.cvp.staging ++ [s.cvp.shift <<< 1 ||| (if bit then 1#8 else 0#8)]) = m

/-- The CVP has none of the four codes present that an arrival can report gone (R95, R96, R98, R103). -/
def State.portQuiet (s : State) : Prop :=
  s.flm.holds .converterPortSilent = false ∧ s.flm.holds .converterReported = false ∧
    s.flm.holds .gridUndervoltageTrip = false ∧ s.flm.holds .gridOvervoltage = false

/-- R87, R94, R103: the CVP when it has taken the block `m` at `now`, GRID_OVERVOLTAGE not being present. -/
def Cvp.afterArrival (c : Cvp) (now : Clocks) (m : Measurement) : Cvp :=
  { c with
    port := .done, bitCount := 0, shift := 0, staging := [], measurement := m, silenceDue := some (now + ms 60)
    overvoltageDue := if 1100 < m.voltage.toNat then some (c.overvoltageDue.getD (now + ms 100)) else none }

/-! ## The terms of the statements about the operating state -/

/-- R201: the run command is set and the three start conditions hold. -/
abbrev State.mayStart (s : State) : Prop :=
  s.osc.runCommand = true ∧ s.flm.reaction.trip = false ∧ s.clc.delivering = true ∧ s.cvp.silenceDue.isSome = true ∧
    s.osc.arrivalSeen = true

/-- R201: the state in STANDBY after a test of the start conditions. -/
def State.tested (s : State) : State :=
  if s.mayStart then
    { s with osc := { s.osc with state := .starting, enable := true, startDue := some (s.clock + ms 10000) } }
  else s

/-- R201: the state once STANDBY is entered at its clock: STARTING where the run command and the start conditions allow. -/
def State.standby (s : State) : State :=
  if s.mayStart then
    { s with osc := { s.osc with
      state := .starting, enable := true, startDue := some (s.clock + ms 10000), stopDue := none, restartDue := none } }
  else { s with osc := { s.osc with state := .standby, startDue := none, stopDue := none, restartDue := none } }

/-- R80, R199: the state with the converter enable turned off and the extra block handed. -/
def State.turnedOff (s : State) : State :=
  { s with
    osc := { s.osc with enable := false }, scu := { s.scu with eLim := 0, enable := false }
    cvp := s.cvp.handed s.clock false 0 }

/-- R204, R206: the trip list after an entry to TRIPPED at `now`. -/
def tripListAfter (old : List Stamp) (now : Stamp) : List Stamp :=
  let kept := old.dropWhile fun st => decide (3600000 ≤ (now - st).toNat)
  (if kept.length = 4 then kept.drop 1 else kept) ++ [now]

/-- R80, R199, R204, R206: the state `t` follows from the state `s`, whose clock is the moment of the trip, by an entry to
TRIPPED that leaves the converter enable off and the trip in force. -/
def State.tripsTo (s t : State) : Prop :=
  t = { s.turnedOff with flm := t.flm, osc := t.osc } ∧
    t.osc = { s.osc with
      state := .tripped, enable := false, startDue := none, stopDue := none, restartDue := none
      tripList := tripListAfter s.osc.tripList (stampOf s.clock), listDue := t.osc.listDue } ∧
    t.osc.listDue.isSome = true ∧ (t.osc.tripList.length = 4 → t.flm.holds .restartLimit = true) ∧
    t.flm.reaction.trip = true

/-! ## The terms of the statements about yaw -/

/-- R119, R121: in `t` the move that was in BRAKE_RELEASE or MOVING in `s` has been stopped: outputs off, and BRAKE_APPLY
until the brake released input is off, the grant being held so long. -/
def State.stopped (s t : State) : Prop :=
  t.ywc.releaseOut = false ∧ t.ywc.enables = Vector.replicate 6 false ∧
    if s.ywc.brakeIn = true then t.ywc.state = .brakeApply ∧ t.apa.yawGranted = s.apa.yawGranted
    else t.ywc.state = .idle ∧ t.ywc.move = none ∧ t.apa.yawGranted = 0

/-- R124: how many drives are usable. -/
def Ywc.usableDrives (y : Ywc) : Nat := ((List.finRange 6).filter fun d => y.ready[d] && !y.marked[d]).length

/-- R117: drive `d` is among the lowest-numbered usable drives, as many as the grant `k`. -/
def Ywc.selected (y : Ywc) (k : Nat) (d : Fin 6) : Prop :=
  y.ready[d] = true ∧ y.marked[d] = false ∧
    ((List.finRange 6).filter fun e => decide (e < d) && y.ready[e] && !y.marked[e]).length < k

/-- R107, steps 1 to 3, and R108: the YWC with the sample of an evaluation. -/
def Ywc.sampled (y : Ywc) : Ywc :=
  if y.vaneSeen = true then
    let e : Int := if y.vane < 1800 then y.vane else (y.vane : Int) - 3600
    let w := (if y.window.length < 30 then y.window else y.window.drop 1) ++ [e]
    if e.natAbs ≤ 900 then { y with window := w, grossCount := 0 }
    else if y.grossCount < 2 then { y with window := w, grossCount := y.grossCount + 1 }
    else { y with window := [e], grossCount := 0, bypass := true, urgent := true }
  else y

/-- R107, step 4: the mean of the window, truncated toward zero. -/
def Ywc.meanError (y : Ywc) : Int := y.window.sum.tdiv y.window.length

/-- R105, R107, step 5: the filtered absolute wind direction. -/
def Ywc.windOver (y : Ywc) : Nat := (((y.platform + y.angle) % 3600 + y.meanError) % 3600).toNat

/-- R112: the candidate offset comes from the table in the sector `sec`. -/
def State.steersIn (s : State) (sec : Sector) : Bool :=
  sec.steer && !sec.restrict && s.partnerProducing sec.partner && decide (s.osc.state = .producing) && s.ywc.windValid &&
    decide (s.ywc.params.bandLower ≤ s.ywc.windSpeed ∧ s.ywc.windSpeed ≤ s.ywc.params.bandUpper)

/-- R110: the fault manager after the misalignment count of an evaluation with filtered error `ef` at `now`. -/
def State.misalignedFlm (s : State) (now : Clocks) (ef : Int) : Flm :=
  if 300 < ef.natAbs then
    (if s.ywc.misalignCount = 59 then s.flm.take (stampOf now) (.present .misalignment ef) else s.flm)
  else if s.flm.holds .misalignment = true then s.flm.take (stampOf now) (.gone .misalignment) else s.flm

/-! ## The terms of the statements about the power arbiter -/

/-- R160: free power, the budget in force less the granted total. -/
def Apa.freePower (a : Apa) : Int :=
  (if a.rideThrough = true then (a.figures.budgetRt : Int) else a.figures.budget) -
    (a.figures.pumpLoad + a.figures.fanLoad * a.fansGranted + a.figures.yawLoad * a.yawGranted : Nat)

/-- R164: how many motors a yaw request would get of the free power `free`. -/
def State.motorsFor (s : State) (free : Int) : Nat := min 6 (min s.ywc.usableDrives (free.toNat / s.apa.figures.yawLoad))

/-- R162: a yaw request takes the first place while a fan request waits at the override temperature `temp`. -/
abbrev State.yawFirst (s : State) (temp : Int) : Prop := s.apa.yawRequest = some true ∧ temp < 580

/-- R163: the fan request that waits in `s` is granted at an examination: free power, as a yaw request with precedence leaves
it, is at least the fan load, and no such request stays. -/
abbrev State.fanGranted (s : State) (temp : Int) : Prop :=
  let k := s.motorsFor s.apa.freePower
  if s.yawFirst temp then 4 ≤ k ∧ (s.apa.figures.fanLoad : Int) ≤ s.apa.freePower - (s.apa.figures.yawLoad * k : Nat)
  else (s.apa.figures.fanLoad : Int) ≤ s.apa.freePower

/-- R164: the motors granted at an examination at which the fan request stays: those of a yaw request granted at it, else
those granted before. -/
def State.motorsHeld (s : State) : Nat :=
  let k := s.motorsFor s.apa.freePower
  if s.apa.yawRequest.isSome = true ∧ 4 ≤ k then k else s.apa.yawGranted

/-- R162, R166: the override test sends a stop request at an examination at which the fan request stays: at 580 or above,
with yaw motors granted and none sent since they were. -/
abbrev State.stopsForFan (s : State) (temp : Int) : Prop :=
  ¬ s.fanGranted temp ∧ 580 ≤ temp ∧ 0 < s.motorsHeld ∧ (s.apa.yawGranted = 0 ∨ s.apa.overrideSent = false)

/-- R162 to R166, R142: the APA, the fans and the yaw state in `t` after a fan request waits in `s` at the override
temperature `temp` and the wait list has been examined, `s` being sound. -/
def State.fanRequested (s t : State) (temp : Int) : Prop :=
  let load := s.apa.figures.fanLoad
  let held := s.motorsHeld
  if s.fanGranted temp then
    let k := s.motorsFor (if s.yawFirst temp then s.apa.freePower else s.apa.freePower - load)
    let both := s.apa.yawRequest.isSome = true ∧ 4 ≤ k
    t.apa = { s.apa with
      fansGranted := s.apa.fansGranted + 1, fanRequest := false
      yawGranted := if both then k else s.apa.yawGranted, yawRequest := if both then none else s.apa.yawRequest
      overrideSent := s.apa.overrideSent && !decide both } ∧
      (¬ both → t.ywc = s.ywc) ∧ (both → t.ywc.state = .brakeRelease ∨ t.ywc.state = .moving) ∧
      ∃ f : Fin 4, s.clc.fans[f].failed = false ∧ s.clc.fans[f].runOut = false ∧
        (∀ g : Fin 4, g < f → s.clc.fans[g].failed = true ∨ s.clc.fans[g].runOut = true) ∧
        ∀ g : Fin 4, t.clc.fans[g].runOut = (s.clc.fans[g].runOut || g == f)
  else if s.stopsForFan temp then
    if s.ywc.state = .brakeApply then
      t.ywc = s.ywc ∧ t.apa = { s.apa with fanRequest := true, overrideSent := true } ∧ t.clc.fans = s.clc.fans
    else
      t.ywc.releaseOut = false ∧ t.ywc.enables = Vector.replicate 6 false ∧
        if s.ywc.brakeIn = true then
          t.ywc.state = .brakeApply ∧ t.clc.fans = s.clc.fans ∧
            t.apa = { s.apa with fanRequest := true, yawRequest := none, yawGranted := held, overrideSent := true }
        else
          let given := (load : Int) ≤ s.apa.freePower + (s.apa.figures.yawLoad * s.apa.yawGranted : Nat)
          t.ywc.state = .idle ∧ t.ywc.move = none ∧
            t.apa = { s.apa with
              fanRequest := !decide given, fansGranted := if given then s.apa.fansGranted + 1 else s.apa.fansGranted
              yawRequest := none, yawGranted := 0, overrideSent := false }
  else
    let granted := s.apa.yawRequest.isSome = true ∧ 4 ≤ s.motorsFor s.apa.freePower
    t.apa = { s.apa with
      fanRequest := true, yawGranted := held, yawRequest := if granted then none else s.apa.yawRequest
      overrideSent := s.apa.overrideSent && !decide granted } ∧ t.clc.fans = s.clc.fans ∧
      (¬ granted → t.ywc = s.ywc) ∧ (granted → t.ywc.state = .brakeRelease ∨ t.ywc.state = .moving)

/-- R166: the fault manager after the stop request of cooling override at `now`, in a sound state in which no yaw request
waits: AUX_OVERRIDE with the override temperature, and the stall gone where the yaw state returns to IDLE at once. -/
def State.overrideFlm (s : State) (now : Clocks) (temp : Int) : Flm :=
  let f := s.flm.take (stampOf now) (.event .auxOverride temp)
  if s.ywc.state ≠ .brakeApply ∧ s.ywc.brakeIn = false ∧ s.flm.holds .yawStall = true then
    f.take (stampOf now) (.gone .yawStall)
  else f

/-! ## The terms of the statements about cooling -/

/-- R149, R201: the state once the CLC has changed from `old`: STARTING where it was in STANDBY with the run command set,
flow has come to be delivered by the change, and the other start conditions hold. -/
def State.startsOver (s : State) (old : Clc) : State :=
  if s.osc.state = .standby ∧ old.delivering = false ∧ s.clc.delivering = true then s.tested else s

/-- The feedback timer of an output that disagrees with its input from `now` on, or does so no more (R124, R138, R143). -/
def feedback (now : Clocks) (was is : Bool) (old : Option Clocks) : Option Clocks :=
  match was, is with
  | _, false => none
  | false, true => some (now + ms 2000)
  | true, true => old

/-- R134: the bitmap of the OUT channels, bit c - 1 for channel c. -/
def Clc.outBits (c : Clc) : Nat :=
  (if c.convIn.validity = .out then 1 else 0) + (if c.convOut.validity = .out then 2 else 0) +
    (if c.genOut.validity = .out then 4 else 0) + (if c.cable.validity = .out then 64 else 0)

end Sys2Proof.Machine
end

