-- ==== Sys2Proof/Certificates/Slice0/Obligations.lean ====
section
/-! DEFINITION. The statements about the model, for the provers. -/

open Sys2Proof Sys2Proof.Machine

/-! ## Steps and resets -/

/-- For every state whose queue holds a command c in front of the commands rest, the step is exec c on the state with the
queue rest; with an empty queue the state stays as it is. The queue and idling are the model's own (log entries 2 and
13). The moments at which commands act are the model's as well (log entry 2). (0.6, 95) -/
def Obligations.StepTakesTheFrontCommand : Prop :=
  (∀ (c : Instr) (rest : List Instr) (s : State), s.pending = c :: rest → step s = exec c { s with pending := rest }) ∧
    ∀ s : State, s.pending = [] → step s = .next s

/-- For every command and every state, exec answers a next state, and the queue of waiting commands is left as it was.
That a command whose event cannot happen in the state goes on too is the model's choice (log entry 7). (0.5, 95) -/
def Obligations.EveryCommandGoesOn : Prop :=
  ∀ (c : Instr) (s : State), ∃ t, exec c s = .next t ∧ t.pending = s.pending

/-- For every state and every strap value 1..12, with at least 4 drives ready, COLD_RESET answers a next state in which
every slot of the pool is free, no condition is present, the effective reaction holds nothing with smallest factor
1000, and the summary of the STATUS reads 0 records, severity 255, code 0 and flags 0; time stamps taken afterwards
count from the reset. (R188) -/
def Obligations.ColdResetEmptiesThePool : Prop :=
  ∀ (straps : BitVec 4) (s : State), 1 ≤ straps.toNat → straps.toNat ≤ 12 → 4 ≤ countSet s.ywc.ready →
    ∃ t, exec (.coldReset straps) s = .next t ∧ t.clock = 0 ∧ t.flm.opens = [] ∧ t.flm.history = [] ∧
      (∀ i, t.flm.inUse i = false) ∧ (∀ c, t.flm.holds c = false) ∧ t.flm.reclaimedUnsent = false ∧
      t.flm.reaction = { trip := false, yawStop := false, untwistYawStop := false, safeStop := false, fMin := 1000 } ∧
      t.snapshot.openRecords = 0 ∧ t.snapshot.highestSeverity = 255 ∧ t.snapshot.newestCode = 0 ∧
      t.snapshot.summaryFlags = 0 ∧ ∀ dt : Clocks, (t.elapse dt).stamp = stampOf dt

/-- For every state and every strap value 1..12, with at least 4 drives ready, WARM_RESET answers a next state in which
every record that was OPEN or OPEN-CLEARED stands, in the order of the OPEN list, behind the old HISTORY, closed for
WARM RESET with the stamp of the reset; reclaimed-unsent and the pending notices are kept, no condition is present,
and the next boundary offers the best pending notice. (R189) -/
def Obligations.WarmResetKeepsThePool : Prop :=
  ∀ (dt : Clocks) (straps : BitVec 4) (s : State), 1 ≤ straps.toNat → straps.toNat ≤ 12 → 4 ≤ countSet s.ywc.ready →
    ∃ t, exec (.warmReset dt straps) s = .next t ∧ t.clock = 0 ∧ t.flm.opens = [] ∧
      t.flm.history = s.flm.history ++ s.flm.opens.map (fun r =>
        { r with
          state := .closed, closeStamp := stampOf (s.clock + dt), closeReason := .warmReset,
          closeTransition := some (if r.openPending then .openedAndClosed else .closed), openPending := false,
          closePending := true }) ∧
      t.flm.reclaimedUnsent = s.flm.reclaimedUnsent ∧ (∀ c, t.flm.holds c = false) ∧
      t.flm.reaction = { trip := false, yawStop := false, untwistYawStop := false, safeStop := false, fMin := 1000 } ∧
      t.slc.notice = none ∧
      ∃ u, exec .idleGap t = .next u ∧
        u.slc.notice.map (fun n => (n.slot, n.transition)) = t.flm.bestNotice?.map fun b => (b.1.slot, b.2)

/-- After a COLD_RESET or WARM_RESET with straps 1..12 and at least 4 drives ready, the SLC, PTB, SCU, CVP, YWC, CLC, CTS,
APA and OSC hold, field by field, the values the spec gives them after reset, the input pins keeping their levels and
the feedback timers running where a pin disagrees with its output; with straps 0 or 13..15 the part is UNCONFIGURED
with CONFIG_INVALID open, value 16, and no scan runs; with fewer than 4 drives ready YAW_DRIVES_INSUFFICIENT is open
with their count. The values of fields for which the spec gives none, the pins, and the moment the clock starts and
the moment the dark count begins are the model's choices (log entries 4, 5, 6, 22, 35 and 36). (R61, R83, R104, R132,
R151, R158, R170, R119, R192, R208, 1.7) -/
def Obligations.ResetsLeaveTheBlocks : Prop :=
  (∀ (dt : Clocks) (straps : BitVec 4) (s t : State), 1 ≤ straps.toNat → straps.toNat ≤ 12 → 4 ≤ countSet s.ywc.ready →
    exec (.coldReset straps) s = .next t ∨ exec (.warmReset dt straps) s = .next t →
    t.clock = 0 ∧
      t.slc = { lineState := .sync, gapDue := bitTimes 16, lastBoundary := 0, contender := none, pulseFrom := none
                sending := none, statusSlot := none, replySlot := none, recordSlot := none, notice := none, errors := 0
                errorsSinceCopy := 0, statusDue := ms 100, duplicateDue := none } ∧
      (t.ptb.loaded = false ∧ t.ptb.isolated = false ∧ t.ptb.isolationDue = none ∧ t.ptb.foreignDue = none ∧
        (∀ j : Fin 12, t.ptb.slots[j] = none ∧
          t.ptb.entries[j] = { freshness := .neverHeard, ageFrom := none, lastStatus := none, stamp := none, tripCodes := []
                               lastTripNotice := none, cableHot := false, disagreement := 0 })) ∧
      t.scu = { periodDue := none, cap := 100, dOwn := 0, cLive := 0, dSeen := 0, sRaw := 0, sApp := 0, eLim := 0
                enable := false, hold := false, dHold := 0, cCfg := 0, rampUp := 0, rampDown := 0, fCab := 0 } ∧
      t.cvp = { selectLine := s.cvp.selectLine, seenReleased := !s.cvp.selectLine, port := .idle, bitCount := 0, shift := 0
                staging := [], pauseDue := none
                front := { counter := 0, enable := false, rideThrough := false, reactivePriority := false
                           exportLimit := 0, reactive := 0 }
                backEnable := false, backLimit := 0, swapPending := false, strobeMode := .off, strobeLine := false
                strobeDue := none
                measurement := { available := 0, actual := 0, voltage := 0, dcLink := 0, faultWord := 0 }
                silenceDue := none, rideThrough := false, entryTime := 0, lowest := 0, curveDue := none
                recoveryDue := none, overvoltageDue := none } ∧
      t.ywc = { angle := 0, platform := 0, vane := 0, vaneSeen := false, windSpeed := 0, windValid := false
                vaneInvalidDue := none, window := [], grossCount := 0, bypass := false, urgent := false
                windDirection := 0, misalignCount := 0, evalDue := none
                sectors := Vector.replicate 24 { steer := false, restrict := false, partner := none, offsetRef := 0 }
                offsets := Vector.replicate 8 0
                params := { startThreshold := 80, softLimit := 7200, hardLimit := 9000, bandLower := 50, bandUpper := 120 }
                state := .idle, move := none, offsetInUse := 0, steering := false, hold := false, twistKnown := false
                twist := 0, prevAngle := 0, stallCount := 0, stallRef := 0, releaseOut := false, brakeIn := s.ywc.brakeIn
                direction := .clockwise, enables := Vector.replicate 6 false, ready := s.ywc.ready
                running := s.ywc.running, marked := Vector.replicate 6 false
                feedbackDue := Vector.ofFn fun d : Fin 6 => feedback 0 false s.ywc.running[d] none
                releaseDue := none, applyDue := feedback 0 false s.ywc.brakeIn none, retryDue := none, waitDue := none } ∧
      (let holding : TempChannel := { held := 0, validity := .holding, holdDue := some (ms 10000) }
       t.clc.convIn = holding ∧ t.clc.convOut = holding ∧ t.clc.genOut = holding ∧ t.clc.cable = holding ∧
        t.clc.flow = 0 ∧ t.clc.flowDue = some (ms 5000) ∧ t.clc.stageFlags = Vector.replicate 4 false ∧
        t.clc.valve = 500 ∧ t.clc.tOwn = 0 ∧ t.clc.evalDue = ms 1000 ∧
        t.clc.params = { stages := #v[420, 460, 500, 540], valveTarget := 400, knee := 550, tripTemp := 650, minFlow := 60
                         cableLimit := 750 } ∧
        t.clc.minFlowInForce = 60 ∧
        t.clc.pumps[0] = { state := .duty, runIn := s.clc.pumps[0].runIn
                           feedbackDue := feedback 0 false (!s.clc.pumps[0].runIn) none } ∧
        t.clc.pumps[1] = { state := .standby, runIn := s.clc.pumps[1].runIn
                           feedbackDue := feedback 0 false s.clc.pumps[1].runIn none } ∧
        ∀ f : Fin 4, t.clc.fans[f] = { failed := false, runOut := false, runIn := s.clc.fans[f].runIn
                                       feedbackDue := feedback 0 false s.clc.fans[f].runIn none }) ∧
      (t.cts.clockSel = 2 ∧ t.cts.scan = none ∧ t.cts.scanDue = some (ms 2000) ∧
        ∀ c : Fin 8, t.cts.channels[c] = { scanned := true, baseline := 300, margin := 150, ceiling := 1200, raw := none
                                           reported := none, candidate := none, agree := 0 }) ∧
      t.apa = { figures := { budget := 80, budgetRt := 40, pumpLoad := 15, fanLoad := 6, yawLoad := 8 },
                rideThrough := false, fansGranted := 0, yawGranted := 0, fanRequest := false, yawRequest := none,
                overrideSent := false, shedPending := false } ∧
      t.osc = { state := .loading, station := straps.toNat, loader := .reading [], runCommand := false,
                stringStopSeen := false, enable := false, startDue := none, stopDue := none, restartDue := none,
                tripList := [], listDue := none, arrivalSeen := false }) ∧
  (∀ (dt : Clocks) (straps : BitVec 4) (s t : State), straps.toNat = 0 ∨ 12 < straps.toNat →
    exec (.coldReset straps) s = .next t ∨ exec (.warmReset dt straps) s = .next t →
    t.osc.state = .unconfigured ∧ t.osc.loader = .idle ∧ t.osc.station = straps.toNat ∧ t.osc.enable = false ∧
      (t.flm.openRecord? .configInvalid).map (·.value) = some 16 ∧ t.cts.scan = none ∧ t.cts.scanDue = none) ∧
  ∀ (dt : Clocks) (straps : BitVec 4) (s t : State), 1 ≤ straps.toNat → straps.toNat ≤ 12 → countSet s.ywc.ready < 4 →
    exec (.coldReset straps) s = .next t ∨ exec (.warmReset dt straps) s = .next t →
    t.osc.state = .loading ∧ t.flm.holds .yawDrivesInsufficient = true ∧
      (t.flm.openRecord? .yawDrivesInsufficient).map (·.value) = some (BitVec.ofNat 32 (countSet s.ywc.ready))

/-! ## The line -/

/-- IDLE_GAP in SYNC or TRAIL and BOUNDARY in IDLE answer a next state at their due time, with the line IDLE, the notice
register following the answer of the FLM, and the full source of highest effective priority contending, ties in the
order REPLY, STATUS, NOTICE, RECORD, if the station number is valid. The effective priority is the base priority
raised by one for each 4 losses and capped at 14. (R2, R4, R5, R18, R19, R20) -/
def Obligations.BoundaryChoosesAFrame : Prop :=
  (∀ s : State,
    (s.slc.lineState = .sync ∨ s.slc.lineState = .trail →
      ∃ x, exec .idleGap s = .next { s with clock := max s.clock s.slc.gapDue, slc := x } ∧
        s.boundaryAt (max s.clock s.slc.gapDue) x) ∧
    (s.slc.lineState = .idle →
      ∃ x, exec .boundary s = .next { s with clock := max s.clock (s.slc.lastBoundary + bitTimes 16), slc := x } ∧
        s.boundaryAt (max s.clock (s.slc.lastBoundary + bitTimes 16)) x)) ∧
  (∀ x : Slc, x.base .reply = 11 ∧ x.base .status = 9 ∧ x.base .record = 4) ∧
    (∀ (x : Slc) (n : NoticeReg), x.notice = some n →
      x.base .notice =
        if n.code.severity = .trip ∨ n.code.severity = .safeStop ∨ n.code = .stringCableHot then 13 else 7) ∧
    ∀ (x : Slc) (src : Source), x.priority src = min 14 (x.base src + x.loss src / 4) ∧ x.priority src < 15

/-- ARBITRATION_START in IDLE makes the line ARBITRATION; LIGHT_SEEN_IN_TRAIL in TRAIL or SYNC starts the dark count anew;
FRAME_TOO_LONG during another station's frame makes the line TRAIL and sets the length error bit; nothing else changes
but the clock. That the moment of the light is the end of the bit time it stands in is the model's choice (log entry
35). (R2, R3, R33) -/
def Obligations.LightMovesTheLine : Prop :=
  ∀ (dt : Clocks) (s : State),
    (s.slc.lineState = .idle →
      exec (.arbitrationStart dt) s = .next { s with clock := s.clock + dt, slc := { s.slc with lineState := .arbitration } }) ∧
    (s.slc.lineState = .sync ∨ s.slc.lineState = .trail →
      exec (.lightSeenInTrail dt) s =
        .next { s with clock := s.clock + dt, slc := { s.slc with gapDue := s.clock + dt + bitTimes 16 } }) ∧
    (s.slc.lineState = .frame → s.slc.sending = none →
      let now := max s.clock (s.slc.lastBoundary + bitTimes (64 + 1593))
      exec .frameTooLong s =
        .next ({ s with clock := now, slc := { s.slc with lineState := .trail, gapDue := now + bitTimes 16 } }.withError 8))

/-- At the pulse position of the contender's digit, PULSE_POSITION answers a next state: with no pulse heard earlier in
the round the contender pulses and goes on to the next round; else its frame's loss count rises, saturating at 255,
the aged-to-cap bit is set exactly when the effective priority reaches 14 by it, and the choice is released; contents
and other counts stay. (R5, R6, R7, R33) -/
def Obligations.PulseKeepsOrLosesTheRound : Prop :=
  ∀ (c : Contender) (s : State), s.slc.contender = some c → (s.slc.lineState = .idle ∨ s.slc.lineState = .arbitration) →
    c.round ≤ 4 → s.slc.full c.source = true →
    let now := max s.clock (s.slc.lastBoundary + bitTimes (16 * (c.round - 1) + 4 * (3 - keyDigit c.key c.round)))
    exec (.pulsePosition false) s =
        .next { s with clock := now, slc := { s.slc with
          lineState := .arbitration, pulseFrom := some now, contender := some { c with round := c.round + 1 } } } ∧
      ∃ x, exec (.pulsePosition true) s = .next { s with clock := now, slc := x } ∧
        x.lineState = .arbitration ∧ x.contender = none ∧ x.pulseFrom = none ∧
        x.loss c.source = min 255 (s.slc.loss c.source + 1) ∧ (∀ o, o ≠ c.source → x.loss o = s.slc.loss o) ∧
        (∀ o, x.echo o = s.slc.echo o ∧ x.full o = s.slc.full o) ∧
        x.errors = (if s.slc.priority c.source < 14 ∧ x.priority c.source = 14 then s.slc.errors ||| 0x400#16 else s.slc.errors) ∧
        x.statusSlot.map (·.content) = s.slc.statusSlot.map (·.content) ∧
        x.replySlot.map (·.content) = s.slc.replySlot.map (·.content) ∧
        x.recordSlot.map (·.content) = s.slc.recordSlot.map (·.content) ∧
        x.notice.map (fun n => (n.slot, n.transition, n.code)) = s.slc.notice.map (fun n => (n.slot, n.transition, n.code)) ∧
        x.sending = s.slc.sending ∧ x.gapDue = s.slc.gapDue ∧ x.lastBoundary = s.slc.lastBoundary ∧
        x.statusDue = s.slc.statusDue ∧ x.duplicateDue = s.slc.duplicateDue

/-- At bit time 64, SURVIVAL answers a next state: a contender whose source still holds its frame starts the frame with
the header of R21, its payload and the CRC; without one the line is FRAME or TRAIL as light is seen or not. The number
of the record a notice is copied from, by which the send tells a reclaimed slot, is the model's (log entry 3). That a
contender without content goes on as a listener is the model's reading (log entry 29), and that a record which took a
reclaimed slot and owes the same transition is sent is its choice (log entry 39). (R2, R9, R21, R34, R36) -/
def Obligations.SurvivorSendsItsFrame : Prop :=
  ∀ (lit : Bool) (s : State), s.slc.lineState = .arbitration →
    let now := max s.clock (s.slc.lastBoundary + bitTimes 64)
    (∀ c target payload, s.slc.contender = some c → s.copyContent c.source = some (target, payload) →
      exec (.survival lit) s = .next { s with clock := now, slc := { s.slc with
        lineState := .frame, contender := none, pulseFrom := none
        sending := some
          { source := c.source, refilled := false, opening := s.copyOpening c.source
            bits :=
              encodeHeader
                { kind := c.source.kind, sender := BitVec.ofNat 4 s.osc.station, target := target,
                  priority := BitVec.ofNat 4 c.priority, field := BitVec.ofNat 16 payload.length } ++
              (payload ++ bytes16 (crc16 payload)).flatMap bitsOf }
        errorsSinceCopy := if c.source = .reply then 0 else s.slc.errorsSinceCopy } }) ∧
    (s.slc.contender = none ∨ (∃ c, s.slc.contender = some c ∧ s.copyContent c.source = none) →
      exec (.survival lit) s = .next { s with clock := now, slc := { s.slc with
        contender := none, pulseFrom := none
        lineState := if lit then .frame else .trail
        gapDue := if lit then s.slc.gapDue else now + bitTimes 16 } })

/-- ECHO_MISMATCH on a bit time of the own frame heard otherwise than it was sent answers a next state with the
transmitter dark, the line TRAIL with a dark count of 1 where the bit time was heard dark and of 0 else, error bit 9
set and the mismatch count raised; at the third mismatch of the frame the count returns to 0, error bit 5 is set, the
duplicate timer starts at 10000 ms and DUPLICATE_STATION is reported with value 1. FRAME_SENT answers a next state:
the sent source is emptied (a STATUS slot refilled since the copy keeps its new frame with counts 0), a sent REPLY
clears the accumulator bits it carried, a sent notice is told to the FLM; nothing else changes but the line. The
moment of the idle gap after an own frame is the model's reading (log entry 9). (R10, R13, R11, R34, R183, R2) -/
def Obligations.OwnFramesEnd : Prop :=
  (∀ (bit : Nat) (heard : BitTime) (f : Transmission) (s : State), s.slc.sending = some f →
    (∃ b, f.bits[bit]? = some b ∧ ¬ (heard.first = b ∧ heard.second = !b)) →
    let now := max s.clock (s.slc.lastBoundary + bitTimes (64 + (bit + 1)))
    let x := { s.slc with
      sending := none, lineState := .trail
      gapDue := now + bitTimes (if heard.first = false ∧ heard.second = false then 15 else 16) }
    if s.slc.echo f.source < 2 then
      exec (.echoMismatch { index := bit, heard := heard }) s =
        .next ({ s with clock := now, slc := x.setCounts f.source (x.loss f.source) (x.echo f.source + 1) }.withError 9)
    else
      exec (.echoMismatch { index := bit, heard := heard }) s =
        .next (({ s with
          clock := now
          slc := { x.setCounts f.source (x.loss f.source) 0 with duplicateDue := some (now + ms 10000) }
          flm := s.flm.take (stampOf now) (.present .duplicateStation 1) }.withError 9).withError 5)) ∧
  ∀ (f : Transmission) (s : State), s.slc.sending = some f →
    let now := max s.clock (s.slc.lastBoundary + bitTimes (64 + f.bits.length))
    let x := { s.slc with sending := none, lineState := .trail, gapDue := now + bitTimes 16 }
    exec .frameSent s = .next (
      match f.source with
      | .status =>
        { s with clock := now, slc := { x with
          statusSlot := if f.refilled then s.slc.statusSlot.map (fun p => { p with loss := 0, echo := 0 }) else none } }
      | .reply => { s with clock := now, slc := { x with replySlot := none, errors := s.slc.errors &&& s.slc.errorsSinceCopy } }
      | .record => { s with clock := now, slc := { x with recordSlot := none } }
      | .notice =>
        { s with
          clock := now, slc := { x with notice := none }
          flm := (s.slc.notice.map fun n => s.flm.noticeSent n.slot n.transition f.opening).getD s.flm })

/-- For every header: its 40 bits decode to it; the pad bit does not matter; with any one of the other 39 bits inverted it
is corrected to the same header; with any two of them inverted it is uncorrectable. (R22, R23) -/
def Obligations.HeaderCodeCorrectsOneError : Prop :=
  ∀ h : Header,
    (encodeHeader h).length = 40 ∧ decodeHeader (encodeHeader h) = .clean h ∧
      decodeHeader ((encodeHeader h).modify 39 not) = .clean h ∧
      (∀ p, p < 39 → decodeHeader ((encodeHeader h).modify p not) = .corrected h) ∧
      ∀ p q, p < q → q < 39 → decodeHeader (((encodeHeader h).modify p not).modify q not) = .uncorrectable

/-- The bits of every frame the SLC sends classify as its header, uncorrected; its trailing bytes are the payload and CRC,
and the length check and the CRC check pass. The payload has the length of its table in 2.6 with every field at its
offset, most significant byte first: the snapshot in the STATUS slot; code, result, data and the accumulator for a
REPLY; the copy in the RECORD slot; the record in the slot of the notice register while it owes that transition, and
no frame when none does. The copy for RECORD REQUEST carries the record's fields and latest transition, and a received
STATUS or NOTICE is read at the same offsets. That a record which took a reclaimed slot and owes the same transition
is sent is the model's choice (log entry 39). (R9, R21, R22, R24, R28, R36, R37, R38, R182, R185, 2.6) -/
def Obligations.SentFramesPassTheChecks : Prop :=
  (∀ (s : State) (src : Source) (station priority : Nat) (target : BitVec 4) (payload : List Byte) (fill : Byte),
    s.copyContent src = some (target, payload) →
    let bits := sentBits src station priority target payload
    let h : Header :=
      { kind := src.kind, sender := BitVec.ofNat 4 station, target := target, priority := BitVec.ofNat 4 priority,
        field := BitVec.ofNat 16 payload.length }
    bits.length = 40 + 8 * (payload.length + 2) ∧ classify bits = .known h false ∧
      groupBytes fill (trailingBits bits) = payload ++ bytes16 (crc16 payload) ∧
      lengthGood h (payload.length + 2) = true ∧ crcGood h (payload ++ bytes16 (crc16 payload)) = true) ∧
  (∀ s : State,
    (∀ p, s.slc.statusSlot = some p → ∃ bs, s.copyContent .status = some (15, bs) ∧ laidOut bs 36 p.content.layout) ∧
    (∀ p, s.slc.replySlot = some p →
      ∃ bs, s.copyContent .reply = some (p.content.target, bs) ∧ laidOut bs 6 (p.content.layout s.slc.errors)) ∧
    (∀ p, s.slc.recordSlot = some p →
      ∃ bs, s.copyContent .record = some (p.content.target, bs) ∧ laidOut bs 23 p.content.payload.layout) ∧
    ∀ n, s.slc.notice = some n → s.flm.sound →
      let due := fun r : Record => (r ∈ s.flm.opens ∨ r ∈ s.flm.history) ∧ r.slot = n.slot ∧ r.owes n.transition
      (∀ r, due r → ∃ bs, s.copyContent .notice = some (15, bs) ∧ laidOut bs 18 (r.noticeLayout n.transition)) ∧
      ((∀ r, ¬ due r) → s.copyContent .notice = none)) ∧
  (∀ (r : Record) (latest : Transition),
    (if r.state = .closed then r.closeTransition = some latest else latest = .opened) →
    laidOut r.copy.bytes 23 (r.copyLayout latest)) ∧
  ∀ bs : List Byte,
    (bs.length = 36 → laidOut bs 36 (readStatus bs).layout) ∧ (bs.length = 18 → laidOut bs 18 (readNotice bs).layout)

/-- STATUS_TIMER_EXPIRY answers a next state at its due time, with the next expiry 100 ms later and the STATUS slot
holding the snapshot, field by field, with the counts of the frame it replaces; a STATUS being sent is marked as
refilled. The opening numbers that tell the newest record are the model's (log entry 3). (R16, R35, R184, 2.6) -/
def Obligations.StatusTimerTakesTheSnapshot : Prop :=
  ∀ s : State,
    ∃ p : StatusPayload, exec .statusTimerExpiry s = .next { s with
        clock := max s.clock s.slc.statusDue
        slc := { s.slc with
          statusDue := s.slc.statusDue + ms 100
          statusSlot := some { content := p, loss := s.slc.loss .status, echo := s.slc.echo .status }
          sending := s.slc.sending.map fun f => if f.source = .status then { f with refilled := true } else f } } ∧
      p.opState = (match s.osc.state with
        | .loading => 0 | .unconfigured => 1 | .standby => 2 | .starting => 3 | .producing => 4 | .rideThrough => 5
        | .stopping => 6 | .tripped => 7 | .safeStop => 8) ∧
      (p.flags.getLsbD 0 = s.cvp.rideThrough ∧ p.flags.getLsbD 1 = s.ptb.isolated ∧
        (p.flags.getLsbD 2 = true ↔ s.ywc.state = .moving) ∧ (p.flags.getLsbD 3 = true ↔ s.flm.reaction.fMin < 1000) ∧
        p.flags.getLsbD 4 = s.ywc.steering ∧ p.flags.toNat < 32) ∧
      (if s.osc.state = .loading ∨ s.osc.state = .unconfigured then
        p.ratedPower = 0 ∧ p.demand = 0 ∧ p.appliedShare = 0 ∧ p.thermalLimit = 0 ∧ p.dSeen = 0 ∧ p.cLive = 0
      else
        p.ratedPower = BitVec.ofNat 16 s.ratedOwn ∧
          p.demand = BitVec.ofNat 16 (if s.scu.hold then s.scu.dHold else s.scu.dOwn) ∧
          p.appliedShare = BitVec.ofNat 16 s.scu.sApp ∧ p.thermalLimit = BitVec.ofNat 16 s.clc.tOwn ∧
          p.dSeen = BitVec.ofNat 32 s.scu.dSeen ∧ p.cLive = BitVec.ofNat 32 s.scu.cLive) ∧
      p.actualExport = s.cvp.measurement.actual ∧ p.heading = BitVec.ofNat 16 ((s.ywc.platform + s.ywc.angle) % 3600) ∧
      p.windDirection = BitVec.ofNat 16 s.ywc.windDirection ∧ p.windSpeed = BitVec.ofNat 16 s.ywc.windSpeed ∧
      p.twist = BitVec.ofInt 16 s.ywc.twist ∧ p.steeringOffset = BitVec.ofInt 16 s.ywc.offsetInUse ∧
      p.openRecords = BitVec.ofNat 8 s.flm.opens.length ∧ p.linkErrors = s.slc.errors ∧
      p.summaryFlags.getLsbD 0 = s.flm.reclaimedUnsent ∧
      (p.summaryFlags.getLsbD 1 = true ↔ ∃ r ∈ s.flm.opens, r.code = .configInvalid) ∧ p.summaryFlags.toNat < 4 ∧
      (s.flm.opens = [] → p.highestSeverity = 255 ∧ p.newestCode = 0) ∧
      (s.flm.opens ≠ [] → s.flm.sound →
        (∃ r ∈ s.flm.opens, p.highestSeverity = BitVec.ofNat 8 r.severity.rank ∧
          ∀ x ∈ s.flm.opens, x.severity.rank ≤ r.severity.rank) ∧
        ∃ r ∈ s.flm.opens, p.newestCode = BitVec.ofNat 8 r.code.number ∧ ∀ x ∈ s.flm.opens, x.seq ≤ r.seq)

/-! ## Received frames -/

/-- FRAME_DISCARDED of a short frame or an uncorrectable header sets bit 1, of an unknown kind bit 3 (with bit 0 where
corrected); a STATUS, NOTICE, REPLY or RECORD of wrong length sets bit 8, of right length with a wrong CRC bit 2; each
answers a next state and changes nothing but the line and the bits. (R26, R30, R3, R23, R28) -/
def Obligations.DiscardedFramesSetTheirBit : Prop :=
  (∀ (heard : List BitTime) (s : State), s.slc.lineState = .frame → s.slc.sending = none → heardWellFormed heard = true →
    (heard.length < 40 ∨ decodeHeader (headerBits (heardBits heard)) = .uncorrectable →
      exec (.frameDiscarded heard) s = .next ((s.afterFrame heard false).withError 1)) ∧
    (∀ h, 40 ≤ heard.length → decodeHeader (headerBits (heardBits heard)) = .clean h → 5 ≤ h.kind.toNat →
      exec (.frameDiscarded heard) s = .next ((s.afterFrame heard false).withError 3)) ∧
    ∀ h, 40 ≤ heard.length → decodeHeader (headerBits (heardBits heard)) = .corrected h → 5 ≤ h.kind.toNat →
      exec (.frameDiscarded heard) s = .next ((s.afterFrame heard true).withError 3)) ∧
  ∀ (heard : List BitTime) (h : Header) (corrected : Bool) (c : Instr) (s : State), s.hears heard h corrected →
    (h.kind = 0 ∧ c = .statusReceived heard) ∨ (h.kind = 1 ∧ c = .noticeReceived heard) ∨
      ((h.kind = 3 ∨ h.kind = 4) ∧ c = .replyOrRecordReceived heard) →
    let bytes := s.trailing heard
    let len := h.field.toNat
    (len = 0 ∨ 192 < len ∨ bytes.length ≠ len + 2 ∨ len ≠ kindLength h.kind.toNat →
      exec c s = .next ((s.afterFrame heard corrected).withError 8)) ∧
    (bytes.length = len + 2 → len = kindLength h.kind.toNat → crc16 (bytes.take len) ≠ u16At bytes len →
      exec c s = .next ((s.afterFrame heard corrected).withError 2))

/-- A STATUS, NOTICE, COMMAND of any code, REPLY or RECORD whose sender field is the own valid number sets error bit 5,
starts the duplicate timer and reports DUPLICATE_STATION with value 2; one with a foreign sender sets bit 4, starts
the foreign timer and reports FOREIGN_TRAFFIC with the sender field; nothing else is done. (R14, R25, R27, R33, R58) -/
def Obligations.OwnAndForeignSendersAreReported : Prop :=
  (∀ (heard : List BitTime) (h : Header) (corrected : Bool) (zone : Option Int) (c : Instr) (s : State),
    s.slc.lineState = .frame → s.slc.sending = none → heardWellFormed heard = true →
    classify (heardBits heard) = .known h corrected → s.osc.validStation = true → h.sender.toNat = s.osc.station →
    (h.kind = 0 ∧ c = .statusReceived heard) ∨ (h.kind = 1 ∧ c = .noticeReceived heard) ∨
      (h.kind = 2 ∧ c = commandRow heard zone h.commandCode) ∨
      ((h.kind = 3 ∨ h.kind = 4) ∧ c = .replyOrRecordReceived heard) →
    let u := s.afterFrame heard corrected
    exec c s =
      .next ({ u with
        slc := { u.slc with duplicateDue := some (u.clock + ms 10000) }
        flm := u.flm.take (stampOf u.clock) (.present .duplicateStation 2) }.withError 5)) ∧
  ∀ (heard : List BitTime) (h : Header) (corrected : Bool) (zone : Option Int) (c : Instr) (s : State),
    s.slc.lineState = .frame → s.slc.sending = none → heardWellFormed heard = true →
    classify (heardBits heard) = .known h corrected →
    ¬ (s.osc.validStation = true ∧ h.sender.toNat = s.osc.station) →
    (if s.ptb.loaded then h.sender.toNat ≠ 13 ∧ h.sender.toNat ≠ 14 ∧ s.ptb.slotOf? h.sender.toNat = none
      else h.sender.toNat = 0 ∨ h.sender.toNat = 15) →
    (h.kind = 0 ∧ c = .statusReceived heard) ∨ (h.kind = 1 ∧ c = .noticeReceived heard) ∨
      (h.kind = 2 ∧ c = commandRow heard zone h.commandCode) ∨
      ((h.kind = 3 ∨ h.kind = 4) ∧ c = .replyOrRecordReceived heard) →
    let u := s.afterFrame heard corrected
    exec c s =
      .next ({ u with
        ptb := { u.ptb with foreignDue := some (u.clock + ms 10000) }
        flm := u.flm.take (stampOf u.clock) (.present .foreignTraffic h.sender.toNat) }.withError 4)

/-- STATUS_RECEIVED of a valid STATUS from a slot peer that is not EXCLUDED answers a next state: the entry is FRESH, its
age timer runs anew, it holds the payload and stamp, the last trip notice is NONE, a peer in LOADING loses its trip
codes and cable-hot flag, the disagreement counter follows R59, the isolation timer restarts and isolation ends.
PEER_LOST is reported gone when the STATUS leaves no slot lost and present with its bitmap when another stays so,
SHARE_VIEW_DISAGREE present with its bitmap when the counter reaches 50 and gone when it leaves 50 with no other at
50; a bitmap that does not change is not reported, and the fault manager takes nothing else. The order of the reports
of one frame is the model's choice (log entry 16). (R48, R53, R56, R57, R59, R60) -/
def Obligations.ValidStatusMakesThePeerFresh : Prop :=
  ∀ (heard : List BitTime) (h : Header) (corrected : Bool) (j : Fin 12) (s : State), s.hears heard h corrected →
    h.kind = 0 → s.payloadGood heard h → s.fromPeer h j →
    let u := s.afterFrame heard corrected
    let e := s.ptb.entries[j]
    let p := readStatus (s.trailing heard)
    ∃ t, exec (.statusReceived heard) s = .next t ∧
      t = { u with flm := t.flm, ptb := { u.ptb with
        isolationDue := some (u.clock + ms 2000), isolated := false
        entries := u.ptb.entries.set j
          { freshness := .fresh, ageFrom := some u.clock, lastStatus := some p, stamp := some (stampOf u.clock)
            tripCodes := if p.opState = 0 then [] else e.tripCodes, lastTripNotice := none
            cableHot := if p.opState = 0 then false else e.cableHot
            disagreement :=
              if p.opState = 0 ∨ p.opState = 1 then e.disagreement
              else if s.scu.cCfg / 20 < ((p.dSeen.toNat : Int) - s.scu.dSeen).natAbs then min 50 (e.disagreement + 1)
              else 0 } } } ∧
      (let f := (s.flm.bitmapMoved u.clock .peerLost s.lostBits t.lostBits).bitmapMoved u.clock .shareViewDisagree
          s.disagreeBits t.disagreeBits;
        t.flm = (if s.ptb.isolated = true then f.take (stampOf u.clock) (.gone .linkIsolated) else f)) ∧
      (s.lostBits ≠ 0 → t.lostBits = 0 → t.flm.holds .peerLost = false) ∧
      (s.lostBits = t.lostBits → t.flm.holds .peerLost = s.flm.holds .peerLost) ∧
      (e.disagreement ≠ 50 → t.ptb.entries[j].disagreement = 50 → t.flm.holds .shareViewDisagree = true) ∧
      (e.disagreement = 50 → t.ptb.entries[j].disagreement ≠ 50 →
        t.flm.holds .shareViewDisagree = decide (∃ i, i ≠ j ∧ s.ptb.entries[i].disagreement = 50)) ∧
      (s.ptb.isolated = true → t.flm.holds .linkIsolated = false)

/-- NOTICE_RECEIVED of a valid NOTICE from a slot peer that is not EXCLUDED answers a next state in which the peer's fault
view has moved as the transition, severity and code say, and nothing of its freshness; the isolation timer restarts
and isolation ends. (R51, R52, R56) -/
def Obligations.ValidNoticeMovesTheFaultView : Prop :=
  ∀ (heard : List BitTime) (h : Header) (corrected : Bool) (j : Fin 12) (d : Descriptor) (s : State),
    s.hears heard h corrected → h.kind = 1 → s.payloadGood heard h → s.fromPeer h j → s.ptb.slots[j] = some d →
    let u := s.afterFrame heard corrected
    let e := s.ptb.entries[j]
    let p := readNotice (s.trailing heard)
    let trips := p.severity = 4 ∨ p.severity = 5
    ∃ t e', exec (.noticeReceived heard) s = .next t ∧
      t = { u with flm := t.flm, ptb := { u.ptb with
        isolationDue := some (u.clock + ms 2000), isolated := false, entries := u.ptb.entries.set j e' } } ∧
      e' = { e with tripCodes := e'.tripCodes, lastTripNotice := e'.lastTripNotice, cableHot := e'.cableHot } ∧
      (FaultCode.ofNumber p.code.toNat = none ∨ 2 < p.transition.toNat → e' = e) ∧
      ∀ c, FaultCode.ofNumber p.code.toNat = some c →
        (p.transition = 0 →
          (∀ x, x ∈ e'.tripCodes ↔ x ∈ e.tripCodes ∨ (trips ∧ x = c)) ∧
            e'.lastTripNotice = (if trips then some c else e.lastTripNotice) ∧
            e'.cableHot = if c = .stringCableHot ∧ d.cableMonitor then true else e.cableHot) ∧
        (p.transition = 1 →
          e'.tripCodes = (if trips then e.tripCodes.filter (· != c) else e.tripCodes) ∧
            e'.lastTripNotice = (if trips ∧ e'.tripCodes = [] then none else e.lastTripNotice) ∧
            e'.cableHot = if c = .stringCableHot ∧ d.cableMonitor then false else e.cableHot) ∧
        (p.transition = 2 →
          e'.tripCodes = (if trips then e.tripCodes.filter (· != c) else e.tripCodes) ∧
            e'.lastTripNotice = (if trips then some c else e.lastTripNotice) ∧
            e'.cableHot = if c = .stringCableHot ∧ d.cableMonitor then false else e.cableHot)

/-- REPLY_OR_RECORD_RECEIVED of a valid frame from a slot peer restarts the isolation timer, ends isolation, and changes
no entry; a valid frame of any long kind from an EXCLUDED slot changes nothing but the line. (R31, R32, R47, R56) -/
def Obligations.AnswersCountAsHeardUnlessExcluded : Prop :=
  (∀ (heard : List BitTime) (h : Header) (corrected : Bool) (j : Fin 12) (s : State), s.hears heard h corrected →
    h.kind = 3 ∨ h.kind = 4 → s.payloadGood heard h → s.fromPeer h j →
    let u := s.afterFrame heard corrected
    exec (.replyOrRecordReceived heard) s = .next { u with
      ptb := { u.ptb with isolationDue := some (u.clock + ms 2000), isolated := false }
      flm := if s.ptb.isolated then u.flm.take (stampOf u.clock) (.gone .linkIsolated) else u.flm }) ∧
  ∀ (heard : List BitTime) (h : Header) (corrected : Bool) (j : Fin 12) (d : Descriptor) (c : Instr) (s : State),
    s.hears heard h corrected → s.payloadGood heard h → s.ptb.loaded = true →
    s.ptb.slotOf? h.sender.toNat = some j → s.ptb.slots[j] = some d → d.excluded = true →
    (h.kind = 0 ∧ c = .statusReceived heard) ∨ (h.kind = 1 ∧ c = .noticeReceived heard) ∨
      ((h.kind = 3 ∨ h.kind = 4) ∧ c = .replyOrRecordReceived heard) →
    exec c s = .next (s.afterFrame heard corrected)

/-- At its due time DUPLICATE_TIMER_EXPIRY reports DUPLICATE_STATION gone, ISOLATION_TIMER_EXPIRY makes the station
ISOLATED and reports LINK_ISOLATED with value 0, FOREIGN_TIMER_EXPIRY reports FOREIGN_TRAFFIC gone; each timer stops
and no other block is told anything. 350 ms after its last STATUS, AGE_TIMER_STALE makes a FRESH entry STALE and
changes nothing else; 2000 ms after it, AGE_TIMER_LOST makes a STALE entry LOST with its timer stopped and its
disagreement counter 0, PEER_LOST is present for a peer that is not EXCLUDED, and SHARE_VIEW_DISAGREE is gone when its
last bit goes. (R15, R56, R58, R181, R49, R57, R59, R60) -/
def Obligations.LinkAndPeerTimersExpire : Prop :=
  (∀ (due : Clocks) (s : State),
    let now := max s.clock due
    (s.slc.duplicateDue = some due →
      exec .duplicateTimerExpiry s = .next { s with
        clock := now, slc := { s.slc with duplicateDue := none }
        flm := s.flm.take (stampOf now) (.gone .duplicateStation) }) ∧
    (s.ptb.isolationDue = some due →
      exec .isolationTimerExpiry s = .next { s with
        clock := now, ptb := { s.ptb with isolationDue := none, isolated := true }
        flm := s.flm.take (stampOf now) (.present .linkIsolated 0) }) ∧
    (s.ptb.foreignDue = some due →
      exec .foreignTimerExpiry s = .next { s with
        clock := now, ptb := { s.ptb with foreignDue := none }
        flm := s.flm.take (stampOf now) (.gone .foreignTraffic) })) ∧
  ∀ (from_ : Clocks) (j : Fin 12) (s : State), s.ptb.entries[j].ageFrom = some from_ →
    let e := s.ptb.entries[j]
    (e.freshness = .fresh →
      exec (.ageTimerStale j) s = .next { s with
        clock := max s.clock (from_ + ms 350)
        ptb := { s.ptb with entries := s.ptb.entries.set j { e with freshness := .stale } } }) ∧
    (e.freshness = .stale →
      ∃ f, exec (.ageTimerLost j) s = .next { s with
          clock := max s.clock (from_ + ms 2000), flm := f
          ptb := { s.ptb with entries := s.ptb.entries.set j { e with freshness := .lost, ageFrom := none, disagreement := 0 } } } ∧
        (s.activePeer j = true → f.holds .peerLost = true) ∧
        (e.disagreement = 50 → (∀ i, i ≠ j → s.ptb.entries[i].disagreement ≠ 50) → f.holds .shareViewDisagree = false) ∧
        (s.activePeer j = false → e.disagreement ≠ 50 → f = s.flm))

/-! ## Commands -/

/-- A COMMAND with trailing bits sets error bit 8; one for another station only counts as heard; a targeted one sets bit 6
while the REPLY slot is full, is answered NOT PERMITTED with bit 7 from a sender other than 13 and 14, and with
UNKNOWN COMMAND or BAD ARGUMENT where its code or argument is not allowed; nothing else changes. (R29, R39, R40, R31,
R32, R41, R56) -/
def Obligations.CommandsAreTurnedAway : Prop :=
  ∀ (heard : List BitTime) (h : Header) (corrected : Bool) (zone : Option Int) (s : State), s.hears heard h corrected →
    h.kind = 2 →
    let row := commandRow heard zone h.commandCode
    let u := s.afterFrame heard corrected
    let v := u.counted h.sender.toNat
    (40 < heard.length → exec row s = .next (u.withError 8)) ∧
    (heard.length = 40 → h.target ≠ 15 → s.osc.validStation = false ∨ h.target.toNat ≠ s.osc.station →
      exec row s = .next v) ∧
    (heard.length = 40 → s.osc.validStation = true → h.target.toNat = s.osc.station →
      (s.slc.replySlot.isSome = true → exec row s = .next (v.withError 6)) ∧
      (s.slc.replySlot = none → h.sender ≠ 13 → h.sender ≠ 14 →
        exec row s = .next ((v.withError 7).answered h .notPermitted 0)) ∧
      (s.slc.replySlot = none → h.sender = 13 ∨ h.sender = 14 →
        ∀ r, v.badCommand h.commandCode h.argument = some r → exec row s = .next (v.answered h r 0)))

/-- A COMMAND to target 15 leaves the REPLY slot as it is: from a sender other than 13 and 14 it only sets bit 7, with a
code or argument that is not allowed it does nothing, RECORD REQUEST finding the RECORD slot full sets bit 6; else its
owner carries it out where it accepts it: the effect of each code is stated, and the next state is the one that the
same command, targeted at the own station, leaves, apart from the REPLY slot and the address of a copied record, which
is 15. (R38, R43, R129, R130, R186, R200) -/
def Obligations.BroadcastIsNotAnswered : Prop :=
  ∀ (heard : List BitTime) (h : Header) (corrected : Bool) (zone : Option Int) (s : State), s.hears heard h corrected →
    h.kind = 2 → heard.length = 40 → h.target = 15 →
    let u := (s.afterFrame heard corrected).counted h.sender.toNat
    if h.sender ≠ 13 ∧ h.sender ≠ 14 then exec (commandRow heard zone h.commandCode) s = .next (u.withError 7)
    else if (u.badCommand h.commandCode h.argument).isSome then exec (commandRow heard zone h.commandCode) s = .next u
    else if h.commandCode = 7 ∧ s.slc.recordSlot.isSome then
      exec (commandRow heard zone h.commandCode) s = .next (u.withError 6)
    else
      ∃ t, exec (commandRow heard zone h.commandCode) s = .next t ∧ t.slc.replySlot = s.slc.replySlot ∧
        t.slc.errors = u.slc.errors ∧
        (h.commandCode = 7 →
          ∃ r, u.flm.recordAt? h.argument = some r ∧
            t = { u with slc := { u.slc with
              recordSlot := some { content := { target := 15, payload := r.copy }, loss := 0, echo := 0 } } }) ∧
        (h.commandCode = 8 → t = { u with scu := { u.scu with cap := h.argument } }) ∧
        (h.commandCode = 1 → t =
          if u.osc.state ≠ .standby then u
          else if u.flm.reaction.trip = false ∧ u.clc.delivering = true ∧ u.cvp.silenceDue.isSome ∧ u.osc.arrivalSeen then
            { u with osc := { u.osc with
              runCommand := true, state := .starting, enable := true, startDue := some (u.clock + ms 10000) } }
          else { u with osc := { u.osc with runCommand := true } }) ∧
        (h.commandCode = 2 → t =
          if u.osc.state = .producing ∨ u.osc.state = .rideThrough then
            { u with osc := { u.osc with
              state := .stopping, runCommand := false, stopDue := some (u.clock + ms 30000) } }
          else u) ∧
        (h.commandCode = 3 → t.ywc.hold = true ∧
          (s.ywc.state = .idle ∨ s.ywc.state = .brakeApply → t = { u with ywc := { u.ywc with hold := true } }) ∧
          (s.ywc.state = .requestPower → t.ywc.state = .idle ∧ t.ywc.move = none ∧ t.apa.yawRequest = none) ∧
          (s.ywc.state = .brakeRelease ∨ s.ywc.state = .moving → s.yawSound →
            t.ywc.releaseOut = false ∧ t.ywc.enables = Vector.replicate 6 false ∧
              t.ywc.state = if s.ywc.brakeIn then .brakeApply else .idle)) ∧
        (h.commandCode = 4 → t = { u with ywc := { u.ywc with hold := false } }) ∧
        (h.commandCode = 5 → s.ywc.state ≠ .idle ∨ s.osc.state.isUnloaded = true → t = u) ∧
        (h.commandCode = 6 →
          let v := u.faultReview zone
          let closing := fun r : Record => r.state == .openCleared && r.code != .configInvalid
          t = { v with flm := t.flm, osc := t.osc } ∧ t.flm.opens = v.flm.opens.filter (fun r => !closing r) ∧
            t.flm.history.length = v.flm.history.length + (v.flm.opens.filter closing).length ∧
            t.flm.reclaimedUnsent = false) ∧
        (h.commandCode = 9 → t.osc.runCommand = false ∧ t.osc.stringStopSeen = true ∧
          if u.osc.state.isProducing = true then
            t.osc.state = .standby ∧ t.osc.enable = false ∧ (u.osc.enable = true → t.scu.eLim = 0 ∧ t.scu.enable = false)
          else t = { u with osc := { u.osc with runCommand := false, stringStopSeen := true } }) ∧
        ∀ (own : List BitTime) (x : State), s.osc.validStation = true → own.length = 40 → heardWellFormed own = true →
          classify (heardBits own) = .known { h with target := BitVec.ofNat 4 s.osc.station } corrected →
          exec (commandRow own zone h.commandCode) { s with slc := { s.slc with replySlot := none } } = .next x →
          t = { x with slc := { x.slc with
            replySlot := s.slc.replySlot
            recordSlot := if h.commandCode = 7 then t.slc.recordSlot else x.slc.recordSlot } }

/-- A targeted START in STANDBY sets the run command and, with the start conditions holding, enters STARTING with the
enable on and the start timer at 10000 ms; STOP in PRODUCING or RIDE_THROUGH clears it and enters STOPPING with the
stop timer at 30000 ms; both are answered ACCEPTED, and REFUSED STATE in any other state. (R42, R200, R201, R203) -/
def Obligations.StartAndStopMoveTheOperatingState : Prop :=
  (∀ (heard : List BitTime) (h : Header) (corrected : Bool) (s : State), s.commanded heard h corrected 1 0 →
    let u := s.afterFrame heard corrected
    exec (.start heard) s = .next (
      if s.osc.state ≠ .standby then u.answered h .refusedState 0
      else if s.flm.reaction.trip = false ∧ s.clc.delivering = true ∧ s.cvp.silenceDue.isSome ∧ s.osc.arrivalSeen then
        { u with osc := { u.osc with
          runCommand := true, state := .starting, enable := true, startDue := some (u.clock + ms 10000) } }.answered h .accepted 0
      else { u with osc := { u.osc with runCommand := true } }.answered h .accepted 0)) ∧
  ∀ (heard : List BitTime) (h : Header) (corrected : Bool) (s : State), s.commanded heard h corrected 2 0 →
    let u := s.afterFrame heard corrected
    exec (.stop heard) s = .next (
      if s.osc.state = .producing ∨ s.osc.state = .rideThrough then
        { u with osc := { u.osc with
          state := .stopping, runCommand := false, stopDue := some (u.clock + ms 30000) } }.answered h .accepted 0
      else u.answered h .refusedState 0)

/-- A targeted STRING STOP is accepted in every state: the run command is cleared and string stop seen is set; in a
producing state the OSC is in STANDBY with the enable off and its timers stopped, E_lim is 0 and the CVP has been
handed the extra block, swapped at once unless a read is in progress. (R80, R91, R199, R200) -/
def Obligations.StringStopEndsProduction : Prop :=
  ∀ (heard : List BitTime) (h : Header) (corrected : Bool) (s : State), s.commanded heard h corrected 9 0 →
    let u := s.afterFrame heard corrected
    let osc := { u.osc with runCommand := false, stringStopSeen := true }
    if s.osc.state.isProducing = true then
      ∃ cvp, exec (.stringStop heard) s = .next ({ u with
          cvp := cvp
          osc := { osc with state := .standby, enable := false, startDue := none, stopDue := none, restartDue := none }
          scu := if s.osc.enable then { u.scu with eLim := 0, enable := false } else u.scu }.answered h .accepted 0) ∧
        (s.osc.enable = false → cvp = s.cvp) ∧
        (s.osc.enable = true → cvp.backEnable = false ∧ cvp.backLimit = 0 ∧
          if s.cvp.readInProgress then cvp.swapPending = true ∧ cvp.front = s.cvp.front
          else cvp.front.enable = false ∧ cvp.front.exportLimit = 0 ∧ cvp.front.counter = s.cvp.front.counter + 1)
    else exec (.stringStop heard) s = .next ({ u with osc := osc }.answered h .accepted 0)

/-- A targeted YAW HOLD sets the hold and is answered ACCEPTED in every yaw state; a waiting request is withdrawn and a
move in BRAKE_RELEASE or MOVING goes to BRAKE_APPLY, or to IDLE where the brake is applied already; YAW RELEASE clears
the hold, is answered ACCEPTED and changes nothing else. (R115, R119, R121, R129, R42) -/
def Obligations.YawHoldAndRelease : Prop :=
  ∀ (heard : List BitTime) (h : Header) (corrected : Bool) (s : State),
    let u := s.afterFrame heard corrected
    (s.commanded heard h corrected 3 0 →
      (s.ywc.state = .idle ∨ s.ywc.state = .brakeApply →
        exec (.yawHold heard) s = .next ({ u with ywc := { u.ywc with hold := true } }.answered h .accepted 0)) ∧
      (s.ywc.state = .requestPower →
        ∃ t, exec (.yawHold heard) s = .next t ∧ t.ywc.hold = true ∧ t.ywc.state = .idle ∧ t.ywc.move = none ∧
          t.ywc.waitDue = none ∧ t.apa.yawRequest = none ∧ t.flm.holds .yawWaitPower = false ∧
          t.slc = (u.answered h .accepted 0).slc) ∧
      (s.ywc.state = .brakeRelease ∨ s.ywc.state = .moving → s.yawSound →
        ∃ t, exec (.yawHold heard) s = .next t ∧ t.ywc.hold = true ∧ t.ywc.releaseOut = false ∧
          t.ywc.enables = Vector.replicate 6 false ∧ t.slc = (u.answered h .accepted 0).slc ∧
          t.ywc.state = if s.ywc.brakeIn then .brakeApply else .idle)) ∧
    (s.commanded heard h corrected 4 0 →
      exec (.yawRelease heard) s = .next ({ u with ywc := { u.ywc with hold := false } }.answered h .accepted 0))

/-- A targeted UNTWIST is refused outside yaw state IDLE. In IDLE it is accepted with n, the twist in whole turns rounded
to the nearest with halves away from zero, as data, and an urgent untwist move to twist - 3600 n begins; with n 0,
twist unknown, no load or a yaw stop other than TWIST_HARD_LIMIT no move is made and the data is 0. Cooling override
is taken not to hold, since it could stop the move granted at once. (R130, R131, R115) -/
def Obligations.UntwistTakesOutWholeTurns : Prop :=
  ∀ (heard : List BitTime) (h : Header) (corrected : Bool) (s : State), s.commanded heard h corrected 5 0 →
    s.yawSound → s.coolingOverride = false →
    let u := s.afterFrame heard corrected
    if s.ywc.state ≠ .idle then exec (.untwist heard) s = .next (u.answered h .refusedState 0)
    else
      ∃ n : Int, 2 * (s.ywc.twist - 3600 * n).natAbs ≤ 3600 ∧
        (2 * (s.ywc.twist - 3600 * n).natAbs = 3600 → s.ywc.twist.natAbs < (3600 * n).natAbs) ∧
        if n = 0 ∨ s.ywc.twistKnown = false ∨ s.osc.state.isUnloaded = true ∨ s.flm.reaction.untwistYawStop = true then
          exec (.untwist heard) s = .next (u.answered h .accepted 0)
        else
          ∃ t m, exec (.untwist heard) s = .next t ∧ t.ywc.move = some m ∧ m.target = s.ywc.twist - 3600 * n ∧
            m.direction = (if s.ywc.twist < m.target then .clockwise else .counterClockwise) ∧ m.urgent = true ∧
            m.untwist = true ∧ (t.ywc.state = .requestPower ∨ t.ywc.state = .brakeRelease ∨ t.ywc.state = .moving) ∧
            t.ywc.offsetInUse = s.ywc.offsetInUse ∧
            t.slc = (u.answered h .accepted (BitVec.ofInt 16 n)).slc ∧
            t = { u with slc := t.slc, ywc := t.ywc, clc := t.clc, apa := t.apa, flm := t.flm }

/-- A targeted FAULT RESET is accepted; after the reviews of the YWC and the CLC, every OPEN-CLEARED record other than
CONFIG_INVALID is closed for FAULT RESET in the order of the OPEN list, reclaimed-unsent is cleared, the data is the
number closed. The operating state is as the reviews left it, but that a trip which ceases by the closing starts the
restart delay at 60000 ms in TRIPPED and has the start conditions tested in STANDBY, and that SAFE_STOP is left for
STANDBY, with that test, exactly when safe stop no longer holds. (R128, R150, R181, R186, R201, R205, R207) -/
def Obligations.FaultResetClosesTheCleared : Prop :=
  ∀ (heard : List BitTime) (h : Header) (corrected : Bool) (zone : Option Int) (s : State),
    s.commanded heard h corrected 6 0 →
    let v := (s.afterFrame heard corrected).faultReview zone
    let closing := fun r : Record => r.state == .openCleared && r.code != .configInvalid
    ∃ t, exec (.faultReset heard zone) s = .next t ∧ t.flm.opens = v.flm.opens.filter (fun r => !closing r) ∧
      t.flm.history = v.flm.history ++ (v.flm.opens.filter closing).map (fun r =>
        { r with
          state := .closed, closeStamp := stampOf v.clock, closeReason := .faultReset,
          closeTransition := some (if r.openPending then .openedAndClosed else .closed), openPending := false,
          closePending := true }) ∧
      t.flm.reclaimedUnsent = false ∧ t.flm.present = v.flm.present ∧
      t.slc = (v.answered h .accepted (BitVec.ofNat 16 (v.flm.opens.filter closing).length)).slc ∧
      (let w := { v with flm := t.flm };
        t.osc = (match v.osc.state with
          | .tripped =>
            if v.flm.reaction.trip = true ∧ t.flm.reaction.trip = false then
              { w with osc := { v.osc with restartDue := some (v.clock + ms 60000) } }
            else w
          | .standby => if v.flm.reaction.trip = true ∧ t.flm.reaction.trip = false then w.tested else w
          | .safeStop => if t.flm.reaction.safeStop = true then w else w.standby
          | _ => w).osc) ∧
      t = { v with slc := t.slc, flm := t.flm, osc := t.osc }

/-- In the reviews before the records are closed: a FAILED pump or fan whose running input is off comes back, one whose
input is on stays. With a pump DUTY the duty and COOLING_LOST stay; with none DUTY the lowest-numbered pump that
stands by or comes back takes duty, its feedback timer and the flow monitor running as its input and the flow have it,
and COOLING_LOST is gone, another that comes back stands by, and where both stay FAILED nothing changes on the pumps
and COOLING_LOST is as it was. PUMP_FAIL and FAN_FAIL are present exactly while a mark stays; in yaw state IDLE with
the twist known a valid zone sets the twist anew with the reports of R126 and R127, an invalid one reports
TWIST_UNKNOWN; else the twist stays. The number PUMP_FAIL bears with both pumps FAILED and the order of the reviews
are the model's choice (log entries 12 and 16). (R125, R126, R127, R128, R138, R139, R140, R150) -/
def Obligations.FaultResetReviewsTheMarks : Prop :=
  ∀ (zone : Option Int) (s : State),
    let t := s.faultReview zone
    (∀ p : Fin 2, s.clc.pumps[p].state = .failed → s.clc.pumps[p].runIn = true → t.clc.pumps[p] = s.clc.pumps[p]) ∧
    (∀ p : Fin 2, s.clc.pumps[p].state = .failed → s.clc.pumps[p].runIn = false →
      t.clc.pumps[p].state = .standby ∨ t.clc.pumps[p].state = .duty) ∧
    ((∃ p : Fin 2, s.clc.pumps[p].state = .duty) →
      t.flm.holds .coolingLost = s.flm.holds .coolingLost ∧
      ∀ p : Fin 2, (t.clc.pumps[p].state = .duty ↔ s.clc.pumps[p].state = .duty)) ∧
    ((∀ p : Fin 2, s.clc.pumps[p].state ≠ .duty) →
      let comes := fun p : Fin 2 => s.clc.pumps[p].state = .standby ∨ s.clc.pumps[p].runIn = false
      (∀ p : Fin 2, comes p → (∀ q : Fin 2, q < p → ¬ comes q) → t.flm.holds .coolingLost = false ∧
        t.clc.pumps[p] = { state := .duty, runIn := s.clc.pumps[p].runIn
                           feedbackDue := if s.clc.pumps[p].runIn = true then none else some (s.clock + ms 2000) } ∧
        (∀ q : Fin 2, p < q → comes q → t.clc.pumps[q].state = .standby) ∧
        t.clc.flowDue = (if s.clc.flow < s.clc.minFlowInForce then some (s.clock + ms 5000) else none)) ∧
      ((∀ p : Fin 2, ¬ comes p) → t.clc.pumps = s.clc.pumps ∧ t.flm.holds .coolingLost = s.flm.holds .coolingLost)) ∧
    (t.flm.holds .pumpFail = true → ∃ p : Fin 2, t.clc.pumps[p].state = .failed) ∧
    ((∃ p : Fin 2, t.clc.pumps[p].state = .failed) → t.flm.holds .pumpFail = true) ∧
    (∀ f : Fin 4, t.clc.fans[f].failed = (s.clc.fans[f].failed && s.clc.fans[f].runIn)) ∧
    (t.flm.holds .fanFail = true ↔ ∃ f : Fin 4, t.clc.fans[f].failed = true) ∧
    (s.ywc.state = .idle → s.ywc.twistKnown = true → ∀ z, zone = some z →
      let turned : Int := (if s.ywc.angle ≤ 1799 then (s.ywc.angle : Int) else s.ywc.angle - 3600) + 3600 * z
      t.ywc.twist = max (-10800) (min 10800 turned) ∧ t.flm.holds .twistUnknown = false ∧
        (10800 < turned.natAbs → t.flm.holds .twistRange = true) ∧
        (turned.natAbs < 10800 → t.flm.holds .twistRange = false) ∧
        (s.osc.state.isUnloaded = false →
          (t.flm.holds .twistHardLimit = true ↔ s.ywc.params.hardLimit < t.ywc.twist.natAbs))) ∧
    (s.ywc.state = .idle → s.ywc.twistKnown = true → zone = none →
      t.ywc.twist = s.ywc.twist ∧ t.flm.holds .twistUnknown = true) ∧
    (s.ywc.state ≠ .idle ∨ s.ywc.twistKnown = false → t.ywc.twist = s.ywc.twist)

/-- A targeted RECORD REQUEST for a slot in use puts the copy of the record, addressed to the sender, into the empty
RECORD slot and is ACCEPTED, or is answered BUSY while that slot is full; STRING CAP with 0..100 sets the cap; a code
outside 1..9 is answered UNKNOWN COMMAND; each changes nothing else. (R38, R41, R42, R66, R185) -/
def Obligations.RecordRequestStringCapAndUnknown : Prop :=
  (∀ (heard : List BitTime) (h : Header) (corrected : Bool) (arg : Nat) (r : Record) (s : State),
    s.commanded heard h corrected 7 arg → arg ≤ 63 → s.flm.recordAt? arg = some r →
    let u := s.afterFrame heard corrected
    exec (.recordRequest heard) s = .next (
      if s.slc.recordSlot.isSome then u.answered h .busy 0
      else
        { u with slc := { u.slc with
          recordSlot := some { content := { target := h.sender, payload := r.copy }, loss := 0, echo := 0 } } }.answered h .accepted 0)) ∧
  ∀ (heard : List BitTime) (h : Header) (corrected : Bool) (code arg : Nat) (s : State),
    s.commanded heard h corrected code arg →
    let u := s.afterFrame heard corrected
    (code = 8 → arg ≤ 100 →
      exec (.stringCap heard) s = .next ({ u with scu := { u.scu with cap := arg } }.answered h .accepted 0)) ∧
    (code = 0 ∨ 9 < code → exec (.unknownCommand heard) s = .next (u.answered h .unknownCommand 0))

/-! ## The share -/

/-- CONTROL_PERIOD answers a next state at its due time, the next expiry 20 ms later: d_own, C_live, s_app and E_lim are
as R65, R67, R75, R77, R78 and R79 form them, s_app rises by at most U in every case, and the CVP is handed the block;
nothing else changes. (R62, R64, R65, R67, R75, R77, R78, R79, R80, R81, R91, R92) -/
def Obligations.ControlPeriodFormsTheLimits : Prop :=
  ∀ (due : Clocks) (s : State), s.scu.periodDue = some due →
    let now := max s.clock due
    let pOwn := s.ratedOwn
    let limit := min s.clc.tOwn (min (pOwn * s.flm.reaction.fMin / 1000) pOwn)
    let capped := min s.scu.cCfg (s.scu.cCfg * s.scu.cap / 100)
    let hot := s.flm.holds .stringCableHot = true ∨
      ∃ (j : Fin 12) (d : Descriptor), s.ptb.slots[j] = some d ∧ d.station ≠ s.osc.station ∧ d.excluded = false ∧
        d.cableMonitor = true ∧ s.ptb.entries[j].cableHot = true
    ∃ u : Scu,
      exec .controlPeriod s = .next { s with clock := now, scu := u, cvp := s.cvp.handed now u.enable u.eLim } ∧
      u = { s.scu with
        periodDue := some (due + ms 20), dOwn := u.dOwn, cLive := u.cLive, dSeen := u.dSeen, sRaw := u.sRaw
        sApp := u.sApp, enable := s.osc.enable, eLim := if s.osc.enable then min u.sApp limit else 0 } ∧
      u.dOwn = (if s.osc.state = .starting ∨ s.osc.state = .producing ∨ s.osc.state = .rideThrough then
        min (min s.cvp.measurement.available.toNat pOwn) limit else 0) ∧
      (hot → u.cLive = min capped (s.scu.cCfg * s.scu.fCab / 1000)) ∧ (¬ hot → u.cLive = capped) ∧
      u.sApp = (
        if s.scu.hold then s.scu.sApp
        else if s.osc.state = .stopping then max u.sRaw (s.scu.sApp - s.scu.rampDown)
        else if u.sRaw ≤ s.scu.sApp then u.sRaw
        else min u.sRaw (s.scu.sApp + s.scu.rampUp)) ∧
      u.sApp ≤ s.scu.sApp + s.scu.rampUp

/-- At every control period of a state with a sound configuration the raw share is at most d_own; outside isolation it is
at most C_avail, the live capacity less the reserves; it is d_own without shortage and min(d_own, r) in isolation.
(R71, R74) -/
def Obligations.RawShareIsBounded : Prop :=
  ∀ (due : Clocks) (s t : State), s.scu.periodDue = some due → s.configSound → exec .controlPeriod s = .next t →
    let r := s.scu.cCfg / s.ptb.stations
    let reserve := r * ((List.finRange 12).filter fun j =>
      s.participation j == .reserve || s.participation j == .excluded).length
    (s.ptb.isolated = true → t.scu.sRaw = min t.scu.dOwn r) ∧
    (s.ptb.isolated = false → t.scu.dSeen ≤ t.scu.cLive - reserve → t.scu.sRaw = t.scu.dOwn) ∧
    t.scu.sRaw ≤ t.scu.dOwn ∧ (s.ptb.isolated = false → t.scu.sRaw ≤ t.scu.cLive - reserve)

/-- For every list of participants with distinct station numbers and more demand than capacity, the raw shares of all
stations add up to C_avail exactly; each is its floor share or one more, never above its demand, and an extra kilowatt
goes to no station while an earlier one below its demand has none. A control period applies this split to the
participants of R68, in ascending station number, and D_seen is their total demand. (R54, R68, R69, R70, R72, R73) -/
def Obligations.SharesAddUpToTheCapacity : Prop :=
  (∀ (reserve avail : Nat) (ps : List (Nat × Nat)), (ps.map Prod.fst).Nodup → avail < (ps.map Prod.snd).sum →
    let share := fun p : Nat × Nat => rawShare false p.1 p.2 reserve avail ps
    let floor := fun p : Nat × Nat => p.2 * avail / (ps.map Prod.snd).sum
    (ps.map share).sum = avail ∧
      (∀ p ∈ ps, floor p ≤ share p ∧ share p ≤ p.2 ∧ share p ≤ floor p + 1) ∧
      ∀ (a b c : List (Nat × Nat)) (p q : Nat × Nat), ps = a ++ p :: b ++ q :: c → share q = floor q + 1 →
        floor p < p.2 → share p = floor p + 1) ∧
  ∀ (due : Clocks) (s t : State), s.scu.periodDue = some due → s.configSound → exec .controlPeriod s = .next t →
    let ps := s.participants t.scu.dOwn
    let r := s.scu.cCfg / s.ptb.stations
    let reserve := r * ((List.finRange 12).filter fun j =>
      s.participation j == .reserve || s.participation j == .excluded).length
    t.scu.sRaw = rawShare s.ptb.isolated s.osc.station t.scu.dOwn r (t.scu.cLive - reserve) ps ∧
      t.scu.dSeen = (ps.map Prod.snd).sum ∧ (ps.map Prod.fst).Pairwise (· < ·) ∧
      ∀ n d, (n, d) ∈ ps ↔ ∃ (j : Fin 12) (x : Descriptor), s.ptb.slots[j] = some x ∧ x.station = n ∧
        ((n = s.osc.station ∧ d = t.scu.dOwn) ∨
          (n ≠ s.osc.station ∧ x.excluded = false ∧
            ((s.ptb.entries[j].freshness = .fresh ∧ d = s.ptb.entries[j].demand) ∨
              (s.ptb.entries[j].freshness = .stale ∧ d = x.rated))))

/-! ## The converter port -/

/-- SELECT_ASSERTED in IDLE puts the port to TYPE once the line has been seen released, and in PAUSED resumes the
transaction with its count; SELECT_RELEASED inside a byte breaks a read or write, making the swap owed by a read,
between bytes pauses it with the pause timer at 2 ms, and otherwise returns to IDLE; nothing else changes. (R84, R85,
R88, R89, R91) -/
def Obligations.SelectMovesThePort : Prop :=
  ∀ (dt : Clocks) (s : State),
    let now := s.clock + dt
    let up := { s.cvp with selectLine := true, bitCount := 0, shift := 0 }
    let down := { s.cvp with selectLine := false, seenReleased := true }
    let ended := { down with port := .idle, bitCount := 0, shift := 0, staging := [] }
    (s.cvp.selectLine = false →
      (s.cvp.port = .idle → s.cvp.seenReleased = true →
        exec (.selectAsserted dt) s = .next { s with clock := now, cvp := { up with port := .typeByte } }) ∧
      (∀ n, s.cvp.port = .paused .read n →
        exec (.selectAsserted dt) s = .next { s with clock := now, cvp := { up with port := .read n, pauseDue := none } }) ∧
      ∀ n, s.cvp.port = .paused .write n →
        exec (.selectAsserted dt) s = .next { s with clock := now, cvp := { up with port := .write n, pauseDue := none } }) ∧
    (s.cvp.selectLine = true →
      (s.cvp.port = .idle → exec (.selectReleased dt) s = .next { s with clock := now, cvp := down }) ∧
      (s.cvp.port = .typeByte ∨ s.cvp.port = .ignore ∨ s.cvp.port = .done →
        exec (.selectReleased dt) s = .next { s with clock := now, cvp := ended }) ∧
      (∀ n, s.cvp.port = .write n →
        exec (.selectReleased dt) s = .next { s with
          clock := now
          cvp := if s.cvp.bitCount = 0 then { down with port := .paused .write n, pauseDue := some (now + ms 2) } else ended }) ∧
      ∀ n, s.cvp.port = .read n →
        exec (.selectReleased dt) s = .next { s with
          clock := now
          cvp :=
            if s.cvp.bitCount = 0 then { down with port := .paused .read n, pauseDue := some (now + ms 2) }
            else if s.cvp.swapPending then ended.swapped now
            else ended })

/-- With the port counting and no bit of the byte taken, eight PORT_CLOCK_RISING_EDGE commands with the bits of a byte
answer a next state that has acted on that byte: the type byte chooses READ, WRITE or IGNORE, a byte before the last
counts in READ and is staged in WRITE, and IGNORE and DONE ignore it. Edges while the port does not count change
nothing but the clock. In READ data out is the next bit of the byte to be sent, most significant first, of the six
bytes that hold counter, flags, export limit and reactive demand at the offsets of 5.3.1, and otherwise it is 0. Data
out as a function of the state, with the first bit of a resumed read shown at once, is the model's choice (log entries
33 and 37); PORT_CLOCK_RISING_EDGE as any rising edge is the model's reading (log entry 17). (R84, R85, R86, R87,
5.3.1) -/
def Obligations.EightEdgesMakeAByte : Prop :=
  (∀ (dt : Clocks) (bit : Bool) (s : State), ¬ s.portOpen →
    exec (.portClockRisingEdge dt bit) s = .next { s with clock := s.clock + dt }) ∧
  (∀ s : State,
    laidOut s.cvp.front.bytes 6 s.cvp.front.layout ∧
    (∀ n, s.portOpen → s.cvp.port = .read n → n < 6 → s.cvp.bitCount < 8 →
      s.cvp.dataOut = (numberAt s.cvp.front.bytes n 1).testBit (7 - s.cvp.bitCount)) ∧
    (¬ s.portOpen ∨ (∀ n, s.cvp.port ≠ .read n) → s.cvp.dataOut = false)) ∧
  ∀ (dt : Clocks) (b : Byte) (s : State), s.portOpen → s.cvp.bitCount = 0 → s.cvp.shift = 0 →
    let run := execAll ((List.range 8).map fun i => .portClockRisingEdge dt (b.getMsbD i)) s
    let now := s.clock + 8 * dt
    (s.cvp.port = .typeByte →
      run = .next { s with
        clock := now
        cvp :=
          if b = 0x31#8 then { s.cvp with port := .read 0 }
          else if b = 0x32#8 then { s.cvp with port := .write 0, staging := [] }
          else { s.cvp with port := .ignore } }) ∧
    (∀ n, s.cvp.port = .read n → n < 5 → run = .next { s with clock := now, cvp := { s.cvp with port := .read (n + 1) } }) ∧
    (∀ n, s.cvp.port = .write n → n < 9 →
      run = .next { s with clock := now, cvp := { s.cvp with port := .write (n + 1), staging := s.cvp.staging ++ [b] } }) ∧
    (s.cvp.port = .ignore ∨ s.cvp.port = .done → run = .next { s with clock := now })

/-- The rising edge that completes the type byte puts the port to READ, WRITE or IGNORE; the one that completes the sixth
setpoint byte puts it to DONE and makes the swap owed; PAUSE_TIMER_EXPIRY abandons the transaction, makes the swap
owed by a read and reports PORT_READ_ABANDONED with 256 times the type byte plus the bytes counted;
STROBE_TIMER_EXPIRY puts the strobe line low; nothing else changes. The rows of named edges as edges of
PORT_CLOCK_RISING_EDGE are the model's reading (log entry 17). (R85, R86, R90, R91, R92, R93, R179) -/
def Obligations.PortBytesAndTimers : Prop :=
  (∀ (dt : Clocks) (s : State), s.portOpen → s.cvp.bitCount = 7 →
    let now := s.clock + dt
    let byte := { s.cvp with bitCount := 0, shift := 0 }
    (s.cvp.port = .typeByte →
      (s.cvp.shift <<< 1 ||| 1#8 = 0x31#8 →
        exec (.readSetpoint dt) s = .next { s with clock := now, cvp := { byte with port := .read 0 } }) ∧
      (s.cvp.shift <<< 1 = 0x32#8 →
        exec (.writeMeasurement dt) s = .next { s with clock := now, cvp := { byte with port := .write 0, staging := [] } }) ∧
      ∀ bit : Bool,
        let b := s.cvp.shift <<< 1 ||| (if bit then 1#8 else 0#8)
        b ≠ 0x31#8 → b ≠ 0x32#8 →
          exec (.unknownPortType dt bit) s = .next { s with clock := now, cvp := { byte with port := .ignore } }) ∧
    (s.cvp.port = .read 5 →
      exec (.readSetpointEnd dt) s = .next { s with
        clock := now
        cvp := if s.cvp.swapPending then { byte with port := .done }.swapped now else { byte with port := .done } })) ∧
  ∀ (due : Clocks) (s : State),
    let now := max s.clock due
    let ended := { s.cvp with pauseDue := none, port := .idle, bitCount := 0, shift := 0, staging := [] }
    (s.cvp.pauseDue = some due →
      (∀ n, s.cvp.port = .paused .read n →
        exec .pauseTimerExpiry s = .next { s with
          clock := now, cvp := if s.cvp.swapPending then ended.swapped now else ended
          flm := s.flm.take (stampOf now) (.event .portReadAbandoned (256 * 49 + n : Nat)) }) ∧
      ∀ n, s.cvp.port = .paused .write n → s.cvp.swapPending = false →
        exec .pauseTimerExpiry s = .next { s with
          clock := now, cvp := ended
          flm := s.flm.take (stampOf now) (.event .portReadAbandoned (256 * 50 + n : Nat)) }) ∧
    (s.cvp.strobeDue = some due →
      exec .strobeTimerExpiry s = .next { s with clock := now, cvp := { s.cvp with strobeLine := false, strobeDue := none } })

/-- For every state in which a READ SETPOINT is in progress and every command, if the read is still in progress after the
step, the front block is what it was. It formalises the sentence of R92 that the front setpoint buffer does not change
while a READ SETPOINT transaction is in progress. (R86, R91, R92) -/
def Obligations.FrontBlockStaysDuringARead : Prop :=
  ∀ s t : State, step s = .next t → s.cvp.readInProgress = true → t.cvp.readInProgress = true → t.cvp.front = s.cvp.front

/-- The edge that completes the tenth byte answers a next state with the ten bytes as measurement block, each field at its
offset in 5.3.2, most significant byte first, the silence timer at 60 ms, arrival seen set, CONVERTER_PORT_SILENT gone
and CONVERTER_REPORTED present exactly for a fault word other than 0, which trips a producing station; at 1100 or less
no overvoltage. With a clear fault word, nothing to report gone and no dip to ride through, nothing else changes. With
GRID_UNDERVOLTAGE_TRIP present and outside ride-through, an arrival of 900 or above reports it gone and one below
leaves it; where its trip ends with it, TRIPPED starts the restart delay at 60000 ms and STANDBY tests the start
conditions, and that this same arrival can then enter PRODUCING is the model's choice (log entry 41). The OSC acts
after the five steps of R94 by the model's reading (log entry 11). (R87, R94, R95, R98, R103, R201, R204, R205, 5.3.2) -/
def Obligations.ArrivalTakesTheBlock : Prop :=
  (∀ bs : List Byte, bs.length = 10 → laidOut bs 10 (readMeasurement bs).layout) ∧
  ∀ (dt : Clocks) (bit : Bool) (m : Measurement) (s : State), s.arrives bit m →
    let now := s.clock + dt
    (∃ t, exec (.measurementArrival dt bit) s = .next t ∧ t.clock = now ∧ t.cvp.measurement = m ∧
      t.cvp.silenceDue = some (now + ms 60) ∧ t.cvp.port = .done ∧ t.cvp.bitCount = 0 ∧ t.cvp.staging = [] ∧
      t.osc.arrivalSeen = true ∧ t.flm.holds .converterPortSilent = false ∧
      t.flm.holds .converterReported = (m.faultWord != 0) ∧
      (m.voltage.toNat ≤ 1100 → t.flm.holds .gridOvervoltage = false ∧ t.cvp.overvoltageDue = none) ∧
      (m.faultWord ≠ 0 → s.osc.state.isProducing = true → s.osc.enable = true → s.flm.reaction.trip = false →
        t.osc.state = .tripped ∧ t.osc.enable = false ∧ t.scu.eLim = 0 ∧ t.cvp.backEnable = false ∧ t.cvp.backLimit = 0)) ∧
    (m.faultWord = 0 → s.portQuiet → s.cvp.rideThrough = false →
      (s.osc.state = .producing ∧ 850 ≤ m.voltage.toNat) ∨ s.osc.state = .tripped ∨ s.osc.state = .safeStop ∨
        s.osc.state = .loading ∨ s.osc.state = .unconfigured →
      exec (.measurementArrival dt bit) s = .next { s with
        clock := now, cvp := s.cvp.afterArrival now m, osc := { s.osc with arrivalSeen := true } }) ∧
    (m.faultWord = 0 → s.flm.holds .converterPortSilent = false → s.flm.holds .converterReported = false →
      s.flm.holds .gridOvervoltage = false → s.flm.holds .gridUndervoltageTrip = true → s.cvp.rideThrough = false →
      let f := if m.voltage.toNat < 900 then s.flm else s.flm.take (stampOf now) (.gone .gridUndervoltageTrip)
      let ceased := s.flm.reaction.trip = true ∧ f.reaction.trip = false
      let u := { s with
        clock := now, cvp := s.cvp.afterArrival now m, flm := f, osc := { s.osc with arrivalSeen := true } }
      f.holds .gridUndervoltageTrip = decide (m.voltage.toNat < 900) ∧
      (s.osc.state = .tripped →
        exec (.measurementArrival dt bit) s = .next (
          if ceased then { u with osc := { u.osc with restartDue := some (now + ms 60000) } } else u)) ∧
      (s.osc.state = .standby →
        exec (.measurementArrival dt bit) s = .next (
          if ceased ∧ u.mayStart ∧ s.osc.arrivalSeen = true ∧ 0 < m.actual.toInt then
            { u with osc := { u.osc with state := .producing, enable := true, startDue := none } }
          else u.tested)) ∧
      ((s.osc.state = .producing ∧ 850 ≤ m.voltage.toNat) ∨ s.osc.state = .safeStop ∨ s.osc.state = .loading ∨
          s.osc.state = .unconfigured →
        exec (.measurementArrival dt bit) s = .next u))

/-- With a clear fault word and nothing to report gone, outside ride-through: in STARTING an arrival with actual power
above 0 enters PRODUCING; in STOPPING one with actual power at or below 5 percent of P_own turns the enable off, hands
the extra block and enters STANDBY; in STANDBY the start conditions are tested, and STARTING is entered where they
hold. STOP_TIMER_EXPIRY turns the enable off, hands the extra block and enters STANDBY; RESTART_DELAY_EXPIRY enters
STANDBY, where the start is tested; LIST_TIMER_EXPIRY drops the oldest stamp, runs on for the next one to be 3600000
ms old, and reports RESTART_LIMIT gone when the list held four; nothing else changes. The OSC acts after the five
steps of R94, and the list timer is due on a whole millisecond, by the model's reading (log entries 11 and 19). (R80,
R94, R201, R203, R205, R206) -/
def Obligations.ProductionStartsAndEnds : Prop :=
  (∀ (dt : Clocks) (bit : Bool) (m : Measurement) (s : State), s.arrives bit m → m.faultWord = 0 → s.portQuiet →
    s.cvp.rideThrough = false →
    let now := s.clock + dt
    let u := { s with clock := now, cvp := s.cvp.afterArrival now m, osc := { s.osc with arrivalSeen := true } }
    (s.osc.state = .starting →
      exec (.measurementArrival dt bit) s = .next (
        if 0 < m.actual.toInt then { u with osc := { u.osc with state := .producing, startDue := none } } else u)) ∧
    (s.osc.state = .stopping → s.osc.enable = true →
      exec (.measurementArrival dt bit) s = .next (
        if m.actual.toInt ≤ (s.ratedOwn * 5 / 100 : Nat) then u.turnedOff.standby else u)) ∧
    (s.osc.state = .standby → s.osc.startDue = none → s.osc.stopDue = none → s.osc.restartDue = none →
      exec (.measurementArrival dt bit) s = .next u.standby)) ∧
  ∀ (due : Clocks) (s : State),
    let u := { s with clock := max s.clock due }
    (s.osc.stopDue = some due → s.osc.enable = true → exec .stopTimerExpiry s = .next u.turnedOff.standby) ∧
    (s.osc.restartDue = some due → exec .restartDelayExpiry s = .next u.standby) ∧
    (s.osc.listDue = some due → ∀ (oldest : Stamp) (rest : List Stamp), s.osc.tripList = oldest :: rest →
      ∃ d, exec .listTimerExpiry s = .next { u with
          osc := { s.osc with tripList := rest, listDue := d }
          flm :=
            if rest.length = 3 ∧ s.flm.holds .restartLimit = true then
              s.flm.take (stampOf u.clock) (.gone .restartLimit)
            else s.flm } ∧
        (d = none ↔ rest = []) ∧
        ∀ next_, rest.head? = some next_ → (u.clock / 20000 - next_.toNat) ≤ 3600000 → next_.toNat ≤ u.clock / 20000 →
          u.clock / 20000 < 2 ^ 32 → d = some (ms (next_.toNat + 3600000)))

/-- In a producing state with no trip in force, SILENCE_TIMER_EXPIRY, OVERVOLTAGE_TIMER_EXPIRY and START_TIMER_EXPIRY
report their code and the OSC is TRIPPED: enable off, extra block handed, timers stopped, no restart delay while the
trip holds, the trip list led by R206; START_TIMEOUT is gone again at the entry. In every other state, or with a trip
in force, only the report is made, the timer stops, and a trip that comes to hold in TRIPPED stops the restart delay.
Nothing else changes. RESTART_LIMIT is taken within the entry to TRIPPED by the model's reading (log entry 31); that
two entries within one millisecond leave two equal stamps is its choice (log entry 40). (R80, R96, R103, R180, R181,
R199, R201, R204, R206, R205) -/
def Obligations.TripsEndProduction : Prop :=
  (∀ (due : Clocks) (s : State), s.osc.state.isProducing = true → s.osc.enable = true → s.flm.reaction.trip = false →
    let u := { s with clock := max s.clock due }
    (s.cvp.silenceDue = some due →
      ∃ t, exec .silenceTimerExpiry s = .next t ∧ t.flm.holds .converterPortSilent = true ∧
        { u with cvp := { s.cvp with silenceDue := none } }.tripsTo t) ∧
    (s.cvp.overvoltageDue = some due →
      ∃ t, exec .overvoltageTimerExpiry s = .next t ∧ t.flm.holds .gridOvervoltage = true ∧
        { u with cvp := { s.cvp with overvoltageDue := none } }.tripsTo t) ∧
    (s.osc.startDue = some due →
      ∃ t, exec .startTimerExpiry s = .next t ∧ t.flm.holds .startTimeout = false ∧ u.tripsTo t)) ∧
  ∀ (due : Clocks) (s : State), s.osc.state.isProducing = false ∨ s.flm.reaction.trip = true →
    let now := max s.clock due
    let osc := if s.osc.state = .tripped ∧ s.flm.reaction.trip = false then { s.osc with restartDue := none } else s.osc
    (s.cvp.silenceDue = some due →
      exec .silenceTimerExpiry s = .next { s with
        clock := now, cvp := { s.cvp with silenceDue := none }, osc := osc
        flm := s.flm.take (stampOf now) (.present .converterPortSilent s.cvp.measurement.dcLink.toNat) }) ∧
    (s.cvp.overvoltageDue = some due →
      exec .overvoltageTimerExpiry s = .next { s with
        clock := now, cvp := { s.cvp with overvoltageDue := none }, osc := osc
        flm := s.flm.take (stampOf now) (.present .gridOvervoltage s.cvp.measurement.voltage.toNat) }) ∧
    (s.osc.startDue = some due →
      exec .startTimerExpiry s = .next { s with
        clock := now, osc := { osc with startDue := none }
        flm := s.flm.take (stampOf now) (.present .startTimeout s.cvp.measurement.actual.toInt) })

/-- An arrival below 850 in PRODUCING, outside ride-through, with a clear fault word and nothing to report gone: the CVP
holds entry time, lowest voltage and the deadline of the trip curve, the OSC is in RIDE_THROUGH, the hold freezes the
announced demand, the APA works with B_rt and has shed to it once no yaw grant is held, a yaw move is stopped, and
RIDE_THROUGH_EVENT is present. Yaw and power are taken to be sound. The OSC acts after the five steps of R94 by the
model's reading (log entry 11). (R76, R97, R98, R119, R167, R168) -/
def Obligations.ADipEntersRideThrough : Prop :=
  ∀ (dt : Clocks) (bit : Bool) (m : Measurement) (s : State), s.arrives bit m → m.faultWord = 0 → s.portQuiet →
    s.cvp.rideThrough = false → s.osc.state = .producing → m.voltage.toNat < 850 → s.yawSound → s.powerSound →
    let now := s.clock + dt
    let v := m.voltage.toNat
    ∃ t, exec (.measurementArrival dt bit) s = .next t ∧
      t = { s with clock := now, cvp := t.cvp, osc := t.osc, scu := t.scu, apa := t.apa, ywc := t.ywc, clc := t.clc, flm := t.flm } ∧
      t.cvp = { s.cvp.afterArrival now m with
        rideThrough := true, entryTime := now, lowest := v, recoveryDue := none
        curveDue := some (now + if v < 150 then ms 150 else if v < 500 then ms 600 else ms 3000) } ∧
      t.osc = { s.osc with state := .rideThrough, arrivalSeen := true } ∧
      t.scu = { s.scu with hold := true, dHold := if s.scu.hold then s.scu.dHold else s.scu.dOwn } ∧
      t.apa.rideThrough = true ∧ t.flm.holds .rideThroughEvent = true ∧
      (s.apa.yawGranted = 0 → t.apa.total ≤ t.apa.figures.budgetRt ∧ t.apa.shedPending = false ∧ t.ywc = s.ywc) ∧
      (s.ywc.state = .brakeRelease ∨ s.ywc.state = .moving →
        s.stopped t ∧ (s.ywc.brakeIn = false → t.apa.total ≤ t.apa.figures.budgetRt))

/-- In ride-through an arrival lowers the lowest voltage and the deadline counted from the entry, and runs or stops the
recovery timer; a deadline lowered to the arrival is reached there. CURVE_DEADLINE reports GRID_UNDERVOLTAGE_TRIP,
leaves ride-through and trips a station in RIDE_THROUGH; RECOVERY_TIMER_EXPIRY leaves it and returns the station to
PRODUCING; either ends the hold, returns the APA to B and reports RIDE_THROUGH_EVENT gone. At the deadline the report
comes before the exit by the model's reading (log entry 10). (R77, R98, R99, R100, R169, R202) -/
def Obligations.RideThroughRunsAndEnds : Prop :=
  (∀ (dt : Clocks) (bit : Bool) (m : Measurement) (s : State), s.arrives bit m → m.faultWord = 0 → s.portQuiet →
    s.cvp.rideThrough = true → s.osc.state = .rideThrough →
    let now := s.clock + dt
    let v := m.voltage.toNat
    let deadline := s.cvp.entryTime + if v < 150 then ms 150 else if v < 500 then ms 600 else ms 3000
    let c := s.cvp.afterArrival now m
    let recovery := if 900 ≤ v then some (s.cvp.recoveryDue.getD (now + ms 100)) else none
    (s.cvp.lowest ≤ v →
      exec (.measurementArrival dt bit) s = .next { s with
        clock := now, cvp := { c with recoveryDue := recovery }, osc := { s.osc with arrivalSeen := true } }) ∧
    (v < s.cvp.lowest → now < deadline →
      exec (.measurementArrival dt bit) s = .next { s with
        clock := now, cvp := { c with lowest := v, curveDue := some deadline, recoveryDue := recovery }
        osc := { s.osc with arrivalSeen := true } }) ∧
    (v < s.cvp.lowest → deadline ≤ now → s.osc.enable = true →
      ∃ t, exec (.measurementArrival dt bit) s = .next t ∧ t.osc.state = .tripped ∧ t.osc.enable = false ∧
        t.cvp.rideThrough = false ∧ t.cvp.lowest = v ∧ t.scu.hold = false)) ∧
  ∀ (due : Clocks) (s : State), s.cvp.rideThrough = true →
    (s.cvp.curveDue = some due → s.osc.enable = s.osc.state.isProducing →
      ∃ t, exec .curveDeadline s = .next t ∧ t.clock = max s.clock due ∧ t.flm.holds .gridUndervoltageTrip = true ∧
        t.flm.holds .rideThroughEvent = false ∧ t.cvp.rideThrough = false ∧ t.cvp.curveDue = none ∧
        t.cvp.recoveryDue = none ∧ t.cvp.lowest = s.cvp.lowest ∧ t.cvp.entryTime = s.cvp.entryTime ∧
        t.scu.hold = false ∧ t.scu.sApp = s.scu.sApp ∧ t.scu.dHold = s.scu.dHold ∧ t.apa.rideThrough = false ∧
        t.flm.reaction.trip = true ∧
        (s.osc.state = .rideThrough →
          t.osc.state = .tripped ∧ t.osc.enable = false ∧ t.osc.restartDue = none ∧ t.scu.eLim = 0 ∧
            t.scu.enable = false ∧ t.cvp.backEnable = false ∧ t.cvp.backLimit = 0)) ∧
    (s.cvp.recoveryDue = some due →
      ∃ t, exec .recoveryTimerExpiry s = .next t ∧
        t = { s with
          clock := max s.clock due
          cvp := { s.cvp with rideThrough := false, recoveryDue := none, curveDue := none }
          scu := { s.scu with hold := false }
          osc := if s.osc.state = .rideThrough then { s.osc with state := .producing } else s.osc
          apa := t.apa, ywc := t.ywc, clc := t.clc, flm := t.flm } ∧
        t.apa.rideThrough = false ∧ t.apa.shedPending = false ∧ t.flm.holds .rideThroughEvent = false)

/-! ## Yaw -/

/-- A valid reading replaces the held value; an invalid one leaves it, marks the wind speed invalid, or starts the vane-
invalid timer at 10000 ms where it is stopped; the first valid vane reading after VANE_INVALID reports it gone and
clears the error window; nothing else changes. WAIT_POWER_TIMER_EXPIRY reports YAW_WAIT_POWER,
BRAKE_RETRY_TIMER_EXPIRY reports BRAKE_RELEASE_FAIL gone, VANE_INVALID_TIMER_EXPIRY reports VANE_INVALID, whose yaw
stop, when it comes to hold for the move, withdraws one in REQUEST_POWER and stops one in BRAKE_RELEASE or MOVING;
each timer stops and nothing else changes. The order in which the FLM tells the YWC and the OSC is the model's choice
(log entry 8). (R105, R106, R109, R115, R119, R121, R122, R181) -/
def Obligations.WindInputsAndYawTimers : Prop :=
  (∀ (dt : Clocks) (s : State),
    let now := s.clock + dt
    let u := { s with clock := now }
    (exec (.platformHeadingReading dt none) s = .next u) ∧
    (∀ h, exec (.platformHeadingReading dt (some h)) s = .next { u with ywc := { s.ywc with platform := h.val } }) ∧
    (exec (.windSpeedReading dt none) s = .next { u with ywc := { s.ywc with windValid := false } }) ∧
    (∀ w, exec (.windSpeedReading dt (some w)) s =
      .next { u with ywc := { s.ywc with windSpeed := w.val, windValid := true } }) ∧
    (exec (.vaneReading dt none) s = .next { u with ywc := { s.ywc with
      vaneInvalidDue := if s.ywc.vaneInvalidDue.isSome then s.ywc.vaneInvalidDue else some (now + ms 10000) } }) ∧
    ∀ v,
      let y := { s.ywc with vane := v.val, vaneSeen := true, vaneInvalidDue := none }
      exec (.vaneReading dt (some v)) s = .next (
        if s.flm.holds .vaneInvalid then
          { u with
            ywc := { y with window := [], grossCount := 0, bypass := false, urgent := false }
            flm := s.flm.take (stampOf now) (.gone .vaneInvalid) }
        else { u with ywc := y })) ∧
  ∀ (due : Clocks) (s : State),
    let now := max s.clock due
    (s.ywc.waitDue = some due →
      exec .waitPowerTimerExpiry s = .next { s with
        clock := now, ywc := { s.ywc with waitDue := none }
        flm := s.flm.take (stampOf now) (.present .yawWaitPower 0) }) ∧
    (s.ywc.retryDue = some due →
      exec .brakeRetryTimerExpiry s = .next { s with
        clock := now, ywc := { s.ywc with retryDue := none }
        flm := s.flm.take (stampOf now) (.gone .brakeReleaseFail) }) ∧
    (s.ywc.vaneInvalidDue = some due →
      let stops := (if s.ywc.move.any (·.untwist) = true then s.flm.reaction.untwistYawStop else s.flm.reaction.yawStop) = false
      (s.ywc.state = .idle ∨ s.ywc.state = .brakeApply ∨ ¬ stops →
        exec .vaneInvalidTimerExpiry s = .next { s with
          clock := now, ywc := { s.ywc with vaneInvalidDue := none }
          flm := s.flm.take (stampOf now) (.present .vaneInvalid 0) }) ∧
      (s.ywc.state = .requestPower → stops →
        ∃ t, exec .vaneInvalidTimerExpiry s = .next t ∧ t.flm.holds .vaneInvalid = true ∧
          t.ywc.vaneInvalidDue = none ∧ t.ywc.state = .idle ∧ t.ywc.move = none ∧ t.ywc.waitDue = none ∧
          t.ywc.window = [] ∧ t.apa.yawRequest = none ∧ t.apa.yawGranted = s.apa.yawGranted ∧
          t.ywc.enables = s.ywc.enables ∧ t.ywc.releaseOut = s.ywc.releaseOut ∧ t.flm.holds .yawWaitPower = false) ∧
      (s.ywc.state = .brakeRelease ∨ s.ywc.state = .moving → s.yawSound → stops →
        ∃ t, exec .vaneInvalidTimerExpiry s = .next t ∧ t.flm.holds .vaneInvalid = true ∧
          t.ywc.vaneInvalidDue = none ∧ s.stopped t))

/-- ENCODER_READING answers a next state with the angle held: the first reading starts the counter from the zone sensor, a
later one adds the angle difference brought into -1800..+1799; the counter saturates at 10800 either way and
TWIST_RANGE and, once loaded, TWIST_HARD_LIMIT follow it; a reading in MOVING that reaches or passes the target ends
the move; one that neither reaches nor passes it, like one outside MOVING, leaves the move and everything else as it
was where the twist has nothing to report. The zone sensor as an operand is the model's choice (log entry 21). (R105,
R118, R125, R126, R127) -/
def Obligations.TwistFollowsTheEncoder : Prop :=
  ∀ (dt : Clocks) (a : Fin 3600) (zone : Option Int) (s : State),
    let signed : Int := if a.val ≤ 1799 then (a.val : Int) else (a.val : Int) - 3600
    let delta : Int := (a.val : Int) - s.ywc.prevAngle
    let sum : Int :=
      if s.ywc.twistKnown then
        s.ywc.twist + (if delta < -1800 then delta + 3600 else if 1799 < delta then delta - 3600 else delta)
      else match zone with
        | some z => signed + 3600 * z
        | none => signed
    s.ywc.prevAngle < 3600 →
    ∃ t, exec (.encoderReading dt a zone) s = .next t ∧ t.clock = s.clock + dt ∧ t.ywc.angle = a.val ∧
      t.ywc.prevAngle = a.val ∧ t.ywc.twistKnown = true ∧ t.ywc.twist = max (-10800) (min 10800 sum) ∧
      (10800 < sum.natAbs → t.flm.holds .twistRange = true) ∧ (sum.natAbs < 10800 → t.flm.holds .twistRange = false) ∧
      (s.ywc.twistKnown = false → zone = none → t.flm.holds .twistUnknown = true) ∧
      (s.ywc.twistKnown = true ∨ zone.isSome = true → t.flm.holds .twistUnknown = s.flm.holds .twistUnknown) ∧
      (s.osc.state.isUnloaded = false →
        (t.flm.holds .twistHardLimit = true ↔ s.ywc.params.hardLimit < t.ywc.twist.natAbs)) ∧
      (s.osc.state.isUnloaded = true → t.flm.holds .twistHardLimit = s.flm.holds .twistHardLimit) ∧
      (s.ywc.state = .moving → s.yawSound →
        ∀ m, s.ywc.move = some m →
          ((t.ywc.twist - m.target).natAbs ≤ 10 ∨ (m.direction = .clockwise ∧ m.target ≤ t.ywc.twist) ∨
            (m.direction = .counterClockwise ∧ t.ywc.twist ≤ m.target) → s.stopped t)) ∧
      (s.ywc.state ≠ .moving ∨
          (∀ m, s.ywc.move = some m → 10 < (sum - m.target).natAbs ∧ (m.direction = .clockwise → sum < m.target) ∧
            (m.direction = .counterClockwise → m.target < sum)) →
        s.ywc.twistKnown = true → sum.natAbs < 10800 → s.flm.holds .twistRange = false →
        s.flm.holds .twistHardLimit = false → s.osc.state.isUnloaded = true ∨ sum.natAbs ≤ s.ywc.params.hardLimit →
        t = { s with clock := s.clock + dt, ywc := { s.ywc with angle := a.val, prevAngle := a.val, twist := sum } })

/-- YAW_EVALUATION appends the sample, applies the gross check, forms W_f and the misalignment count with its report, the
next expiry 1000 ms later; in REQUEST_POWER, BRAKE_RELEASE, BRAKE_APPLY and in IDLE without a move to decide nothing
else changes; in MOVING the stall count follows R120, and the third evaluation in a row without motion reports
YAW_STALL and stops the move. A stall enters BRAKE_APPLY once by the model's reading (log entry 32). (R107, R108,
R110, R113, R119, R120, R121) -/
def Obligations.AnEvaluationTakesASample : Prop :=
  ∀ (due : Clocks) (s : State), s.ywc.evalDue = some due →
    let now := max s.clock due
    let y := s.ywc.sampled
    let ef := y.meanError
    let next_ := { y with
      evalDue := some (due + ms 1000), windDirection := y.windOver
      misalignCount := if 300 < ef.natAbs then min 60 (s.ywc.misalignCount + 1) else 0 }
    (s.ywc.state = .requestPower ∨ s.ywc.state = .brakeRelease ∨ s.ywc.state = .brakeApply ∨
        (s.ywc.state = .idle ∧ (s.ywc.twistKnown = false ∨ s.ywc.hold = true ∨ s.flm.reaction.yawStop = true ∨
          (y.window.length < 10 ∧ y.bypass = false))) →
      exec .yawEvaluation s = .next { s with clock := now, ywc := next_, flm := s.misalignedFlm now ef }) ∧
    (s.ywc.state = .moving →
      let count := if (s.ywc.twist - s.ywc.stallRef).natAbs < 5 then s.ywc.stallCount + 1 else 0
      (count < 3 →
        exec .yawEvaluation s = .next { s with
          clock := now, ywc := { next_ with stallRef := s.ywc.twist, stallCount := count }
          flm := s.misalignedFlm now ef }) ∧
      (3 ≤ count → s.yawSound →
        ∃ t, exec .yawEvaluation s = .next t ∧ t.ywc.evalDue = some (due + ms 1000) ∧ s.stopped t ∧
          (s.ywc.brakeIn = true → t.flm.holds .yawStall = true) ∧ t.flm.reaction.yawStop = true))

/-- With the twist known, the hold clear, no yaw stop, and 10 samples or bypass, YAW_EVALUATION in IDLE decides a move
exactly when the target error exceeds the threshold of the sector: it takes the short way or the long way as R114
says, its direction and urgent flag, and the offset and steering flag of R112, and leaves IDLE. That the evaluation
which sets bypass decides by it already is read from the order of R107's steps, against the Note of R108 (log entry
42). Cooling override is taken not to hold, since it could stop the move granted at once. (R107, R112, R113, R114,
R115) -/
def Obligations.AnEvaluationDecidesAMove : Prop :=
  ∀ (due : Clocks) (s : State), s.ywc.evalDue = some due → s.ywc.state = .idle → s.yawSound → s.coolingOverride = false →
    s.ywc.twistKnown = true → s.ywc.hold = false → s.flm.reaction.yawStop = false →
    let y := s.ywc.sampled
    let sec := y.sectors[Fin.ofNat 24 (y.windOver / 150)]
    let threshold := (if sec.restrict then 2 else 1) * y.params.startThreshold
    let o : Int := if s.steersIn sec then y.offsets[sec.offsetRef] else 0
    let e : Int := (y.meanError + o + 1800) % 3600 - 1800
    10 ≤ y.window.length ∨ y.bypass = true →
      (e.natAbs ≤ threshold → ∃ t, exec .yawEvaluation s = .next t ∧ t.ywc.state = .idle ∧ t.ywc.move = s.ywc.move ∧
        t.ywc.offsetInUse = s.ywc.offsetInUse ∧ t.ywc.window = y.window ∧ t.ywc.bypass = y.bypass) ∧
      (threshold < e.natAbs → ∃ t m, exec .yawEvaluation s = .next t ∧
        (t.ywc.state = .requestPower ∨ t.ywc.state = .brakeRelease ∨ t.ywc.state = .moving) ∧ t.ywc.move = some m ∧
        m.untwist = false ∧ m.urgent = y.urgent ∧ t.ywc.bypass = false ∧ t.ywc.urgent = false ∧
        t.ywc.offsetInUse = o ∧ t.ywc.steering = s.steersIn sec ∧
        m.target = s.ywc.twist +
          (if (s.ywc.twist + e).natAbs ≤ s.ywc.params.softLimit ∨ (s.ywc.twist + e).natAbs ≤ s.ywc.twist.natAbs then e
            else if 0 < e then e - 3600 else e + 3600) ∧
        (m.direction = .clockwise ↔ s.ywc.twist < m.target))

/-- BRAKE_RELEASED_INPUT turned on in BRAKE_RELEASE enters MOVING with the lowest-numbered usable drives enabled, as many
as granted, turned off in BRAKE_APPLY returns to IDLE with the window cleared and the grant released, and in every
other case only starts or stops the two monitors, and, turned off with the release output off, reports
BRAKE_APPLY_FAIL gone, which can end the trip; RELEASE_MONITOR_EXPIRY reports BRAKE_RELEASE_FAIL and ends the move;
APPLY_MONITOR_EXPIRY reports BRAKE_APPLY_FAIL, whose safe stop takes the OSC to SAFE_STOP, and releases the grant, or
withdraws a request that waits. Their values are 1 and 2 as R122 and R123 tell the yaw states apart, and every return
to IDLE here while BRAKE_RELEASE_FAIL is present starts the brake retry timer at 60000 ms or leaves it running. That a
safe stop passes by TRIPPED, and the order in which the FLM tells the blocks, are the model's reading and choice (log
entries 15 and 8). (R109, R116, R117, R120, R121, R122, R123, R124, R207, R181, R201, R205) -/
def Obligations.TheBrakeMovesTheYawState : Prop :=
  let retryAfter : Clocks → State → Option Clocks := fun now s =>
    if s.flm.holds .brakeReleaseFail = true then some (s.ywc.retryDue.getD (now + ms 60000)) else s.ywc.retryDue
  (∀ (dt : Clocks) (s : State), s.yawSound →
    let now := s.clock + dt
    (∀ level, s.ywc.brakeIn = level → exec (.brakeReleasedInput dt level) s = .next { s with clock := now }) ∧
    (s.ywc.brakeIn = false → s.ywc.state = .idle ∨ s.ywc.state = .requestPower ∨ s.ywc.state = .brakeApply →
      exec (.brakeReleasedInput dt true) s = .next { s with
        clock := now, ywc := { s.ywc with brakeIn := true, releaseDue := none, applyDue := some (now + ms 2000) } }) ∧
    (s.ywc.brakeIn = false → s.ywc.state = .brakeRelease →
      ∃ y, exec (.brakeReleasedInput dt true) s = .next { s with clock := now, ywc := y } ∧
        y = { s.ywc with
          brakeIn := true, releaseDue := none, applyDue := none, state := .moving, stallCount := 0, stallRef := s.ywc.twist
          direction := y.direction, enables := y.enables, feedbackDue := y.feedbackDue } ∧
        (∀ m, s.ywc.move = some m → y.direction = m.direction) ∧
        ∀ d : Fin 6, (y.enables[d] = true ↔ s.ywc.selected s.apa.yawGranted d) ∧
          y.feedbackDue[d] = feedback now s.ywc.running[d] (y.enables[d] != s.ywc.running[d]) s.ywc.feedbackDue[d]) ∧
    (s.ywc.brakeIn = true → s.ywc.state = .moving ∨ s.ywc.state = .brakeRelease →
      exec (.brakeReleasedInput dt false) s = .next { s with
        clock := now, ywc := { s.ywc with brakeIn := false, releaseDue := some (now + ms 2000), applyDue := none } }) ∧
    (s.ywc.brakeIn = false → s.ywc.state = .moving →
      exec (.brakeReleasedInput dt true) s = .next { s with
        clock := now, ywc := { s.ywc with brakeIn := true, releaseDue := none, applyDue := none } }) ∧
    (s.ywc.brakeIn = true → s.ywc.state = .idle ∨ s.ywc.state = .requestPower →
      let y := { s.ywc with brakeIn := false, releaseDue := none, applyDue := none }
      (s.flm.holds .brakeApplyFail = false →
        exec (.brakeReleasedInput dt false) s = .next { s with clock := now, ywc := y }) ∧
      (s.flm.holds .brakeApplyFail = true →
        let f := s.flm.take (stampOf now) (.gone .brakeApplyFail)
        let u := { s with clock := now, ywc := y, flm := f }
        exec (.brakeReleasedInput dt false) s = .next (
          if s.flm.reaction.trip = true ∧ f.reaction.trip = false then
            match s.osc.state with
            | .tripped => { u with osc := { s.osc with restartDue := some (now + ms 60000) } }
            | .standby => u.tested
            | _ => u
          else u))) ∧
    (s.ywc.brakeIn = true → s.ywc.state = .brakeApply →
      ∃ t, exec (.brakeReleasedInput dt false) s = .next t ∧ t.ywc.brakeIn = false ∧ t.ywc.state = .idle ∧
        t.ywc.move = none ∧ t.ywc.window = [] ∧ t.ywc.grossCount = 0 ∧ t.ywc.bypass = false ∧ t.ywc.urgent = false ∧
        t.ywc.offsetInUse = 0 ∧ t.ywc.steering = false ∧ t.ywc.applyDue = none ∧ t.apa.yawGranted = 0 ∧
        t.flm.holds .brakeApplyFail = false ∧ t.flm.holds .yawStall = false ∧
        t.ywc.retryDue = retryAfter now s)) ∧
  ∀ (due : Clocks) (s : State), s.modesSound → s.yawSound →
    (s.ywc.releaseDue = some due → s.ywc.state = .brakeRelease ∨ s.ywc.state = .moving →
      ∃ t, exec .releaseMonitorExpiry s = .next t ∧ t.clock = max s.clock due ∧ t.ywc.releaseDue = none ∧
        t.flm.holds .brakeReleaseFail = true ∧ s.stopped t ∧
        t.ywc.retryDue = (if s.ywc.brakeIn = true then s.ywc.retryDue
          else some (s.ywc.retryDue.getD (max s.clock due + ms 60000))) ∧
        (s.flm.openRecord? .brakeReleaseFail = none →
          (t.flm.openRecord? .brakeReleaseFail).map (·.value) = some (if s.ywc.state = .moving then 2 else 1))) ∧
    (s.ywc.applyDue = some due → s.ywc.state = .idle ∨ s.ywc.state = .brakeApply →
      ∃ t, exec .applyMonitorExpiry s = .next t ∧ t.clock = max s.clock due ∧ t.ywc.applyDue = none ∧
        t.flm.holds .brakeApplyFail = true ∧ t.flm.reaction.safeStop = true ∧ t.ywc.state = .idle ∧
        t.apa.yawGranted = 0 ∧
        t.ywc.retryDue = (if s.ywc.state = .brakeApply then retryAfter (max s.clock due) s else s.ywc.retryDue) ∧
        (s.flm.openRecord? .brakeApplyFail = none →
          (t.flm.openRecord? .brakeApplyFail).map (·.value) = some (if s.ywc.state = .brakeApply then 1 else 2)) ∧
        (s.flm.reaction.safeStop = false → s.osc.state.isUnloaded = false →
          t.osc.state = .safeStop ∧ (s.osc.enable = true → t.osc.enable = false ∧ t.scu.eLim = 0))) ∧
    (s.ywc.applyDue = some due → s.ywc.state = .requestPower →
      ∃ t, exec .applyMonitorExpiry s = .next t ∧ t.clock = max s.clock due ∧ t.ywc.applyDue = none ∧
        t.flm.holds .brakeApplyFail = true ∧ t.flm.reaction.safeStop = true ∧
        (s.flm.openRecord? .brakeApplyFail = none →
          (t.flm.openRecord? .brakeApplyFail).map (·.value) = some 2) ∧
        (if (if s.ywc.move.any (·.untwist) = true then s.flm.reaction.untwistYawStop else s.flm.reaction.yawStop) = false then
          t.ywc.state = .idle ∧ t.ywc.move = none ∧ t.ywc.waitDue = none ∧ t.apa.yawRequest = none ∧ t.apa.yawGranted = 0 ∧
            t.flm.holds .yawWaitPower = false ∧ t.ywc.retryDue = retryAfter (max s.clock due) s
        else t.ywc = { s.ywc with applyDue := none } ∧ t.apa = s.apa) ∧
        (s.flm.reaction.safeStop = false → s.osc.state.isUnloaded = false →
          t.osc.state = .safeStop ∧ (s.osc.enable = true → t.osc.enable = false ∧ t.scu.eLim = 0)))

/-- DRIVE_RUNNING_INPUT starts or stops the feedback timer of the drive; DRIVE_READY_INPUT changes the count of usable
drives, with YAW_DRIVES_INSUFFICIENT reported when it passes 4; DRIVE_FEEDBACK_TIMER_EXPIRY marks the drive and
reports DRIVE_FEEDBACK; in MOVING the lowest-numbered usable drives within the grant are enabled anew, and fewer than
4 usable drives stop the move; in REQUEST_POWER a change of the count has the waiting request examined, and it is
granted as many motors as drives are usable and free power allows, if that is at least 4. The order of the reports is
the model's choice (log entry 16). (R117, R119, R121, R124, R162, R164) -/
def Obligations.DrivesAreSelectedAndWatched : Prop :=
  (∀ (dt : Clocks) (d : Fin 6) (level : Bool) (s : State),
    let now := s.clock + dt
    (∃ w : Vector (Option Clocks) 6, exec (.driveRunningInput dt d level) s = .next { s with
        clock := now, ywc := { s.ywc with running := s.ywc.running.set d level, feedbackDue := w } } ∧
      w[d] = feedback now (s.ywc.enables[d] != s.ywc.running[d]) (s.ywc.enables[d] != level) s.ywc.feedbackDue[d] ∧
      ∀ e : Fin 6, e ≠ d →
        w[e] = if s.ywc.enables[e] = s.ywc.running[e] then none else s.ywc.feedbackDue[e]) ∧
    let y := { s.ywc with ready := s.ywc.ready.set d level }
    (s.ywc.state = .idle ∨ s.ywc.state = .brakeApply → s.apa.yawRequest = none →
      exec (.driveReadyInput dt d level) s = .next { s with
        clock := now, ywc := y
        flm :=
          if 4 ≤ s.ywc.usableDrives ∧ y.usableDrives < 4 then
            s.flm.take (stampOf now) (.present .yawDrivesInsufficient y.usableDrives)
          else if s.ywc.usableDrives < 4 ∧ 4 ≤ y.usableDrives then
            s.flm.take (stampOf now) (.gone .yawDrivesInsufficient)
          else s.flm }) ∧
    (s.ywc.state = .moving → s.yawSound → 4 ≤ s.ywc.usableDrives →
      ∃ t, exec (.driveReadyInput dt d level) s = .next t ∧ t.ywc.ready = y.ready ∧
        (y.usableDrives < 4 → s.stopped t ∧ t.flm.holds .yawDrivesInsufficient = true) ∧
        (4 ≤ y.usableDrives → t.ywc.state = .moving ∧ t.ywc.releaseOut = true ∧
          ∀ e : Fin 6, t.ywc.enables[e] = true ↔ y.selected s.apa.yawGranted e)) ∧
    (s.ywc.state = .brakeRelease → s.yawSound → 4 ≤ s.ywc.usableDrives →
      ∃ t, exec (.driveReadyInput dt d level) s = .next t ∧
        (y.usableDrives < 4 → s.stopped t ∧ t.flm.holds .yawDrivesInsufficient = true) ∧
        (4 ≤ y.usableDrives → t = { s with clock := now, ywc := y })) ∧
    (s.ywc.state = .requestPower → s.yawSound → s.coolingOverride = false →
      ∃ t, exec (.driveReadyInput dt d level) s = .next t ∧
        (y.usableDrives = s.ywc.usableDrives → t = { s with clock := now, ywc := y }) ∧
        (4 ≤ s.ywc.usableDrives → y.usableDrives < 4 → t.flm.holds .yawDrivesInsufficient = true) ∧
        (s.ywc.usableDrives < 4 → 4 ≤ y.usableDrives → t.flm.holds .yawDrivesInsufficient = false) ∧
        (y.usableDrives ≠ s.ywc.usableDrives →
          let ahead : Nat :=
            if s.apa.fanRequest = true ∧ s.apa.yawRequest = some false ∧ (s.apa.figures.fanLoad : Int) ≤ s.apa.free ∧
                s.clc.fanToStart.isSome = true then s.apa.figures.fanLoad
            else 0
          let k := min 6 (min y.usableDrives ((s.apa.free - ahead).toNat / s.apa.figures.yawLoad))
          if 4 ≤ k then
            t.apa.yawGranted = k ∧ t.apa.yawRequest = none ∧ t.ywc.waitDue = none ∧ t.ywc.releaseOut = true ∧
              t.flm.holds .yawWaitPower = false ∧
              if s.ywc.brakeIn = true then
                t.ywc.state = .moving ∧ ∀ e : Fin 6, t.ywc.enables[e] = true ↔ y.selected k e
              else t.ywc.state = .brakeRelease
          else t.ywc = y ∧ t.apa.yawGranted = s.apa.yawGranted ∧ t.apa.yawRequest = s.apa.yawRequest))) ∧
  ∀ (due : Clocks) (d : Fin 6) (s : State), s.ywc.feedbackDue[d] = some due → s.ywc.marked[d] = false → s.yawSound →
    let y := { s.ywc with marked := s.ywc.marked.set d true }
    ∃ t, exec (.driveFeedbackTimerExpiry d) s = .next t ∧ t.clock = max s.clock due ∧ t.ywc.marked = y.marked ∧
      t.flm.holds .driveFeedback = true ∧
      (s.ywc.state = .moving → 4 ≤ s.ywc.usableDrives → y.usableDrives < 4 → s.stopped t) ∧
      (s.ywc.state = .moving → 4 ≤ y.usableDrives →
        t.ywc.state = .moving ∧ ∀ e : Fin 6, t.ywc.enables[e] = true ↔ y.selected s.apa.yawGranted e) ∧
      (s.ywc.state = .idle → t.ywc.state = .idle ∧ t.ywc.enables = s.ywc.enables)

/-! ## Cooling and sensing -/

/-- TEMPERATURE_READING on channel 1, 2, 3 or 7: a valid reading is held and makes the channel VALID, with
TEMP_SENSOR_INVALID reported anew or gone when it was OUT; an invalid one in VALID starts the hold timer at 10000 ms;
HOLD_TIMER_EXPIRY makes the channel OUT and reports the bitmap; nothing else changes. Readings of the other four
channels are read by nothing the spec describes and change only the clock (the model's reading, log entry 26). (R133,
R134) -/
def Obligations.TemperaturesAreHeld : Prop :=
  (∀ (dt : Clocks) (i : Fin 8) (s : State),
    let now := s.clock + dt
    let u := { s with clock := now }
    (i ≠ 0 → i ≠ 1 → i ≠ 2 → i ≠ 6 → ∀ v, exec (.temperatureReading dt i v) s = .next u) ∧
    ∀ c, s.clc.channel? i = some c →
      (∀ v : Int,
        let clc := s.clc.setChannel i { held := v, validity := .valid, holdDue := none }
        exec (.temperatureReading dt i (some v)) s = .next { u with
          clc := clc
          flm :=
            if c.validity = .out then
              (if clc.outBits = 0 then s.flm.take (stampOf now) (.gone .tempSensorInvalid)
                else s.flm.take (stampOf now) (.present .tempSensorInvalid clc.outBits))
            else s.flm }) ∧
      exec (.temperatureReading dt i none) s = .next (
        if c.validity = .valid then
          { u with clc := s.clc.setChannel i { held := c.held, validity := .holding, holdDue := some (now + ms 10000) } }
        else u)) ∧
  ∀ (due : Clocks) (i : Fin 8) (c : TempChannel) (s : State), s.clc.channel? i = some c → c.holdDue = some due →
    let now := max s.clock due
    let clc := s.clc.setChannel i { held := c.held, validity := .out, holdDue := none }
    exec (.holdTimerExpiry i) s = .next { s with
      clock := now, clc := clc, flm := s.flm.take (stampOf now) (.present .tempSensorInvalid clc.outBits) }

/-- FLOW_READING holds a valid flow, runs or stops the flow monitor and lets a waiting station start when flow is
delivered; PUMP_RUNNING_INPUT starts or stops the pump's feedback timer, with the same start;
PUMP_FEEDBACK_TIMER_EXPIRY and FLOW_MONITOR_EXPIRY fail the pump and report PUMP_FAIL with its number: a STANDBY pump
takes over the duty, and with both FAILED COOLING_LOST is present and a producing station trips. (R135, R138, R139,
R140, R149, R201, R204) -/
def Obligations.PumpsAreWatchedAndChangedOver : Prop :=
  (∀ (dt : Clocks) (s : State),
    let now := s.clock + dt
    exec (.flowReading dt none) s = .next { s with clock := now } ∧
    (∀ v : Fin 2001,
      let c : Clc := { s.clc with
        flow := v.val
        flowDue :=
          if (s.clc.pumps[0].state = .duty ∨ s.clc.pumps[1].state = .duty) ∧ v.val < s.clc.minFlowInForce then
            some (s.clc.flowDue.getD (now + ms 5000))
          else none }
      exec (.flowReading dt (some v)) s = .next ({ s with clock := now, clc := c }.startsOver s.clc)) ∧
    ∀ (p : Fin 2) (level : Bool),
      let x := s.clc.pumps[p]
      let wants := x.state == .duty
      let c : Clc := { s.clc with pumps := s.clc.pumps.set p { x with
        runIn := level
        feedbackDue := if x.state = .failed then none else feedback now (wants != x.runIn) (wants != level) x.feedbackDue } }
      exec (.pumpRunningInput dt p level) s = .next ({ s with clock := now, clc := c }.startsOver s.clc)) ∧
  ∀ (due : Clocks) (p q : Fin 2) (c : Instr) (s : State), p ≠ q →
    (c = .pumpFeedbackTimerExpiry p ∧ s.clc.pumps[p].feedbackDue = some due) ∨
      (c = .flowMonitorExpiry ∧ s.clc.flowDue = some due ∧ s.clc.pumps[p].state = .duty ∧ s.clc.pumps[q].state ≠ .duty) →
    let now := max s.clock due
    let gone := { s.clc.pumps[p] with state := .failed, feedbackDue := none }
    let flm := s.flm.take (stampOf now) (.present .pumpFail (p.val + 1 : Nat))
    (s.clc.pumps[p].state = .standby →
      exec c s = .next { s with clock := now, clc := { s.clc with pumps := s.clc.pumps.set p gone }, flm := flm }) ∧
    (s.clc.pumps[p].state = .duty → s.clc.pumps[q].state = .standby →
      exec c s = .next ({ s with
        clock := now, flm := flm
        clc := { s.clc with
          pumps := (s.clc.pumps.set p gone).set q { s.clc.pumps[q] with
            state := .duty
            feedbackDue := feedback now s.clc.pumps[q].runIn (!s.clc.pumps[q].runIn) s.clc.pumps[q].feedbackDue }
          flowDue := if s.clc.flow < s.clc.minFlowInForce then some (now + ms 5000) else none } }.startsOver s.clc)) ∧
    (s.clc.pumps[p].state = .duty → s.clc.pumps[q].state = .failed →
      ∃ t, exec c s = .next t ∧ t.clc = { s.clc with pumps := s.clc.pumps.set p gone, flowDue := none } ∧
        t.flm.holds .pumpFail = true ∧ t.flm.holds .coolingLost = true ∧
        (s.osc.state.isProducing = true → s.osc.enable = true → s.flm.reaction.trip = false →
          t.osc.state = .tripped ∧ t.osc.enable = false ∧ t.scu.eLim = 0))

/-- FAN_RUNNING_INPUT starts or stops the fan's feedback timer; FAN_FEEDBACK_TIMER_EXPIRY marks the fan FAILED, turns it
off and reports FAN_FAIL with the bitmap; the lowest-numbered usable fan that stands still takes a running fan's place
under the same grant, and without one the grant is released to the APA. Power and yaw are taken to be sound. (R142,
R143, R160, R165) -/
def Obligations.FansAreWatchedAndReplaced : Prop :=
  (∀ (dt : Clocks) (f : Fin 4) (level : Bool) (s : State),
    let now := s.clock + dt
    let x := s.clc.fans[f]
    exec (.fanRunningInput dt f level) s = .next { s with
      clock := now
      clc := { s.clc with fans := s.clc.fans.set f { x with
        runIn := level
        feedbackDue :=
          if x.failed then none else feedback now (x.runOut != x.runIn) (x.runOut != level) x.feedbackDue } } }) ∧
  ∀ (due : Clocks) (f : Fin 4) (s : State), s.clc.fans[f].feedbackDue = some due → s.clc.fans[f].failed = false →
    s.powerSound → s.yawSound →
    let now := max s.clock due
    let bits := ((List.finRange 4).map fun g => if g = f ∨ s.clc.fans[g].failed = true then 2 ^ g.val else 0).sum
    let gone := { s.clc.fans[f] with failed := true, runOut := false, feedbackDue := none }
    let spare := fun g : Fin 4 => g ≠ f ∧ s.clc.fans[g].failed = false ∧ s.clc.fans[g].runOut = false
    let flm := s.flm.take (stampOf now) (.present .fanFail bits)
    (s.clc.fans[f].runOut = false →
      exec (.fanFeedbackTimerExpiry f) s = .next { s with
        clock := now, clc := { s.clc with fans := s.clc.fans.set f gone }, flm := flm }) ∧
    (s.clc.fans[f].runOut = true →
      (∀ g, spare g → (∀ h, spare h → g ≤ h) →
        exec (.fanFeedbackTimerExpiry f) s = .next { s with
          clock := now, flm := flm
          clc := { s.clc with fans := (s.clc.fans.set f gone).set g { s.clc.fans[g] with
            runOut := true
            feedbackDue := feedback now s.clc.fans[g].runIn (!s.clc.fans[g].runIn) s.clc.fans[g].feedbackDue } } }) ∧
      ((∀ g, ¬ spare g) →
        ∃ t, exec (.fanFeedbackTimerExpiry f) s = .next t ∧ t.clc = { s.clc with fans := s.clc.fans.set f gone } ∧
          t.apa.fansGranted = s.apa.fansGranted - 1 ∧ t.flm.holds .fanFail = true))

/-- COOLING_EVALUATION answers a next state with the next expiry 1000 ms later and the minimum flow of the parameters in
force, the pumps and their monitors as they were: the stage flags with their hysteresis, at most one fan added through
a request or the surplus released at once, the request granted exactly when free power, as a yaw request with
precedence leaves it, is at least the fan load and no such request stays, and a request that stays at an override
temperature of 580 or above with yaw motors granted stopping the move once, with the event AUX_OVERRIDE and its
temperature, the valve position, T_own, and OVERTEMPERATURE and STRING_CABLE_HOT as R141 to R148 form them. Power and
yaw are taken to be sound. That the start conditions are tested where pump delivering flow changes by the minimum put
in force, and that the flow monitor stays, is the model's reading (log entry 18). (R136, R137, R141, R142, R145, R146,
R147, R148, R162, R163, R166, R201) -/
def Obligations.ACoolingEvaluationFormsItsValues : Prop :=
  ∀ s : State, s.powerSound → s.yawSound →
    let now := max s.clock s.clc.evalDue
    let staging : Int := if s.clc.convOut.validity = .out then 1500 else s.clc.convOut.held
    let target := s.clc.params.valveTarget +
      (if s.cts.channels[4].reported = some .wet ∨ s.cts.channels[5].reported = some .wet then 50 else 0)
    let limit : Int → Nat := fun x =>
      if x ≤ s.clc.params.knee then s.ratedOwn
      else if s.clc.params.tripTemp ≤ x then 0
      else (((s.ratedOwn : Int) * (s.clc.params.tripTemp - x)) / (s.clc.params.tripTemp - s.clc.params.knee)).toNat
    ∃ t, exec .coolingEvaluation s = .next t ∧ t.clock = now ∧ t.clc.evalDue = s.clc.evalDue + ms 1000 ∧
      t.clc.params = s.clc.params ∧ t.clc.minFlowInForce = s.clc.params.minFlow ∧ t.clc.flow = s.clc.flow ∧
      t.clc.flowDue = s.clc.flowDue ∧ t.clc.pumps = s.clc.pumps ∧
      (s.clc.convOut.validity = .out ∨ (s.flm.holds .overtemperature = true ↔ 700 ≤ s.clc.convOut.held) →
        t.osc = ({ s with
          clock := now, clc := { s.clc with minFlowInForce := s.clc.params.minFlow } }.startsOver s.clc).osc) ∧
      (∀ k : Fin 4, t.clc.stageFlags[k] =
        if s.clc.params.stages[k] ≤ staging then true
        else if staging < s.clc.params.stages[k] - 30 then false
        else s.clc.stageFlags[k]) ∧
      (let wanted := min (countSet t.clc.stageFlags) ((List.finRange 4).filter fun f => !s.clc.fans[f].failed).length;
        (if s.apa.fansGranted < wanted then s.fanRequested t staging
          else t.apa.fansGranted = wanted ∧ t.apa.fanRequest = false ∧
            (s.apa.yawRequest = none →
              t.apa = { s.apa with fansGranted := wanted, fanRequest := false } ∧ t.ywc = s.ywc)) ∧
        (s.apa.yawRequest = none →
          (s.clc.convOut.validity = .out ∨ (s.flm.holds .overtemperature = true ↔ 700 ≤ s.clc.convOut.held)) →
          (s.clc.cable.validity = .out ∨
            (if s.flm.holds .stringCableHot = true then s.clc.params.cableLimit - 20 < s.clc.cable.held
              else s.clc.cable.held ≤ s.clc.params.cableLimit)) →
          t.flm = (if s.apa.fansGranted < wanted ∧ s.stopsForFan staging then s.overrideFlm now staging else s.flm))) ∧
      (t.clc.valve : Int) = (if s.clc.convIn.validity = .out then 1000
        else max 0 (min 1000 (500 + ((s.clc.convIn.held - target) * 5).tdiv 2))) ∧
      t.clc.tOwn = (
        if s.clc.convOut.validity = .out then
          (if s.clc.genOut.validity = .out then 0 else limit s.clc.genOut.held)
        else if s.clc.genOut.validity = .out then limit s.clc.convOut.held
        else min (limit s.clc.convOut.held) (limit s.clc.genOut.held)) ∧
      (s.clc.convOut.validity ≠ .out → (t.flm.holds .overtemperature = true ↔ 700 ≤ s.clc.convOut.held)) ∧
      (s.clc.convOut.validity = .out → t.flm.holds .overtemperature = s.flm.holds .overtemperature) ∧
      (s.clc.cable.validity ≠ .out →
        (s.clc.params.cableLimit < s.clc.cable.held → t.flm.holds .stringCableHot = true) ∧
        (s.clc.cable.held ≤ s.clc.params.cableLimit - 20 → t.flm.holds .stringCableHot = false)) ∧
      (s.clc.cable.validity = .out ∨
          (s.clc.params.cableLimit - 20 < s.clc.cable.held ∧ s.clc.cable.held ≤ s.clc.params.cableLimit) →
        t.flm.holds .stringCableHot = s.flm.holds .stringCableHot)

/-- SCAN_TIMER_EXPIRY starts with the lowest scanned channel, DISCHARGE_END starts its count; COMPARATOR_TRIP below the
ceiling and CEILING_REACHED give the raw class of R155, the debounce of R156, and the start of the next scanned
channel or the end of the scan; nothing else changes unless the reported class does, and then the condition of its
role is reported. The time a count takes and the order of the reports are the model's reading and choice (log entries
23 and 16). (R153, R154, R155, R156, R157) -/
def Obligations.ScansClassifyTheElectrodes : Prop :=
  (∀ (due : Clocks) (s : State), s.cts.scanDue = some due →
    let now := max s.clock due
    let u := { s with clock := now }
    (∀ i : Fin 8, s.cts.channels[i].scanned = true → (∀ j, j < i → s.cts.channels[j].scanned = false) →
      exec .scanTimerExpiry s = .next { u with cts := { s.cts with
        scanDue := some (due + ms 2000), scan := some { channel := i, phase := .discharging (now + us 50) } } }) ∧
    ((∀ i : Fin 8, s.cts.channels[i].scanned = false) →
      exec .scanTimerExpiry s = .next { u with cts := { s.cts with scanDue := some (due + ms 2000), scan := none } })) ∧
  (∀ (due : Clocks) (i : Fin 8) (s : State), s.cts.scan = some { channel := i, phase := .discharging due } →
    exec .dischargeEnd s = .next { s with
      clock := max s.clock due
      cts := { s.cts with scan := some { channel := i, phase := .counting (max s.clock due) } } }) ∧
  ∀ (since : Clocks) (i : Fin 8) (n : Nat) (c : Instr) (s : State),
    s.cts.scan = some { channel := i, phase := .counting since } →
    let x := s.cts.channels[i]
    (c = .comparatorTrip n ∧ n < x.ceiling) ∨ (c = .ceilingReached ∧ n = x.ceiling) →
    let raw : RawClass :=
      if n = x.ceiling then .noTrip
      else if n < x.baseline / 2 then .opened
      else if x.baseline + x.margin < n then .wet
      else .dry
    let y : SenseChannel :=
      if x.reported = some raw then { x with raw := some raw, candidate := none, agree := 0 }
      else if x.candidate ≠ some raw then { x with raw := some raw, candidate := some raw, agree := 1 }
      else if x.agree = 2 then { x with raw := some raw, reported := some raw, candidate := none, agree := 0 }
      else { x with raw := some raw, agree := x.agree + 1 }
    ∃ t, exec c s = .next t ∧ t.cts.channels = s.cts.channels.set i y ∧ t.cts.clockSel = s.cts.clockSel ∧
      t.cts.scanDue = s.cts.scanDue ∧
      t.clock = max s.clock (since + if s.cts.clockSel < 7 then n * (5 * 2 ^ s.cts.clockSel) else n * 78125 / 128) ∧
      (t.cts.scan = none ↔ ∀ j, i < j → s.cts.channels[j].scanned = false) ∧
      (∀ z, t.cts.scan = some z → z.phase = .discharging (t.clock + us 50) ∧ i < z.channel ∧
        s.cts.channels[z.channel].scanned = true ∧ ∀ j, i < j → j < z.channel → s.cts.channels[j].scanned = false) ∧
      (y.reported = x.reported → t = { s with clock := t.clock, cts := t.cts }) ∧
      (y.reported ≠ x.reported →
        (raw = .wet → i < 4 → t.flm.holds .coolantLeak = true) ∧
        (raw = .wet → i = 4 ∨ i = 5 → t.flm.holds .condensation = true) ∧
        (raw = .dry → 6 ≤ i → t.flm.holds .coolantLow = true) ∧
        (raw = .opened ∨ raw = .noTrip → x.reported ≠ some .opened → x.reported ≠ some .noTrip →
          t.flm.holds .senseChannelFault = true))

/-! ## The configuration image -/

/-- In LOADING, CONFIG_MARKER_RECEIVED takes 0x96 and CONFIG_HEADER_RECEIVED a header of length 4..2048 and format 1; any
other marker, header, CRC or image is refused with its detail code as value of CONFIG_INVALID: UNCONFIGURED, safe stop
in force, no scan, classes UNKNOWN, and nothing loaded: the PTB, SCU and CVP, the sector and offset tables, yaw and
cooling parameters, sense settings and figures stay as they were. The walk takes records that fit their tables, the
last of each table and index standing; a record that does not fit the length, its table's length or the count gives
code 4, an unknown table 5, an index out of range 6. The settling brings ramps, cap, offsets, threshold, twist limits
and band to the values of R196. The first that holds of the conditions of R195 on the settled records gives its code 7
to 15, and with none the image is good. The order of report and stopped scan is the model's choice (log entry 16).
(R158, R193, R194, R195, R196, R198) -/
def Obligations.ImagesAreRefusedByCode : Prop :=
  (∀ (dt : Clocks) (s : State), s.flm.holds .configInvalid = false → s.flm.openRecord? .configInvalid = none →
    let now := s.clock + dt
    let refusal := fun (c : Instr) (code : Nat) =>
      ∃ t, exec c s = .next t ∧ t.clock = now ∧ t.osc.state = .unconfigured ∧ t.osc.loader = .idle ∧
        t.osc.enable = s.osc.enable ∧ t.flm.holds .configInvalid = true ∧
        (t.flm.openRecord? .configInvalid).map (·.value) = some (BitVec.ofNat 32 code) ∧
        t.flm.reaction.safeStop = true ∧ t.cts.scan = none ∧ t.cts.scanDue = none ∧
        (∀ i : Fin 8, t.cts.channels[i].reported = none) ∧ t.ptb = s.ptb ∧ t.scu = s.scu ∧ t.cvp = s.cvp ∧
        t.ywc.sectors = s.ywc.sectors ∧ t.ywc.offsets = s.ywc.offsets ∧ t.ywc.params = s.ywc.params ∧
        t.ywc.evalDue = s.ywc.evalDue ∧ t.clc.params = s.clc.params ∧
        t.clc.minFlowInForce = s.clc.minFlowInForce ∧ t.apa.figures = s.apa.figures ∧
        t.cts.clockSel = s.cts.clockSel ∧ (∀ i : Fin 8, t.cts.channels[i].scanned = s.cts.channels[i].scanned ∧
          t.cts.channels[i].baseline = s.cts.channels[i].baseline ∧ t.cts.channels[i].margin = s.cts.channels[i].margin ∧
          t.cts.channels[i].ceiling = s.cts.channels[i].ceiling)
    s.osc.state = .loading →
    (s.osc.loader = .reading [] →
      exec (.configMarkerReceived dt 0x96#8) s = .next { s with
        clock := now, osc := { s.osc with loader := .reading [0x96#8] } } ∧
      ∀ m : Byte, m ≠ 0x96#8 → refusal (.configMarkerReceived dt m) 1) ∧
    (∀ m b0 b1 b2 b3 : Byte, s.osc.loader = .reading [m] →
      let length := 256 * b0.toNat + b1.toNat
      if 4 ≤ length ∧ length ≤ 2048 ∧ b3 = 1#8 then
        exec (.configHeaderReceived dt b0 b1 b2 b3) s = .next { s with
          clock := now, osc := { s.osc with loader := .reading [m, b0, b1, b2, b3] } }
      else refusal (.configHeaderReceived dt b0 b1 b2 b3) 2) ∧
    (∀ (m b0 b1 b2 b3 : Byte) (rest : List Byte), s.osc.loader = .reading [m, b0, b1, b2, b3] →
      let length := 256 * b0.toNat + b1.toNat
      4 ≤ length → rest.length = length - 2 →
      (crc16 ([b0, b1, b2, b3] ++ rest.take (length - 4)) ≠ u16At rest (length - 4) →
        refusal (.configReadComplete dt rest) 3) ∧
      (crc16 ([b0, b1, b2, b3] ++ rest.take (length - 4)) = u16At rest (length - 4) →
        ∀ code, (walk b2.toNat (rest.take (length - 4)) emptyStaging = .refuse code ∨
            ∃ st, walk b2.toNat (rest.take (length - 4)) emptyStaging = .good st ∧
              st.settle.check s.osc.station = .refuse code) →
          refusal (.configReadComplete dt rest) code))) ∧
  (∀ (image : List RawRecord) (n : Nat) (tail : List Byte), (∀ q ∈ image, q.fits) →
    let bytes := image.flatMap (·.bytes)
    (∃ st, walk image.length bytes emptyStaging = .good st ∧
      st.station = (lastRecord image 1 0).map readStation ∧
      (∀ j : Fin 12, st.peers[j] = (lastRecord image 2 j.val).map readPeer) ∧
      (∀ k : Fin 24, st.sectors[k] = (lastRecord image 3 k.val).map readSector) ∧
      (∀ k : Fin 8, st.offsets[k] = (lastRecord image 4 k.val).map fun d => (u16At d 0).toInt) ∧
      st.cooling = (lastRecord image 5 0).map readCooling ∧
      (∀ i : Fin 8, st.sense[i] = (lastRecord image 6 i.val).map readSense) ∧
      st.loads = (lastRecord image 7 0).map readLoads) ∧
    (tail ≠ [] → walk image.length (bytes ++ tail) emptyStaging = .refuse 4) ∧
    (tail.length < 3 → walk (image.length + n + 1) (bytes ++ tail) emptyStaging = .refuse 4) ∧
    ∀ id index len : Byte,
      let w := walk (image.length + n + 1) (bytes ++ id :: index :: len :: tail) emptyStaging
      if tail.length < len.toNat then w = .refuse 4
      else
        (tableShape id = none → w = .refuse 5) ∧
        ∀ most size, tableShape id = some (most, size) →
          (most ≤ index.toNat → w = .refuse 6) ∧ (index.toNat < most → len.toNat ≠ size → w = .refuse 4)) ∧
  (∀ st : Staging,
    let u := st.settle
    (∀ k : Fin 8, u.offsets[k] = (st.offsets[k]).map fun o => if o < -300 then -300 else if 300 < o then 300 else o) ∧
    u = { st with offsets := u.offsets, station := u.station } ∧
    u.station = st.station.map fun r =>
      let ramp := fun x : Nat => if x = 0 then 1 else if 5000 < x then 5000 else x
      { r with
        rampUp := ramp r.rampUp, rampDown := ramp r.rampDown, cap := if 100 < r.cap then 100 else r.cap
        startThreshold := if r.startThreshold = 0 then 80 else r.startThreshold
        softLimit := if r.softLimit = 0 then 7200 else r.softLimit
        hardLimit := if r.hardLimit = 0 then 9000 else r.hardLimit
        bandLower := if r.bandLower = 0 ∧ r.bandUpper = 0 then 50 else r.bandLower
        bandUpper := if r.bandLower = 0 ∧ r.bandUpper = 0 then 120 else r.bandUpper }) ∧
  ∀ (st : Staging) (own : Nat),
    (∀ code, st.refusedFor own code → (∀ c, c < code → ¬ st.refusedFor own c) → st.check own = .refuse code) ∧
    ((∀ c, ¬ st.refusedFor own c) → st.check own = .good st)

/-- CONFIG_READ_COMPLETE of an image that passes every check answers a next state in which the PTB, SCU, CVP, YWC, CLC,
CTS and APA hold its records and their load values and timers (the sector and offset tables with their defaults; the
vane-invalid timer started anew where no valid vane reading was seen; the brake, retry and wait-power timers stopped;
T_own formed; the minimum flow in force and the flow monitor as they were), PEER_LOST is present where it names
another peer that is not EXCLUDED and no slot was in use before, the APA sheds fans from the highest down while the
total with the new figures exceeds B and then examines a waiting fan request, and the OSC is in SAFE_STOP where safe
stop holds, else in STARTING exactly where the run command taken from auto-start is set and the three start conditions
hold, else in STANDBY. The order of the blocks is the model's choice (log entry 16). (R45, R50, R57, R106, R111, R127,
R132, R136, R146, R159, R197, R201) -/
def Obligations.AGoodImageIsLoaded : Prop :=
  ∀ (dt : Clocks) (m b0 b1 b2 b3 : Byte) (rest : List Byte) (st : Staging) (s : State), s.osc.state = .loading →
    s.osc.loader = .reading [m, b0, b1, b2, b3] → rest.length = 256 * b0.toNat + b1.toNat - 2 →
    4 ≤ 256 * b0.toNat + b1.toNat → judgeImage [b0, b1, b2, b3] rest s.osc.station = .good st →
    let now := s.clock + dt
    ∃ t r, st.station = some r ∧ exec (.configReadComplete dt rest) s = .next t ∧ t.clock = now ∧
      (t.ptb.loaded = true ∧ t.ptb.slots = st.peers ∧ t.ptb.entries = Vector.replicate 12 freshEntry ∧
        t.ptb.isolationDue = some (now + ms 2000) ∧ t.ptb.isolated = false ∧ t.ptb.foreignDue = s.ptb.foreignDue) ∧
      ((∀ i : Fin 12, s.ptb.slots[i] = none) → (∃ (j : Fin 12) (d : Descriptor), st.peers[j] = some d ∧
        d.station ≠ s.osc.station ∧ d.excluded = false) → t.flm.holds .peerLost = true) ∧
      (t.scu.periodDue = some (now + ms 20) ∧ t.scu.cap = r.cap ∧ t.scu.cCfg = r.cCfg ∧ t.scu.rampUp = r.rampUp ∧
        t.scu.rampDown = r.rampDown ∧ t.scu.fCab = r.fCab ∧ t.scu.sApp = s.scu.sApp) ∧
      (t.cvp.strobeMode = (if r.strobe = 1 then .pulse else if r.strobe = 2 then .window else .off) ∧
        t.cvp.silenceDue = some (s.cvp.silenceDue.getD (now + ms 60))) ∧
      (∀ k : Fin 24, match st.sectors[k] with
        | none => t.ywc.sectors[k].steer = false ∧ t.ywc.sectors[k].restrict = false ∧ t.ywc.sectors[k].partner = none
        | some q => t.ywc.sectors[k].steer = q.steer ∧ t.ywc.sectors[k].restrict = q.restrict ∧
            t.ywc.sectors[k].offsetRef.val = q.offsetRef ∧ q.offsetRef ≤ 7 ∧
            (q.partner = 255 ∧ t.ywc.sectors[k].partner = none ∨
              ∃ p : Fin 12, t.ywc.sectors[k].partner = some p ∧ p.val = q.partner)) ∧
      (t.ywc.window = [] ∧ t.ywc.misalignCount = 0 ∧ t.ywc.offsetInUse = 0 ∧ t.ywc.steering = false ∧
        t.ywc.twist = s.ywc.twist ∧
        t.ywc.vaneInvalidDue = (if s.ywc.vaneSeen then s.ywc.vaneInvalidDue else some (now + ms 10000)) ∧
        (s.yawSound → t.ywc.state = .idle ∧ t.ywc.releaseDue = none ∧ t.ywc.applyDue = none ∧ t.ywc.retryDue = none ∧
          t.ywc.waitDue = none ∧ t.ywc.feedbackDue = s.ywc.feedbackDue)) ∧
      ((∀ k : Fin 8, t.ywc.offsets[k] = (st.offsets[k]).getD 0) ∧ t.ywc.evalDue = some (now + ms 1000) ∧
        t.ywc.params.startThreshold = r.startThreshold ∧ t.ywc.params.softLimit = r.softLimit ∧
        t.ywc.params.hardLimit = r.hardLimit ∧ t.ywc.params.bandLower = r.bandLower ∧
        t.ywc.params.bandUpper = r.bandUpper ∧ t.ywc.hold = s.ywc.hold ∧
        (t.flm.holds .twistHardLimit = true ↔ r.hardLimit < s.ywc.twist.natAbs)) ∧
      (t.clc.params = (match st.cooling with | some c => c.params | none => defaultCooling) ∧
        t.clc.minFlowInForce = s.clc.minFlowInForce ∧ t.clc.flowDue = s.clc.flowDue ∧
        t.cts.clockSel = (match st.cooling with | some c => c.clockSel | none => 2)) ∧
      (∃ (j : Fin 12) (d : Descriptor), st.peers[j] = some d ∧ d.station = s.osc.station ∧
        let limit : Int → Nat := fun x =>
          if x ≤ t.clc.params.knee then d.rated
          else if t.clc.params.tripTemp ≤ x then 0
          else (((d.rated : Int) * (t.clc.params.tripTemp - x)) / (t.clc.params.tripTemp - t.clc.params.knee)).toNat
        t.clc.tOwn = (
          if s.clc.convOut.validity = .out then
            (if s.clc.genOut.validity = .out then 0 else limit s.clc.genOut.held)
          else if s.clc.genOut.validity = .out then limit s.clc.convOut.held
          else min (limit s.clc.convOut.held) (limit s.clc.genOut.held))) ∧
      (t.cts.scan = none ∧ t.cts.scanDue = s.cts.scanDue ∧
        ∀ i : Fin 8, t.cts.channels[i].reported = none ∧ t.cts.channels[i].scanned = (st.sense[i]).isSome ∧
          ∀ q, st.sense[i] = some q → t.cts.channels[i].baseline = q.baseline ∧
            t.cts.channels[i].margin = q.margin ∧ t.cts.channels[i].ceiling = q.ceiling) ∧
      t.apa.figures = (match st.loads with | some f => f | none => defaultFigures) ∧
      (s.yawSound → s.powerSound →
        let figures := t.apa.figures
        let total := fun n : Nat => figures.pumpLoad + figures.fanLoad * n
        let n := s.apa.fansGranted
        let idleFan := (List.finRange 4).find? fun f : Fin 4 => !s.clc.fans[f].failed && !s.clc.fans[f].runOut
        t.apa.yawGranted = 0 ∧ t.apa.shedPending = false ∧ t.apa.total ≤ figures.budget ∧
        if figures.budget < total n then
          t.apa.fanRequest = s.apa.fanRequest ∧ t.apa.fansGranted < n ∧ total t.apa.fansGranted ≤ figures.budget ∧
            figures.budget < total (t.apa.fansGranted + 1) ∧
            ∀ f : Fin 4, t.clc.fans[f].runOut = (s.clc.fans[f].runOut &&
              decide (((List.finRange 4).filter fun e : Fin 4 => decide (e < f) && s.clc.fans[e].runOut).length <
                t.apa.fansGranted))
        else if s.apa.fanRequest = true ∧ total (n + 1) ≤ figures.budget then
          t.apa.fanRequest = false ∧ t.apa.fansGranted = (if idleFan.isSome then n + 1 else n) ∧
            ∀ f : Fin 4, t.clc.fans[f].runOut = (s.clc.fans[f].runOut || idleFan == some f)
        else t.apa.fanRequest = s.apa.fanRequest ∧ t.apa.fansGranted = n ∧ t.clc.fans = s.clc.fans) ∧
      let osc := { s.osc with loader := .idle, enable := false, runCommand := r.autoStart && !s.osc.stringStopSeen }
      t.osc =
        if t.flm.reaction.safeStop = true then { osc with state := .safeStop }
        else if t.mayStart then
          { osc with
            state := .starting, enable := true, startDue := some (now + ms 10000), stopDue := none, restartDue := none }
        else { osc with state := .standby, startDue := none, stopDue := none, restartDue := none }

/-! ## The fault manager -/

/-- In a sound pool: a present report of a code without an open record opens one in the lowest free slot, or in the slot
of the oldest HISTORY record when none is free, behind all records of its severity or higher; of a code with one it
renews it, counting a repeat from OPEN-CLEARED; a gone report makes a latching record OPEN-CLEARED and closes another
for CONDITION GONE at the end of HISTORY; nothing else of the pool changes. The opening numbers of records are the
model's (log entry 3). (R172, R173, R174, R175, R176, R177, R178) -/
def Obligations.ReportsMoveRecords : Prop :=
  ∀ (f : Flm) (now : Stamp) (c : FaultCode) (v : Int), f.sound →
    let up := f.take now (.present c v)
    let down := f.take now (.gone c)
    (up.holds c = true ∧ down.holds c = false ∧ ∀ d, d ≠ c → up.holds d = f.holds d ∧ down.holds d = f.holds d) ∧
    ((∀ r ∈ f.opens, r.code ≠ c) →
      down.opens = f.opens ∧ down.history = f.history ∧
      ∃ (a b : List Record) (r : Record), f.opens = a ++ b ∧ up.opens = a ++ r :: b ∧
        (∀ x ∈ a, r.severity.rank ≤ x.severity.rank) ∧ (∀ x ∈ b, x.severity.rank < r.severity.rank) ∧
        r.code = c ∧ r.state = .opened ∧ r.repeatCount = 0 ∧ r.openStamp = now ∧ r.lastSeen = now ∧ r.closeStamp = 0 ∧
        r.value = BitVec.ofInt 32 v ∧ r.closeReason = .notClosed ∧ r.openPending = true ∧ r.closePending = false ∧
        (f.inUse r.slot = false → (∀ i, i < r.slot → f.inUse i = true) ∧ up.history = f.history ∧
          up.reclaimedUnsent = f.reclaimedUnsent) ∧
        ((∃ i, f.inUse i = false) → f.inUse r.slot = false) ∧
        (∀ old rest, (∀ i, f.inUse i = true) → f.history = old :: rest →
          r.slot = old.slot ∧ up.history = rest ∧ up.reclaimedUnsent = (f.reclaimedUnsent || old.closePending))) ∧
    ∀ (a b : List Record) (r : Record), f.opens = a ++ r :: b → r.code = c →
      up.history = f.history ∧ up.reclaimedUnsent = f.reclaimedUnsent ∧
      up.opens = a ++ (if r.state = .openCleared then
        { r with state := .opened, repeatCount := min 255 (r.repeatCount + 1), lastSeen := now }
        else { r with lastSeen := now }) :: b ∧
      (r.state = .openCleared → down.opens = f.opens ∧ down.history = f.history) ∧
      (r.state = .opened → c.latching = true →
        down.opens = a ++ { r with state := .openCleared } :: b ∧ down.history = f.history) ∧
      (r.state = .opened → c.latching = false →
        down.opens = a ++ b ∧ down.history = f.history ++ [{ r with
          state := .closed, closeStamp := now, closeReason := .conditionGone
          closeTransition := some (if r.openPending then .openedAndClosed else .closed), openPending := false
          closePending := true }])

/-- An event report adds a closed record at the end of HISTORY, or repeats the last one of its code whose notice is still
pending; the best pending notice is, among those owed of the highest severity, the first in the order of the OPEN list
and then of HISTORY, and serving it clears that pending flag alone, while the message changes nothing where the slot
no longer holds that record with that notice pending; trip, yaw stop, untwist yaw stop, safe stop and the smallest
derate factor are those of the OPEN list. (R174, R179, R180, R182, R183) -/
def Obligations.EventsAndNotices : Prop :=
  (∀ (f : Flm) (now : Stamp) (c : FaultCode) (v : Int), f.sound →
    let t := f.take now (.event c v)
    t.opens = f.opens ∧ t.present = f.present ∧
    (∀ (a : List Record) (r : Record), f.history = a ++ [r] → r.code = c → r.closePending = true →
      t.history = a ++ [{ r with repeatCount := min 255 (r.repeatCount + 1), lastSeen := now }]) ∧
    ((∀ (a : List Record) (r : Record), f.history = a ++ [r] → r.code ≠ c ∨ r.closePending = false) →
      ∃ r, t.history = (if ∃ i, f.inUse i = false then f.history else f.history.drop 1) ++ [r] ∧ r.code = c ∧
        r.state = .closed ∧ r.openStamp = now ∧ r.closeStamp = now ∧ r.lastSeen = now ∧ r.repeatCount = 0 ∧
        r.value = BitVec.ofInt 32 v ∧ r.closeReason = .conditionGone ∧ r.closeTransition = some .openedAndClosed ∧
        r.openPending = false ∧ r.closePending = true)) ∧
  ∀ f : Flm,
    let owes := fun (r : Record) (x : Transition) => (r ∈ f.opens ∨ r ∈ f.history) ∧ r.owes x
    (f.bestNotice? = none ↔ ∀ r x, ¬ owes r x) ∧
    (∀ r x, f.bestNotice? = some (r, x) → owes r x ∧ ∀ q y, owes q y → q.severity.rank ≤ r.severity.rank) ∧
    (∀ r x, f.bestNotice? = some (r, x) ↔ r.owes x ∧ ∃ a b, f.opens ++ f.history = a ++ r :: b ∧
      (∀ q ∈ a, ∀ y, q.owes y → q.severity.rank < r.severity.rank) ∧
      ∀ q ∈ b, ∀ y, q.owes y → q.severity.rank ≤ r.severity.rank) ∧
    (∀ r x, f.sound → f.bestNotice? = some (r, x) →
      let t := f.noticeSent r.slot x (some r.seq)
      t.opens = f.opens.map (fun q => if q = r then { q with openPending := false } else q) ∧
        t.history = f.history.map (fun q => if q = r then { q with closePending := false } else q) ∧
        t.present = f.present ∧ t.reclaimedUnsent = f.reclaimedUnsent) ∧
    (∀ (slot : Fin 64) (x : Transition) (opening : Option Nat),
      (∀ r, owes r x → r.slot = slot → opening ≠ some r.seq) → f.noticeSent slot x opening = f) ∧
    let e := f.reaction
    (e.trip = true ↔ ∃ r ∈ f.opens, r.severity = .trip ∨ r.severity = .safeStop) ∧
    (e.yawStop = true ↔ ∃ r ∈ f.opens, r.severity = .yawStop ∨ r.severity = .safeStop) ∧
    (e.untwistYawStop = true ↔
      ∃ r ∈ f.opens, (r.severity = .yawStop ∨ r.severity = .safeStop) ∧ r.code ≠ .twistHardLimit) ∧
    (e.safeStop = true ↔ ∃ r ∈ f.opens, r.severity = .safeStop) ∧
    e.fMin ≤ 1000 ∧ (∀ r ∈ f.opens, r.severity = .derate → e.fMin ≤ r.code.factor) ∧
    (e.fMin = 1000 ∨ ∃ r ∈ f.opens, r.severity = .derate ∧ e.fMin = r.code.factor)

/-! ## What every step keeps -/

/-- State.reset meets every predicate that the statements below say each step keeps; what the reset levels of the input
pins and the values before a load have to do with it is the model's choice (log entries 4, 5 and 6). (R61, R83, R104,
R132, R151, R170, R188, R208) -/
def Obligations.ResetIsSound : Prop :=
  State.reset.modesSound ∧ State.reset.limitsSound ∧ State.reset.rideThroughSound ∧ State.reset.yawSound ∧
    State.reset.powerSound ∧ State.reset.flm.sound ∧ State.reset.twistSound ∧ State.reset.linkSound ∧
    State.reset.configSound

/-- From every state in which the enable is on exactly in the producing states, a disabled block has export limit 0, and
CVP, SCU, APA and OSC agree on ride-through, every step leads to such a state. (R76, R79, R80, R97, R100, R167, R169,
R199, R202) -/
def Obligations.StepsKeepTheModesSound : Prop :=
  (∀ s t : State, s.modesSound → step s = .next t → t.modesSound) ∧
  (∀ s t : State, s.limitsSound → step s = .next t → t.limitsSound) ∧
  ∀ s t : State, s.modesSound → s.rideThroughSound → step s = .next t → t.rideThroughSound

/-- From every state that fits the table of the yaw states and the budget of the APA (brake release output, drive enables
within the grant, grant and request by yaw state, fans granted equal to fans running, total within the budget B,
shedding owed only in BRAKE_APPLY), every step leads to such a state. (R115, R116, R117, R121, R142, R143, R159, R160,
R163, R164, R168) -/
def Obligations.StepsKeepYawAndPowerSound : Prop :=
  (∀ s t : State, s.modesSound → s.yawSound → step s = .next t → t.yawSound) ∧
  ∀ s t : State, s.modesSound → s.yawSound → s.powerSound → step s = .next t → t.powerSound

/-- From every state in which each slot of the pool is in exactly one list, no code is open twice, the OPEN list falls in
severity, and every record of HISTORY is CLOSED with close transition CLOSED or OPENED-AND-CLOSED, every step leads to
such a state. (R173, R174, R175, R176, R177, R178, R179, R186, R189) -/
def Obligations.StepsKeepThePoolSound : Prop :=
  ∀ s t : State, s.flm.sound → step s = .next t → t.flm.sound

/-- From every state in which the twist is within 10800 either way, only a valid station contends and sends, and a loaded
configuration is within its ranges with the own station in the remap, every step leads to such a state. (R5, R10, R20,
R33, R45, R66, R126, R195, R196, R197) -/
def Obligations.StepsKeepTwistLinkAndConfigurationSound : Prop :=
  (∀ s t : State, s.twistSound → step s = .next t → t.twistSound) ∧
  (∀ s t : State, s.linkSound → step s = .next t → t.linkSound) ∧
  ∀ s t : State, s.modesSound → s.configSound → step s = .next t → t.configSound
end

