-- ==== Sys2Proof/Laws/State.lean ====
section
/-! SUPPORT. One lemma for each field under each update of the state, all true by unfolding. -/

namespace Sys2Proof.Machine

/-! ## clock -/

@[simp] theorem State.setClock_clock (s : State) (x : Clocks) : (s.setClock x).clock = x := rfl
@[simp] theorem State.setClock_slc (s : State) (x : Clocks) : (s.setClock x).slc = s.slc := rfl
@[simp] theorem State.setClock_ptb (s : State) (x : Clocks) : (s.setClock x).ptb = s.ptb := rfl
@[simp] theorem State.setClock_scu (s : State) (x : Clocks) : (s.setClock x).scu = s.scu := rfl
@[simp] theorem State.setClock_cvp (s : State) (x : Clocks) : (s.setClock x).cvp = s.cvp := rfl
@[simp] theorem State.setClock_ywc (s : State) (x : Clocks) : (s.setClock x).ywc = s.ywc := rfl
@[simp] theorem State.setClock_clc (s : State) (x : Clocks) : (s.setClock x).clc = s.clc := rfl
@[simp] theorem State.setClock_cts (s : State) (x : Clocks) : (s.setClock x).cts = s.cts := rfl
@[simp] theorem State.setClock_apa (s : State) (x : Clocks) : (s.setClock x).apa = s.apa := rfl
@[simp] theorem State.setClock_flm (s : State) (x : Clocks) : (s.setClock x).flm = s.flm := rfl
@[simp] theorem State.setClock_osc (s : State) (x : Clocks) : (s.setClock x).osc = s.osc := rfl
@[simp] theorem State.setClock_unreceived (s : State) (x : Clocks) : (s.setClock x).unreceived = s.unreceived := rfl
@[simp] theorem State.setClock_pending (s : State) (x : Clocks) : (s.setClock x).pending = s.pending := rfl
@[simp] theorem State.setClock_self (s : State) : s.setClock s.clock = s := rfl
@[simp] theorem State.setClock_setClock (s : State) (x y : Clocks) : (s.setClock x).setClock y = s.setClock y := rfl

/-! ## slc -/

@[simp] theorem State.setSlc_clock (s : State) (x : Slc) : (s.setSlc x).clock = s.clock := rfl
@[simp] theorem State.setSlc_slc (s : State) (x : Slc) : (s.setSlc x).slc = x := rfl
@[simp] theorem State.setSlc_ptb (s : State) (x : Slc) : (s.setSlc x).ptb = s.ptb := rfl
@[simp] theorem State.setSlc_scu (s : State) (x : Slc) : (s.setSlc x).scu = s.scu := rfl
@[simp] theorem State.setSlc_cvp (s : State) (x : Slc) : (s.setSlc x).cvp = s.cvp := rfl
@[simp] theorem State.setSlc_ywc (s : State) (x : Slc) : (s.setSlc x).ywc = s.ywc := rfl
@[simp] theorem State.setSlc_clc (s : State) (x : Slc) : (s.setSlc x).clc = s.clc := rfl
@[simp] theorem State.setSlc_cts (s : State) (x : Slc) : (s.setSlc x).cts = s.cts := rfl
@[simp] theorem State.setSlc_apa (s : State) (x : Slc) : (s.setSlc x).apa = s.apa := rfl
@[simp] theorem State.setSlc_flm (s : State) (x : Slc) : (s.setSlc x).flm = s.flm := rfl
@[simp] theorem State.setSlc_osc (s : State) (x : Slc) : (s.setSlc x).osc = s.osc := rfl
@[simp] theorem State.setSlc_unreceived (s : State) (x : Slc) : (s.setSlc x).unreceived = s.unreceived := rfl
@[simp] theorem State.setSlc_pending (s : State) (x : Slc) : (s.setSlc x).pending = s.pending := rfl
@[simp] theorem State.setSlc_self (s : State) : s.setSlc s.slc = s := rfl
@[simp] theorem State.setSlc_setSlc (s : State) (x y : Slc) : (s.setSlc x).setSlc y = s.setSlc y := rfl

/-! ## ptb -/

@[simp] theorem State.setPtb_clock (s : State) (x : Ptb) : (s.setPtb x).clock = s.clock := rfl
@[simp] theorem State.setPtb_slc (s : State) (x : Ptb) : (s.setPtb x).slc = s.slc := rfl
@[simp] theorem State.setPtb_ptb (s : State) (x : Ptb) : (s.setPtb x).ptb = x := rfl
@[simp] theorem State.setPtb_scu (s : State) (x : Ptb) : (s.setPtb x).scu = s.scu := rfl
@[simp] theorem State.setPtb_cvp (s : State) (x : Ptb) : (s.setPtb x).cvp = s.cvp := rfl
@[simp] theorem State.setPtb_ywc (s : State) (x : Ptb) : (s.setPtb x).ywc = s.ywc := rfl
@[simp] theorem State.setPtb_clc (s : State) (x : Ptb) : (s.setPtb x).clc = s.clc := rfl
@[simp] theorem State.setPtb_cts (s : State) (x : Ptb) : (s.setPtb x).cts = s.cts := rfl
@[simp] theorem State.setPtb_apa (s : State) (x : Ptb) : (s.setPtb x).apa = s.apa := rfl
@[simp] theorem State.setPtb_flm (s : State) (x : Ptb) : (s.setPtb x).flm = s.flm := rfl
@[simp] theorem State.setPtb_osc (s : State) (x : Ptb) : (s.setPtb x).osc = s.osc := rfl
@[simp] theorem State.setPtb_unreceived (s : State) (x : Ptb) : (s.setPtb x).unreceived = s.unreceived := rfl
@[simp] theorem State.setPtb_pending (s : State) (x : Ptb) : (s.setPtb x).pending = s.pending := rfl
@[simp] theorem State.setPtb_self (s : State) : s.setPtb s.ptb = s := rfl
@[simp] theorem State.setPtb_setPtb (s : State) (x y : Ptb) : (s.setPtb x).setPtb y = s.setPtb y := rfl

/-! ## scu -/

@[simp] theorem State.setScu_clock (s : State) (x : Scu) : (s.setScu x).clock = s.clock := rfl
@[simp] theorem State.setScu_slc (s : State) (x : Scu) : (s.setScu x).slc = s.slc := rfl
@[simp] theorem State.setScu_ptb (s : State) (x : Scu) : (s.setScu x).ptb = s.ptb := rfl
@[simp] theorem State.setScu_scu (s : State) (x : Scu) : (s.setScu x).scu = x := rfl
@[simp] theorem State.setScu_cvp (s : State) (x : Scu) : (s.setScu x).cvp = s.cvp := rfl
@[simp] theorem State.setScu_ywc (s : State) (x : Scu) : (s.setScu x).ywc = s.ywc := rfl
@[simp] theorem State.setScu_clc (s : State) (x : Scu) : (s.setScu x).clc = s.clc := rfl
@[simp] theorem State.setScu_cts (s : State) (x : Scu) : (s.setScu x).cts = s.cts := rfl
@[simp] theorem State.setScu_apa (s : State) (x : Scu) : (s.setScu x).apa = s.apa := rfl
@[simp] theorem State.setScu_flm (s : State) (x : Scu) : (s.setScu x).flm = s.flm := rfl
@[simp] theorem State.setScu_osc (s : State) (x : Scu) : (s.setScu x).osc = s.osc := rfl
@[simp] theorem State.setScu_unreceived (s : State) (x : Scu) : (s.setScu x).unreceived = s.unreceived := rfl
@[simp] theorem State.setScu_pending (s : State) (x : Scu) : (s.setScu x).pending = s.pending := rfl
@[simp] theorem State.setScu_self (s : State) : s.setScu s.scu = s := rfl
@[simp] theorem State.setScu_setScu (s : State) (x y : Scu) : (s.setScu x).setScu y = s.setScu y := rfl

/-! ## cvp -/

@[simp] theorem State.setCvp_clock (s : State) (x : Cvp) : (s.setCvp x).clock = s.clock := rfl
@[simp] theorem State.setCvp_slc (s : State) (x : Cvp) : (s.setCvp x).slc = s.slc := rfl
@[simp] theorem State.setCvp_ptb (s : State) (x : Cvp) : (s.setCvp x).ptb = s.ptb := rfl
@[simp] theorem State.setCvp_scu (s : State) (x : Cvp) : (s.setCvp x).scu = s.scu := rfl
@[simp] theorem State.setCvp_cvp (s : State) (x : Cvp) : (s.setCvp x).cvp = x := rfl
@[simp] theorem State.setCvp_ywc (s : State) (x : Cvp) : (s.setCvp x).ywc = s.ywc := rfl
@[simp] theorem State.setCvp_clc (s : State) (x : Cvp) : (s.setCvp x).clc = s.clc := rfl
@[simp] theorem State.setCvp_cts (s : State) (x : Cvp) : (s.setCvp x).cts = s.cts := rfl
@[simp] theorem State.setCvp_apa (s : State) (x : Cvp) : (s.setCvp x).apa = s.apa := rfl
@[simp] theorem State.setCvp_flm (s : State) (x : Cvp) : (s.setCvp x).flm = s.flm := rfl
@[simp] theorem State.setCvp_osc (s : State) (x : Cvp) : (s.setCvp x).osc = s.osc := rfl
@[simp] theorem State.setCvp_unreceived (s : State) (x : Cvp) : (s.setCvp x).unreceived = s.unreceived := rfl
@[simp] theorem State.setCvp_pending (s : State) (x : Cvp) : (s.setCvp x).pending = s.pending := rfl
@[simp] theorem State.setCvp_self (s : State) : s.setCvp s.cvp = s := rfl
@[simp] theorem State.setCvp_setCvp (s : State) (x y : Cvp) : (s.setCvp x).setCvp y = s.setCvp y := rfl

/-! ## ywc -/

@[simp] theorem State.setYwc_clock (s : State) (x : Ywc) : (s.setYwc x).clock = s.clock := rfl
@[simp] theorem State.setYwc_slc (s : State) (x : Ywc) : (s.setYwc x).slc = s.slc := rfl
@[simp] theorem State.setYwc_ptb (s : State) (x : Ywc) : (s.setYwc x).ptb = s.ptb := rfl
@[simp] theorem State.setYwc_scu (s : State) (x : Ywc) : (s.setYwc x).scu = s.scu := rfl
@[simp] theorem State.setYwc_cvp (s : State) (x : Ywc) : (s.setYwc x).cvp = s.cvp := rfl
@[simp] theorem State.setYwc_ywc (s : State) (x : Ywc) : (s.setYwc x).ywc = x := rfl
@[simp] theorem State.setYwc_clc (s : State) (x : Ywc) : (s.setYwc x).clc = s.clc := rfl
@[simp] theorem State.setYwc_cts (s : State) (x : Ywc) : (s.setYwc x).cts = s.cts := rfl
@[simp] theorem State.setYwc_apa (s : State) (x : Ywc) : (s.setYwc x).apa = s.apa := rfl
@[simp] theorem State.setYwc_flm (s : State) (x : Ywc) : (s.setYwc x).flm = s.flm := rfl
@[simp] theorem State.setYwc_osc (s : State) (x : Ywc) : (s.setYwc x).osc = s.osc := rfl
@[simp] theorem State.setYwc_unreceived (s : State) (x : Ywc) : (s.setYwc x).unreceived = s.unreceived := rfl
@[simp] theorem State.setYwc_pending (s : State) (x : Ywc) : (s.setYwc x).pending = s.pending := rfl
@[simp] theorem State.setYwc_self (s : State) : s.setYwc s.ywc = s := rfl
@[simp] theorem State.setYwc_setYwc (s : State) (x y : Ywc) : (s.setYwc x).setYwc y = s.setYwc y := rfl

/-! ## clc -/

@[simp] theorem State.setClc_clock (s : State) (x : Clc) : (s.setClc x).clock = s.clock := rfl
@[simp] theorem State.setClc_slc (s : State) (x : Clc) : (s.setClc x).slc = s.slc := rfl
@[simp] theorem State.setClc_ptb (s : State) (x : Clc) : (s.setClc x).ptb = s.ptb := rfl
@[simp] theorem State.setClc_scu (s : State) (x : Clc) : (s.setClc x).scu = s.scu := rfl
@[simp] theorem State.setClc_cvp (s : State) (x : Clc) : (s.setClc x).cvp = s.cvp := rfl
@[simp] theorem State.setClc_ywc (s : State) (x : Clc) : (s.setClc x).ywc = s.ywc := rfl
@[simp] theorem State.setClc_clc (s : State) (x : Clc) : (s.setClc x).clc = x := rfl
@[simp] theorem State.setClc_cts (s : State) (x : Clc) : (s.setClc x).cts = s.cts := rfl
@[simp] theorem State.setClc_apa (s : State) (x : Clc) : (s.setClc x).apa = s.apa := rfl
@[simp] theorem State.setClc_flm (s : State) (x : Clc) : (s.setClc x).flm = s.flm := rfl
@[simp] theorem State.setClc_osc (s : State) (x : Clc) : (s.setClc x).osc = s.osc := rfl
@[simp] theorem State.setClc_unreceived (s : State) (x : Clc) : (s.setClc x).unreceived = s.unreceived := rfl
@[simp] theorem State.setClc_pending (s : State) (x : Clc) : (s.setClc x).pending = s.pending := rfl
@[simp] theorem State.setClc_self (s : State) : s.setClc s.clc = s := rfl
@[simp] theorem State.setClc_setClc (s : State) (x y : Clc) : (s.setClc x).setClc y = s.setClc y := rfl

/-! ## cts -/

@[simp] theorem State.setCts_clock (s : State) (x : Cts) : (s.setCts x).clock = s.clock := rfl
@[simp] theorem State.setCts_slc (s : State) (x : Cts) : (s.setCts x).slc = s.slc := rfl
@[simp] theorem State.setCts_ptb (s : State) (x : Cts) : (s.setCts x).ptb = s.ptb := rfl
@[simp] theorem State.setCts_scu (s : State) (x : Cts) : (s.setCts x).scu = s.scu := rfl
@[simp] theorem State.setCts_cvp (s : State) (x : Cts) : (s.setCts x).cvp = s.cvp := rfl
@[simp] theorem State.setCts_ywc (s : State) (x : Cts) : (s.setCts x).ywc = s.ywc := rfl
@[simp] theorem State.setCts_clc (s : State) (x : Cts) : (s.setCts x).clc = s.clc := rfl
@[simp] theorem State.setCts_cts (s : State) (x : Cts) : (s.setCts x).cts = x := rfl
@[simp] theorem State.setCts_apa (s : State) (x : Cts) : (s.setCts x).apa = s.apa := rfl
@[simp] theorem State.setCts_flm (s : State) (x : Cts) : (s.setCts x).flm = s.flm := rfl
@[simp] theorem State.setCts_osc (s : State) (x : Cts) : (s.setCts x).osc = s.osc := rfl
@[simp] theorem State.setCts_unreceived (s : State) (x : Cts) : (s.setCts x).unreceived = s.unreceived := rfl
@[simp] theorem State.setCts_pending (s : State) (x : Cts) : (s.setCts x).pending = s.pending := rfl
@[simp] theorem State.setCts_self (s : State) : s.setCts s.cts = s := rfl
@[simp] theorem State.setCts_setCts (s : State) (x y : Cts) : (s.setCts x).setCts y = s.setCts y := rfl

/-! ## apa -/

@[simp] theorem State.setApa_clock (s : State) (x : Apa) : (s.setApa x).clock = s.clock := rfl
@[simp] theorem State.setApa_slc (s : State) (x : Apa) : (s.setApa x).slc = s.slc := rfl
@[simp] theorem State.setApa_ptb (s : State) (x : Apa) : (s.setApa x).ptb = s.ptb := rfl
@[simp] theorem State.setApa_scu (s : State) (x : Apa) : (s.setApa x).scu = s.scu := rfl
@[simp] theorem State.setApa_cvp (s : State) (x : Apa) : (s.setApa x).cvp = s.cvp := rfl
@[simp] theorem State.setApa_ywc (s : State) (x : Apa) : (s.setApa x).ywc = s.ywc := rfl
@[simp] theorem State.setApa_clc (s : State) (x : Apa) : (s.setApa x).clc = s.clc := rfl
@[simp] theorem State.setApa_cts (s : State) (x : Apa) : (s.setApa x).cts = s.cts := rfl
@[simp] theorem State.setApa_apa (s : State) (x : Apa) : (s.setApa x).apa = x := rfl
@[simp] theorem State.setApa_flm (s : State) (x : Apa) : (s.setApa x).flm = s.flm := rfl
@[simp] theorem State.setApa_osc (s : State) (x : Apa) : (s.setApa x).osc = s.osc := rfl
@[simp] theorem State.setApa_unreceived (s : State) (x : Apa) : (s.setApa x).unreceived = s.unreceived := rfl
@[simp] theorem State.setApa_pending (s : State) (x : Apa) : (s.setApa x).pending = s.pending := rfl
@[simp] theorem State.setApa_self (s : State) : s.setApa s.apa = s := rfl
@[simp] theorem State.setApa_setApa (s : State) (x y : Apa) : (s.setApa x).setApa y = s.setApa y := rfl

/-! ## flm -/

@[simp] theorem State.setFlm_clock (s : State) (x : Flm) : (s.setFlm x).clock = s.clock := rfl
@[simp] theorem State.setFlm_slc (s : State) (x : Flm) : (s.setFlm x).slc = s.slc := rfl
@[simp] theorem State.setFlm_ptb (s : State) (x : Flm) : (s.setFlm x).ptb = s.ptb := rfl
@[simp] theorem State.setFlm_scu (s : State) (x : Flm) : (s.setFlm x).scu = s.scu := rfl
@[simp] theorem State.setFlm_cvp (s : State) (x : Flm) : (s.setFlm x).cvp = s.cvp := rfl
@[simp] theorem State.setFlm_ywc (s : State) (x : Flm) : (s.setFlm x).ywc = s.ywc := rfl
@[simp] theorem State.setFlm_clc (s : State) (x : Flm) : (s.setFlm x).clc = s.clc := rfl
@[simp] theorem State.setFlm_cts (s : State) (x : Flm) : (s.setFlm x).cts = s.cts := rfl
@[simp] theorem State.setFlm_apa (s : State) (x : Flm) : (s.setFlm x).apa = s.apa := rfl
@[simp] theorem State.setFlm_flm (s : State) (x : Flm) : (s.setFlm x).flm = x := rfl
@[simp] theorem State.setFlm_osc (s : State) (x : Flm) : (s.setFlm x).osc = s.osc := rfl
@[simp] theorem State.setFlm_unreceived (s : State) (x : Flm) : (s.setFlm x).unreceived = s.unreceived := rfl
@[simp] theorem State.setFlm_pending (s : State) (x : Flm) : (s.setFlm x).pending = s.pending := rfl
@[simp] theorem State.setFlm_self (s : State) : s.setFlm s.flm = s := rfl
@[simp] theorem State.setFlm_setFlm (s : State) (x y : Flm) : (s.setFlm x).setFlm y = s.setFlm y := rfl

/-! ## osc -/

@[simp] theorem State.setOsc_clock (s : State) (x : Osc) : (s.setOsc x).clock = s.clock := rfl
@[simp] theorem State.setOsc_slc (s : State) (x : Osc) : (s.setOsc x).slc = s.slc := rfl
@[simp] theorem State.setOsc_ptb (s : State) (x : Osc) : (s.setOsc x).ptb = s.ptb := rfl
@[simp] theorem State.setOsc_scu (s : State) (x : Osc) : (s.setOsc x).scu = s.scu := rfl
@[simp] theorem State.setOsc_cvp (s : State) (x : Osc) : (s.setOsc x).cvp = s.cvp := rfl
@[simp] theorem State.setOsc_ywc (s : State) (x : Osc) : (s.setOsc x).ywc = s.ywc := rfl
@[simp] theorem State.setOsc_clc (s : State) (x : Osc) : (s.setOsc x).clc = s.clc := rfl
@[simp] theorem State.setOsc_cts (s : State) (x : Osc) : (s.setOsc x).cts = s.cts := rfl
@[simp] theorem State.setOsc_apa (s : State) (x : Osc) : (s.setOsc x).apa = s.apa := rfl
@[simp] theorem State.setOsc_flm (s : State) (x : Osc) : (s.setOsc x).flm = s.flm := rfl
@[simp] theorem State.setOsc_osc (s : State) (x : Osc) : (s.setOsc x).osc = x := rfl
@[simp] theorem State.setOsc_unreceived (s : State) (x : Osc) : (s.setOsc x).unreceived = s.unreceived := rfl
@[simp] theorem State.setOsc_pending (s : State) (x : Osc) : (s.setOsc x).pending = s.pending := rfl
@[simp] theorem State.setOsc_self (s : State) : s.setOsc s.osc = s := rfl
@[simp] theorem State.setOsc_setOsc (s : State) (x y : Osc) : (s.setOsc x).setOsc y = s.setOsc y := rfl

/-! ## unreceived -/

@[simp] theorem State.setUnreceived_clock (s : State) (x : Nat) : (s.setUnreceived x).clock = s.clock := rfl
@[simp] theorem State.setUnreceived_slc (s : State) (x : Nat) : (s.setUnreceived x).slc = s.slc := rfl
@[simp] theorem State.setUnreceived_ptb (s : State) (x : Nat) : (s.setUnreceived x).ptb = s.ptb := rfl
@[simp] theorem State.setUnreceived_scu (s : State) (x : Nat) : (s.setUnreceived x).scu = s.scu := rfl
@[simp] theorem State.setUnreceived_cvp (s : State) (x : Nat) : (s.setUnreceived x).cvp = s.cvp := rfl
@[simp] theorem State.setUnreceived_ywc (s : State) (x : Nat) : (s.setUnreceived x).ywc = s.ywc := rfl
@[simp] theorem State.setUnreceived_clc (s : State) (x : Nat) : (s.setUnreceived x).clc = s.clc := rfl
@[simp] theorem State.setUnreceived_cts (s : State) (x : Nat) : (s.setUnreceived x).cts = s.cts := rfl
@[simp] theorem State.setUnreceived_apa (s : State) (x : Nat) : (s.setUnreceived x).apa = s.apa := rfl
@[simp] theorem State.setUnreceived_flm (s : State) (x : Nat) : (s.setUnreceived x).flm = s.flm := rfl
@[simp] theorem State.setUnreceived_osc (s : State) (x : Nat) : (s.setUnreceived x).osc = s.osc := rfl
@[simp] theorem State.setUnreceived_unreceived (s : State) (x : Nat) : (s.setUnreceived x).unreceived = x := rfl
@[simp] theorem State.setUnreceived_pending (s : State) (x : Nat) : (s.setUnreceived x).pending = s.pending := rfl
@[simp] theorem State.setUnreceived_self (s : State) : s.setUnreceived s.unreceived = s := rfl
@[simp] theorem State.setUnreceived_setUnreceived (s : State) (x y : Nat) : (s.setUnreceived x).setUnreceived y = s.setUnreceived y := rfl

/-! ## pending -/

@[simp] theorem State.setPending_clock (s : State) (x : List Instr) : (s.setPending x).clock = s.clock := rfl
@[simp] theorem State.setPending_slc (s : State) (x : List Instr) : (s.setPending x).slc = s.slc := rfl
@[simp] theorem State.setPending_ptb (s : State) (x : List Instr) : (s.setPending x).ptb = s.ptb := rfl
@[simp] theorem State.setPending_scu (s : State) (x : List Instr) : (s.setPending x).scu = s.scu := rfl
@[simp] theorem State.setPending_cvp (s : State) (x : List Instr) : (s.setPending x).cvp = s.cvp := rfl
@[simp] theorem State.setPending_ywc (s : State) (x : List Instr) : (s.setPending x).ywc = s.ywc := rfl
@[simp] theorem State.setPending_clc (s : State) (x : List Instr) : (s.setPending x).clc = s.clc := rfl
@[simp] theorem State.setPending_cts (s : State) (x : List Instr) : (s.setPending x).cts = s.cts := rfl
@[simp] theorem State.setPending_apa (s : State) (x : List Instr) : (s.setPending x).apa = s.apa := rfl
@[simp] theorem State.setPending_flm (s : State) (x : List Instr) : (s.setPending x).flm = s.flm := rfl
@[simp] theorem State.setPending_osc (s : State) (x : List Instr) : (s.setPending x).osc = s.osc := rfl
@[simp] theorem State.setPending_unreceived (s : State) (x : List Instr) : (s.setPending x).unreceived = s.unreceived := rfl
@[simp] theorem State.setPending_pending (s : State) (x : List Instr) : (s.setPending x).pending = x := rfl
@[simp] theorem State.setPending_self (s : State) : s.setPending s.pending = s := rfl
@[simp] theorem State.setPending_setPending (s : State) (x y : List Instr) : (s.setPending x).setPending y = s.setPending y := rfl

/-! ## The clock -/

@[simp] theorem State.elapse_clock (dt : Clocks) (s : State) : (s.elapse dt).clock = s.clock + dt := rfl
@[simp] theorem State.elapse_slc (dt : Clocks) (s : State) : (s.elapse dt).slc = s.slc := rfl
@[simp] theorem State.elapse_ptb (dt : Clocks) (s : State) : (s.elapse dt).ptb = s.ptb := rfl
@[simp] theorem State.elapse_scu (dt : Clocks) (s : State) : (s.elapse dt).scu = s.scu := rfl
@[simp] theorem State.elapse_cvp (dt : Clocks) (s : State) : (s.elapse dt).cvp = s.cvp := rfl
@[simp] theorem State.elapse_ywc (dt : Clocks) (s : State) : (s.elapse dt).ywc = s.ywc := rfl
@[simp] theorem State.elapse_clc (dt : Clocks) (s : State) : (s.elapse dt).clc = s.clc := rfl
@[simp] theorem State.elapse_cts (dt : Clocks) (s : State) : (s.elapse dt).cts = s.cts := rfl
@[simp] theorem State.elapse_apa (dt : Clocks) (s : State) : (s.elapse dt).apa = s.apa := rfl
@[simp] theorem State.elapse_flm (dt : Clocks) (s : State) : (s.elapse dt).flm = s.flm := rfl
@[simp] theorem State.elapse_osc (dt : Clocks) (s : State) : (s.elapse dt).osc = s.osc := rfl
@[simp] theorem State.elapse_unreceived (dt : Clocks) (s : State) : (s.elapse dt).unreceived = s.unreceived := rfl
@[simp] theorem State.elapse_pending (dt : Clocks) (s : State) : (s.elapse dt).pending = s.pending := rfl

@[simp] theorem State.runTo_clock (t : Clocks) (s : State) : (s.runTo t).clock = max s.clock t := rfl
@[simp] theorem State.runTo_slc (t : Clocks) (s : State) : (s.runTo t).slc = s.slc := rfl
@[simp] theorem State.runTo_ptb (t : Clocks) (s : State) : (s.runTo t).ptb = s.ptb := rfl
@[simp] theorem State.runTo_scu (t : Clocks) (s : State) : (s.runTo t).scu = s.scu := rfl
@[simp] theorem State.runTo_cvp (t : Clocks) (s : State) : (s.runTo t).cvp = s.cvp := rfl
@[simp] theorem State.runTo_ywc (t : Clocks) (s : State) : (s.runTo t).ywc = s.ywc := rfl
@[simp] theorem State.runTo_clc (t : Clocks) (s : State) : (s.runTo t).clc = s.clc := rfl
@[simp] theorem State.runTo_cts (t : Clocks) (s : State) : (s.runTo t).cts = s.cts := rfl
@[simp] theorem State.runTo_apa (t : Clocks) (s : State) : (s.runTo t).apa = s.apa := rfl
@[simp] theorem State.runTo_flm (t : Clocks) (s : State) : (s.runTo t).flm = s.flm := rfl
@[simp] theorem State.runTo_osc (t : Clocks) (s : State) : (s.runTo t).osc = s.osc := rfl
@[simp] theorem State.runTo_unreceived (t : Clocks) (s : State) : (s.runTo t).unreceived = s.unreceived := rfl
@[simp] theorem State.runTo_pending (t : Clocks) (s : State) : (s.runTo t).pending = s.pending := rfl

end Sys2Proof.Machine
end

