-- ==== Sys2Proof/Laws/Frames.lean ====
section
/-! SUPPORT. Frames of the shared operations: which parts of the state a report, a move of the APA and a move of the OSC
leave as they are. -/

namespace Sys2Proof.Machine

/-! ## Reports taken by the FLM alone -/

@[simp] theorem State.quiet_clock (s : State) (r : Report) : (s.quiet r).clock = s.clock := rfl
@[simp] theorem State.quiet_slc (s : State) (r : Report) : (s.quiet r).slc = s.slc := rfl
@[simp] theorem State.quiet_ptb (s : State) (r : Report) : (s.quiet r).ptb = s.ptb := rfl
@[simp] theorem State.quiet_scu (s : State) (r : Report) : (s.quiet r).scu = s.scu := rfl
@[simp] theorem State.quiet_cvp (s : State) (r : Report) : (s.quiet r).cvp = s.cvp := rfl
@[simp] theorem State.quiet_ywc (s : State) (r : Report) : (s.quiet r).ywc = s.ywc := rfl
@[simp] theorem State.quiet_clc (s : State) (r : Report) : (s.quiet r).clc = s.clc := rfl
@[simp] theorem State.quiet_cts (s : State) (r : Report) : (s.quiet r).cts = s.cts := rfl
@[simp] theorem State.quiet_apa (s : State) (r : Report) : (s.quiet r).apa = s.apa := rfl
@[simp] theorem State.quiet_osc (s : State) (r : Report) : (s.quiet r).osc = s.osc := rfl
@[simp] theorem State.quiet_unreceived (s : State) (r : Report) : (s.quiet r).unreceived = s.unreceived := rfl
@[simp] theorem State.quiet_pending (s : State) (r : Report) : (s.quiet r).pending = s.pending := rfl

@[simp] theorem State.quietGone_clock (s : State) (c : FaultCode) : (s.quietGone c).clock = s.clock := by
  simp only [State.quietGone]; split <;> simp
@[simp] theorem State.quietGone_slc (s : State) (c : FaultCode) : (s.quietGone c).slc = s.slc := by
  simp only [State.quietGone]; split <;> simp
@[simp] theorem State.quietGone_ptb (s : State) (c : FaultCode) : (s.quietGone c).ptb = s.ptb := by
  simp only [State.quietGone]; split <;> simp
@[simp] theorem State.quietGone_scu (s : State) (c : FaultCode) : (s.quietGone c).scu = s.scu := by
  simp only [State.quietGone]; split <;> simp
@[simp] theorem State.quietGone_cvp (s : State) (c : FaultCode) : (s.quietGone c).cvp = s.cvp := by
  simp only [State.quietGone]; split <;> simp
@[simp] theorem State.quietGone_ywc (s : State) (c : FaultCode) : (s.quietGone c).ywc = s.ywc := by
  simp only [State.quietGone]; split <;> simp
@[simp] theorem State.quietGone_clc (s : State) (c : FaultCode) : (s.quietGone c).clc = s.clc := by
  simp only [State.quietGone]; split <;> simp
@[simp] theorem State.quietGone_cts (s : State) (c : FaultCode) : (s.quietGone c).cts = s.cts := by
  simp only [State.quietGone]; split <;> simp
@[simp] theorem State.quietGone_apa (s : State) (c : FaultCode) : (s.quietGone c).apa = s.apa := by
  simp only [State.quietGone]; split <;> simp
@[simp] theorem State.quietGone_osc (s : State) (c : FaultCode) : (s.quietGone c).osc = s.osc := by
  simp only [State.quietGone]; split <;> simp
@[simp] theorem State.quietGone_unreceived (s : State) (c : FaultCode) : (s.quietGone c).unreceived = s.unreceived := by
  simp only [State.quietGone]; split <;> simp
@[simp] theorem State.quietGone_pending (s : State) (c : FaultCode) : (s.quietGone c).pending = s.pending := by
  simp only [State.quietGone]; split <;> simp

/-! ## Setpoint blocks -/

@[simp] theorem State.handBlock_clock (s : State) (e : Bool) (n : Nat) : (s.handBlock e n).clock = s.clock := rfl
@[simp] theorem State.handBlock_slc (s : State) (e : Bool) (n : Nat) : (s.handBlock e n).slc = s.slc := rfl
@[simp] theorem State.handBlock_ptb (s : State) (e : Bool) (n : Nat) : (s.handBlock e n).ptb = s.ptb := rfl
@[simp] theorem State.handBlock_scu (s : State) (e : Bool) (n : Nat) : (s.handBlock e n).scu = s.scu := rfl
@[simp] theorem State.handBlock_ywc (s : State) (e : Bool) (n : Nat) : (s.handBlock e n).ywc = s.ywc := rfl
@[simp] theorem State.handBlock_clc (s : State) (e : Bool) (n : Nat) : (s.handBlock e n).clc = s.clc := rfl
@[simp] theorem State.handBlock_cts (s : State) (e : Bool) (n : Nat) : (s.handBlock e n).cts = s.cts := rfl
@[simp] theorem State.handBlock_apa (s : State) (e : Bool) (n : Nat) : (s.handBlock e n).apa = s.apa := rfl
@[simp] theorem State.handBlock_flm (s : State) (e : Bool) (n : Nat) : (s.handBlock e n).flm = s.flm := rfl
@[simp] theorem State.handBlock_osc (s : State) (e : Bool) (n : Nat) : (s.handBlock e n).osc = s.osc := rfl
@[simp] theorem State.handBlock_unreceived (s : State) (e : Bool) (n : Nat) : (s.handBlock e n).unreceived = s.unreceived := rfl
@[simp] theorem State.handBlock_pending (s : State) (e : Bool) (n : Nat) : (s.handBlock e n).pending = s.pending := rfl

/-! ## The extra block -/

@[simp] theorem State.extraBlock_clock (s : State) : (s.extraBlock).clock = s.clock := rfl
@[simp] theorem State.extraBlock_slc (s : State) : (s.extraBlock).slc = s.slc := rfl
@[simp] theorem State.extraBlock_ptb (s : State) : (s.extraBlock).ptb = s.ptb := rfl
@[simp] theorem State.extraBlock_ywc (s : State) : (s.extraBlock).ywc = s.ywc := rfl
@[simp] theorem State.extraBlock_clc (s : State) : (s.extraBlock).clc = s.clc := rfl
@[simp] theorem State.extraBlock_cts (s : State) : (s.extraBlock).cts = s.cts := rfl
@[simp] theorem State.extraBlock_apa (s : State) : (s.extraBlock).apa = s.apa := rfl
@[simp] theorem State.extraBlock_flm (s : State) : (s.extraBlock).flm = s.flm := rfl
@[simp] theorem State.extraBlock_osc (s : State) : (s.extraBlock).osc = s.osc := rfl
@[simp] theorem State.extraBlock_unreceived (s : State) : (s.extraBlock).unreceived = s.unreceived := rfl
@[simp] theorem State.extraBlock_pending (s : State) : (s.extraBlock).pending = s.pending := rfl

/-! ## The enable -/

@[simp] theorem State.enableOff_clock (s : State) : (s.enableOff).clock = s.clock := by
  simp only [State.enableOff]; split <;> simp
@[simp] theorem State.enableOff_slc (s : State) : (s.enableOff).slc = s.slc := by
  simp only [State.enableOff]; split <;> simp
@[simp] theorem State.enableOff_ptb (s : State) : (s.enableOff).ptb = s.ptb := by
  simp only [State.enableOff]; split <;> simp
@[simp] theorem State.enableOff_ywc (s : State) : (s.enableOff).ywc = s.ywc := by
  simp only [State.enableOff]; split <;> simp
@[simp] theorem State.enableOff_clc (s : State) : (s.enableOff).clc = s.clc := by
  simp only [State.enableOff]; split <;> simp
@[simp] theorem State.enableOff_cts (s : State) : (s.enableOff).cts = s.cts := by
  simp only [State.enableOff]; split <;> simp
@[simp] theorem State.enableOff_apa (s : State) : (s.enableOff).apa = s.apa := by
  simp only [State.enableOff]; split <;> simp
@[simp] theorem State.enableOff_flm (s : State) : (s.enableOff).flm = s.flm := by
  simp only [State.enableOff]; split <;> simp
@[simp] theorem State.enableOff_unreceived (s : State) : (s.enableOff).unreceived = s.unreceived := by
  simp only [State.enableOff]; split <;> simp
@[simp] theorem State.enableOff_pending (s : State) : (s.enableOff).pending = s.pending := by
  simp only [State.enableOff]; split <;> simp

/-! ## Fans -/

@[simp] theorem State.stopFan_clock (s : State) : (s.stopFan).clock = s.clock := by
  simp only [State.stopFan]; split <;> simp
@[simp] theorem State.stopFan_slc (s : State) : (s.stopFan).slc = s.slc := by
  simp only [State.stopFan]; split <;> simp
@[simp] theorem State.stopFan_ptb (s : State) : (s.stopFan).ptb = s.ptb := by
  simp only [State.stopFan]; split <;> simp
@[simp] theorem State.stopFan_scu (s : State) : (s.stopFan).scu = s.scu := by
  simp only [State.stopFan]; split <;> simp
@[simp] theorem State.stopFan_cvp (s : State) : (s.stopFan).cvp = s.cvp := by
  simp only [State.stopFan]; split <;> simp
@[simp] theorem State.stopFan_ywc (s : State) : (s.stopFan).ywc = s.ywc := by
  simp only [State.stopFan]; split <;> simp
@[simp] theorem State.stopFan_cts (s : State) : (s.stopFan).cts = s.cts := by
  simp only [State.stopFan]; split <;> simp
@[simp] theorem State.stopFan_apa (s : State) : (s.stopFan).apa = s.apa := by
  simp only [State.stopFan]; split <;> simp
@[simp] theorem State.stopFan_flm (s : State) : (s.stopFan).flm = s.flm := by
  simp only [State.stopFan]; split <;> simp
@[simp] theorem State.stopFan_osc (s : State) : (s.stopFan).osc = s.osc := by
  simp only [State.stopFan]; split <;> simp
@[simp] theorem State.stopFan_unreceived (s : State) : (s.stopFan).unreceived = s.unreceived := by
  simp only [State.stopFan]; split <;> simp
@[simp] theorem State.stopFan_pending (s : State) : (s.stopFan).pending = s.pending := by
  simp only [State.stopFan]; split <;> simp

/-! ## The arbiter and the yaw states -/

@[simp] theorem State.grantFan_clock (s : State) : (s.grantFan).clock = s.clock := by
  simp only [State.grantFan]; split <;> simp
@[simp] theorem State.grantFan_slc (s : State) : (s.grantFan).slc = s.slc := by
  simp only [State.grantFan]; split <;> simp
@[simp] theorem State.grantFan_ptb (s : State) : (s.grantFan).ptb = s.ptb := by
  simp only [State.grantFan]; split <;> simp
@[simp] theorem State.grantFan_scu (s : State) : (s.grantFan).scu = s.scu := by
  simp only [State.grantFan]; split <;> simp
@[simp] theorem State.grantFan_cvp (s : State) : (s.grantFan).cvp = s.cvp := by
  simp only [State.grantFan]; split <;> simp
@[simp] theorem State.grantFan_cts (s : State) : (s.grantFan).cts = s.cts := by
  simp only [State.grantFan]; split <;> simp
@[simp] theorem State.grantFan_osc (s : State) : (s.grantFan).osc = s.osc := by
  simp only [State.grantFan]; split <;> simp
@[simp] theorem State.grantFan_unreceived (s : State) : (s.grantFan).unreceived = s.unreceived := by
  simp only [State.grantFan]; split <;> simp
@[simp] theorem State.grantFan_pending (s : State) : (s.grantFan).pending = s.pending := by
  simp only [State.grantFan]; split <;> simp

@[simp] theorem State.tryFan_clock (s : State) : (s.tryFan).clock = s.clock := by
  simp only [State.tryFan]; split <;> simp
@[simp] theorem State.tryFan_slc (s : State) : (s.tryFan).slc = s.slc := by
  simp only [State.tryFan]; split <;> simp
@[simp] theorem State.tryFan_ptb (s : State) : (s.tryFan).ptb = s.ptb := by
  simp only [State.tryFan]; split <;> simp
@[simp] theorem State.tryFan_scu (s : State) : (s.tryFan).scu = s.scu := by
  simp only [State.tryFan]; split <;> simp
@[simp] theorem State.tryFan_cvp (s : State) : (s.tryFan).cvp = s.cvp := by
  simp only [State.tryFan]; split <;> simp
@[simp] theorem State.tryFan_cts (s : State) : (s.tryFan).cts = s.cts := by
  simp only [State.tryFan]; split <;> simp
@[simp] theorem State.tryFan_osc (s : State) : (s.tryFan).osc = s.osc := by
  simp only [State.tryFan]; split <;> simp
@[simp] theorem State.tryFan_unreceived (s : State) : (s.tryFan).unreceived = s.unreceived := by
  simp only [State.tryFan]; split <;> simp
@[simp] theorem State.tryFan_pending (s : State) : (s.tryFan).pending = s.pending := by
  simp only [State.tryFan]; split <;> simp

@[simp] theorem State.grantYaw_clock (s : State) (k : Nat) : (s.grantYaw k).clock = s.clock := by simp [State.grantYaw]
@[simp] theorem State.grantYaw_slc (s : State) (k : Nat) : (s.grantYaw k).slc = s.slc := by simp [State.grantYaw]
@[simp] theorem State.grantYaw_ptb (s : State) (k : Nat) : (s.grantYaw k).ptb = s.ptb := by simp [State.grantYaw]
@[simp] theorem State.grantYaw_scu (s : State) (k : Nat) : (s.grantYaw k).scu = s.scu := by simp [State.grantYaw]
@[simp] theorem State.grantYaw_cvp (s : State) (k : Nat) : (s.grantYaw k).cvp = s.cvp := by simp [State.grantYaw]
@[simp] theorem State.grantYaw_cts (s : State) (k : Nat) : (s.grantYaw k).cts = s.cts := by simp [State.grantYaw]
@[simp] theorem State.grantYaw_osc (s : State) (k : Nat) : (s.grantYaw k).osc = s.osc := by simp [State.grantYaw]
@[simp] theorem State.grantYaw_unreceived (s : State) (k : Nat) : (s.grantYaw k).unreceived = s.unreceived := by simp [State.grantYaw]
@[simp] theorem State.grantYaw_pending (s : State) (k : Nat) : (s.grantYaw k).pending = s.pending := by simp [State.grantYaw]

@[simp] theorem State.tryYaw_clock (s : State) : (s.tryYaw).clock = s.clock := by
  simp only [State.tryYaw]; split <;> simp
@[simp] theorem State.tryYaw_slc (s : State) : (s.tryYaw).slc = s.slc := by
  simp only [State.tryYaw]; split <;> simp
@[simp] theorem State.tryYaw_ptb (s : State) : (s.tryYaw).ptb = s.ptb := by
  simp only [State.tryYaw]; split <;> simp
@[simp] theorem State.tryYaw_scu (s : State) : (s.tryYaw).scu = s.scu := by
  simp only [State.tryYaw]; split <;> simp
@[simp] theorem State.tryYaw_cvp (s : State) : (s.tryYaw).cvp = s.cvp := by
  simp only [State.tryYaw]; split <;> simp
@[simp] theorem State.tryYaw_cts (s : State) : (s.tryYaw).cts = s.cts := by
  simp only [State.tryYaw]; split <;> simp
@[simp] theorem State.tryYaw_osc (s : State) : (s.tryYaw).osc = s.osc := by
  simp only [State.tryYaw]; split <;> simp
@[simp] theorem State.tryYaw_unreceived (s : State) : (s.tryYaw).unreceived = s.unreceived := by
  simp only [State.tryYaw]; split <;> simp
@[simp] theorem State.tryYaw_pending (s : State) : (s.tryYaw).pending = s.pending := by
  simp only [State.tryYaw]; split <;> simp

@[simp] theorem State.tryRequests_clock (s : State) : (s.tryRequests).clock = s.clock := by
  simp only [State.tryRequests]; split <;> simp
@[simp] theorem State.tryRequests_slc (s : State) : (s.tryRequests).slc = s.slc := by
  simp only [State.tryRequests]; split <;> simp
@[simp] theorem State.tryRequests_ptb (s : State) : (s.tryRequests).ptb = s.ptb := by
  simp only [State.tryRequests]; split <;> simp
@[simp] theorem State.tryRequests_scu (s : State) : (s.tryRequests).scu = s.scu := by
  simp only [State.tryRequests]; split <;> simp
@[simp] theorem State.tryRequests_cvp (s : State) : (s.tryRequests).cvp = s.cvp := by
  simp only [State.tryRequests]; split <;> simp
@[simp] theorem State.tryRequests_cts (s : State) : (s.tryRequests).cts = s.cts := by
  simp only [State.tryRequests]; split <;> simp
@[simp] theorem State.tryRequests_osc (s : State) : (s.tryRequests).osc = s.osc := by
  simp only [State.tryRequests]; split <;> simp
@[simp] theorem State.tryRequests_unreceived (s : State) : (s.tryRequests).unreceived = s.unreceived := by
  simp only [State.tryRequests]; split <;> simp
@[simp] theorem State.tryRequests_pending (s : State) : (s.tryRequests).pending = s.pending := by
  simp only [State.tryRequests]; split <;> simp

@[simp] theorem State.takeBackFans_clock (s : State) (n : Nat) : (s.takeBackFans n).clock = s.clock := by
  induction n generalizing s with
  | zero => rfl
  | succ n ih => simp only [State.takeBackFans]; split <;> simp [ih]
@[simp] theorem State.takeBackFans_slc (s : State) (n : Nat) : (s.takeBackFans n).slc = s.slc := by
  induction n generalizing s with
  | zero => rfl
  | succ n ih => simp only [State.takeBackFans]; split <;> simp [ih]
@[simp] theorem State.takeBackFans_ptb (s : State) (n : Nat) : (s.takeBackFans n).ptb = s.ptb := by
  induction n generalizing s with
  | zero => rfl
  | succ n ih => simp only [State.takeBackFans]; split <;> simp [ih]
@[simp] theorem State.takeBackFans_scu (s : State) (n : Nat) : (s.takeBackFans n).scu = s.scu := by
  induction n generalizing s with
  | zero => rfl
  | succ n ih => simp only [State.takeBackFans]; split <;> simp [ih]
@[simp] theorem State.takeBackFans_cvp (s : State) (n : Nat) : (s.takeBackFans n).cvp = s.cvp := by
  induction n generalizing s with
  | zero => rfl
  | succ n ih => simp only [State.takeBackFans]; split <;> simp [ih]
@[simp] theorem State.takeBackFans_cts (s : State) (n : Nat) : (s.takeBackFans n).cts = s.cts := by
  induction n generalizing s with
  | zero => rfl
  | succ n ih => simp only [State.takeBackFans]; split <;> simp [ih]
@[simp] theorem State.takeBackFans_osc (s : State) (n : Nat) : (s.takeBackFans n).osc = s.osc := by
  induction n generalizing s with
  | zero => rfl
  | succ n ih => simp only [State.takeBackFans]; split <;> simp [ih]
@[simp] theorem State.takeBackFans_unreceived (s : State) (n : Nat) : (s.takeBackFans n).unreceived = s.unreceived := by
  induction n generalizing s with
  | zero => rfl
  | succ n ih => simp only [State.takeBackFans]; split <;> simp [ih]
@[simp] theorem State.takeBackFans_pending (s : State) (n : Nat) : (s.takeBackFans n).pending = s.pending := by
  induction n generalizing s with
  | zero => rfl
  | succ n ih => simp only [State.takeBackFans]; split <;> simp [ih]

@[simp] theorem State.shed_clock (s : State) : (s.shed).clock = s.clock := by simp [State.shed]
@[simp] theorem State.shed_slc (s : State) : (s.shed).slc = s.slc := by simp [State.shed]
@[simp] theorem State.shed_ptb (s : State) : (s.shed).ptb = s.ptb := by simp [State.shed]
@[simp] theorem State.shed_scu (s : State) : (s.shed).scu = s.scu := by simp [State.shed]
@[simp] theorem State.shed_cvp (s : State) : (s.shed).cvp = s.cvp := by simp [State.shed]
@[simp] theorem State.shed_cts (s : State) : (s.shed).cts = s.cts := by simp [State.shed]
@[simp] theorem State.shed_osc (s : State) : (s.shed).osc = s.osc := by simp [State.shed]
@[simp] theorem State.shed_unreceived (s : State) : (s.shed).unreceived = s.unreceived := by simp [State.shed]
@[simp] theorem State.shed_pending (s : State) : (s.shed).pending = s.pending := by simp [State.shed]

@[simp] theorem State.yawToIdle_clock (s : State) : (s.yawToIdle).clock = s.clock := by
  simp only [State.yawToIdle]; split <;> simp
@[simp] theorem State.yawToIdle_slc (s : State) : (s.yawToIdle).slc = s.slc := by
  simp only [State.yawToIdle]; split <;> simp
@[simp] theorem State.yawToIdle_ptb (s : State) : (s.yawToIdle).ptb = s.ptb := by
  simp only [State.yawToIdle]; split <;> simp
@[simp] theorem State.yawToIdle_scu (s : State) : (s.yawToIdle).scu = s.scu := by
  simp only [State.yawToIdle]; split <;> simp
@[simp] theorem State.yawToIdle_cvp (s : State) : (s.yawToIdle).cvp = s.cvp := by
  simp only [State.yawToIdle]; split <;> simp
@[simp] theorem State.yawToIdle_cts (s : State) : (s.yawToIdle).cts = s.cts := by
  simp only [State.yawToIdle]; split <;> simp
@[simp] theorem State.yawToIdle_osc (s : State) : (s.yawToIdle).osc = s.osc := by
  simp only [State.yawToIdle]; split <;> simp
@[simp] theorem State.yawToIdle_unreceived (s : State) : (s.yawToIdle).unreceived = s.unreceived := by
  simp only [State.yawToIdle]; split <;> simp
@[simp] theorem State.yawToIdle_pending (s : State) : (s.yawToIdle).pending = s.pending := by
  simp only [State.yawToIdle]; split <;> simp

@[simp] theorem State.releaseYaw_clock (s : State) : (s.releaseYaw).clock = s.clock := by
  simp only [State.releaseYaw]; split <;> simp
@[simp] theorem State.releaseYaw_slc (s : State) : (s.releaseYaw).slc = s.slc := by
  simp only [State.releaseYaw]; split <;> simp
@[simp] theorem State.releaseYaw_ptb (s : State) : (s.releaseYaw).ptb = s.ptb := by
  simp only [State.releaseYaw]; split <;> simp
@[simp] theorem State.releaseYaw_scu (s : State) : (s.releaseYaw).scu = s.scu := by
  simp only [State.releaseYaw]; split <;> simp
@[simp] theorem State.releaseYaw_cvp (s : State) : (s.releaseYaw).cvp = s.cvp := by
  simp only [State.releaseYaw]; split <;> simp
@[simp] theorem State.releaseYaw_cts (s : State) : (s.releaseYaw).cts = s.cts := by
  simp only [State.releaseYaw]; split <;> simp
@[simp] theorem State.releaseYaw_osc (s : State) : (s.releaseYaw).osc = s.osc := by
  simp only [State.releaseYaw]; split <;> simp
@[simp] theorem State.releaseYaw_unreceived (s : State) : (s.releaseYaw).unreceived = s.unreceived := by
  simp only [State.releaseYaw]; split <;> simp
@[simp] theorem State.releaseYaw_pending (s : State) : (s.releaseYaw).pending = s.pending := by
  simp only [State.releaseYaw]; split <;> simp

@[simp] theorem State.endMove_clock (s : State) : (s.endMove).clock = s.clock := by simp [State.endMove]
@[simp] theorem State.endMove_slc (s : State) : (s.endMove).slc = s.slc := by simp [State.endMove]
@[simp] theorem State.endMove_ptb (s : State) : (s.endMove).ptb = s.ptb := by simp [State.endMove]
@[simp] theorem State.endMove_scu (s : State) : (s.endMove).scu = s.scu := by simp [State.endMove]
@[simp] theorem State.endMove_cvp (s : State) : (s.endMove).cvp = s.cvp := by simp [State.endMove]
@[simp] theorem State.endMove_cts (s : State) : (s.endMove).cts = s.cts := by simp [State.endMove]
@[simp] theorem State.endMove_osc (s : State) : (s.endMove).osc = s.osc := by simp [State.endMove]
@[simp] theorem State.endMove_unreceived (s : State) : (s.endMove).unreceived = s.unreceived := by simp [State.endMove]
@[simp] theorem State.endMove_pending (s : State) : (s.endMove).pending = s.pending := by simp [State.endMove]

@[simp] theorem State.enterBrakeApply_clock (s : State) : (s.enterBrakeApply).clock = s.clock := by
  simp only [State.enterBrakeApply]; split <;> simp
@[simp] theorem State.enterBrakeApply_slc (s : State) : (s.enterBrakeApply).slc = s.slc := by
  simp only [State.enterBrakeApply]; split <;> simp
@[simp] theorem State.enterBrakeApply_ptb (s : State) : (s.enterBrakeApply).ptb = s.ptb := by
  simp only [State.enterBrakeApply]; split <;> simp
@[simp] theorem State.enterBrakeApply_scu (s : State) : (s.enterBrakeApply).scu = s.scu := by
  simp only [State.enterBrakeApply]; split <;> simp
@[simp] theorem State.enterBrakeApply_cvp (s : State) : (s.enterBrakeApply).cvp = s.cvp := by
  simp only [State.enterBrakeApply]; split <;> simp
@[simp] theorem State.enterBrakeApply_cts (s : State) : (s.enterBrakeApply).cts = s.cts := by
  simp only [State.enterBrakeApply]; split <;> simp
@[simp] theorem State.enterBrakeApply_osc (s : State) : (s.enterBrakeApply).osc = s.osc := by
  simp only [State.enterBrakeApply]; split <;> simp
@[simp] theorem State.enterBrakeApply_unreceived (s : State) : (s.enterBrakeApply).unreceived = s.unreceived := by
  simp only [State.enterBrakeApply]; split <;> simp
@[simp] theorem State.enterBrakeApply_pending (s : State) : (s.enterBrakeApply).pending = s.pending := by
  simp only [State.enterBrakeApply]; split <;> simp

@[simp] theorem State.withdrawYaw_clock (s : State) : (s.withdrawYaw).clock = s.clock := by simp [State.withdrawYaw]
@[simp] theorem State.withdrawYaw_slc (s : State) : (s.withdrawYaw).slc = s.slc := by simp [State.withdrawYaw]
@[simp] theorem State.withdrawYaw_ptb (s : State) : (s.withdrawYaw).ptb = s.ptb := by simp [State.withdrawYaw]
@[simp] theorem State.withdrawYaw_scu (s : State) : (s.withdrawYaw).scu = s.scu := by simp [State.withdrawYaw]
@[simp] theorem State.withdrawYaw_cvp (s : State) : (s.withdrawYaw).cvp = s.cvp := by simp [State.withdrawYaw]
@[simp] theorem State.withdrawYaw_cts (s : State) : (s.withdrawYaw).cts = s.cts := by simp [State.withdrawYaw]
@[simp] theorem State.withdrawYaw_osc (s : State) : (s.withdrawYaw).osc = s.osc := by simp [State.withdrawYaw]
@[simp] theorem State.withdrawYaw_unreceived (s : State) : (s.withdrawYaw).unreceived = s.unreceived := by simp [State.withdrawYaw]
@[simp] theorem State.withdrawYaw_pending (s : State) : (s.withdrawYaw).pending = s.pending := by simp [State.withdrawYaw]

@[simp] theorem State.yawStopCause_clock (s : State) (b : Bool) : (s.yawStopCause b).clock = s.clock := by
  simp only [State.yawStopCause]
  repeat' split
  all_goals simp
@[simp] theorem State.yawStopCause_slc (s : State) (b : Bool) : (s.yawStopCause b).slc = s.slc := by
  simp only [State.yawStopCause]
  repeat' split
  all_goals simp
@[simp] theorem State.yawStopCause_ptb (s : State) (b : Bool) : (s.yawStopCause b).ptb = s.ptb := by
  simp only [State.yawStopCause]
  repeat' split
  all_goals simp
@[simp] theorem State.yawStopCause_scu (s : State) (b : Bool) : (s.yawStopCause b).scu = s.scu := by
  simp only [State.yawStopCause]
  repeat' split
  all_goals simp
@[simp] theorem State.yawStopCause_cvp (s : State) (b : Bool) : (s.yawStopCause b).cvp = s.cvp := by
  simp only [State.yawStopCause]
  repeat' split
  all_goals simp
@[simp] theorem State.yawStopCause_cts (s : State) (b : Bool) : (s.yawStopCause b).cts = s.cts := by
  simp only [State.yawStopCause]
  repeat' split
  all_goals simp
@[simp] theorem State.yawStopCause_osc (s : State) (b : Bool) : (s.yawStopCause b).osc = s.osc := by
  simp only [State.yawStopCause]
  repeat' split
  all_goals simp
@[simp] theorem State.yawStopCause_unreceived (s : State) (b : Bool) : (s.yawStopCause b).unreceived = s.unreceived := by
  simp only [State.yawStopCause]
  repeat' split
  all_goals simp
@[simp] theorem State.yawStopCause_pending (s : State) (b : Bool) : (s.yawStopCause b).pending = s.pending := by
  simp only [State.yawStopCause]
  repeat' split
  all_goals simp

@[simp] theorem State.overrideStop_clock (s : State) : (s.overrideStop).clock = s.clock := by simp [State.overrideStop]
@[simp] theorem State.overrideStop_slc (s : State) : (s.overrideStop).slc = s.slc := by simp [State.overrideStop]
@[simp] theorem State.overrideStop_ptb (s : State) : (s.overrideStop).ptb = s.ptb := by simp [State.overrideStop]
@[simp] theorem State.overrideStop_scu (s : State) : (s.overrideStop).scu = s.scu := by simp [State.overrideStop]
@[simp] theorem State.overrideStop_cvp (s : State) : (s.overrideStop).cvp = s.cvp := by simp [State.overrideStop]
@[simp] theorem State.overrideStop_cts (s : State) : (s.overrideStop).cts = s.cts := by simp [State.overrideStop]
@[simp] theorem State.overrideStop_osc (s : State) : (s.overrideStop).osc = s.osc := by simp [State.overrideStop]
@[simp] theorem State.overrideStop_unreceived (s : State) : (s.overrideStop).unreceived = s.unreceived := by simp [State.overrideStop]
@[simp] theorem State.overrideStop_pending (s : State) : (s.overrideStop).pending = s.pending := by simp [State.overrideStop]

@[simp] theorem State.examine_clock (s : State) : (s.examine).clock = s.clock := by
  simp only [State.examine]; split <;> simp
@[simp] theorem State.examine_slc (s : State) : (s.examine).slc = s.slc := by
  simp only [State.examine]; split <;> simp
@[simp] theorem State.examine_ptb (s : State) : (s.examine).ptb = s.ptb := by
  simp only [State.examine]; split <;> simp
@[simp] theorem State.examine_scu (s : State) : (s.examine).scu = s.scu := by
  simp only [State.examine]; split <;> simp
@[simp] theorem State.examine_cvp (s : State) : (s.examine).cvp = s.cvp := by
  simp only [State.examine]; split <;> simp
@[simp] theorem State.examine_cts (s : State) : (s.examine).cts = s.cts := by
  simp only [State.examine]; split <;> simp
@[simp] theorem State.examine_osc (s : State) : (s.examine).osc = s.osc := by
  simp only [State.examine]; split <;> simp
@[simp] theorem State.examine_unreceived (s : State) : (s.examine).unreceived = s.unreceived := by
  simp only [State.examine]; split <;> simp
@[simp] theorem State.examine_pending (s : State) : (s.examine).pending = s.pending := by
  simp only [State.examine]; split <;> simp

@[simp] theorem State.releaseFan_clock (s : State) : (s.releaseFan).clock = s.clock := by simp [State.releaseFan]
@[simp] theorem State.releaseFan_slc (s : State) : (s.releaseFan).slc = s.slc := by simp [State.releaseFan]
@[simp] theorem State.releaseFan_ptb (s : State) : (s.releaseFan).ptb = s.ptb := by simp [State.releaseFan]
@[simp] theorem State.releaseFan_scu (s : State) : (s.releaseFan).scu = s.scu := by simp [State.releaseFan]
@[simp] theorem State.releaseFan_cvp (s : State) : (s.releaseFan).cvp = s.cvp := by simp [State.releaseFan]
@[simp] theorem State.releaseFan_cts (s : State) : (s.releaseFan).cts = s.cts := by simp [State.releaseFan]
@[simp] theorem State.releaseFan_osc (s : State) : (s.releaseFan).osc = s.osc := by simp [State.releaseFan]
@[simp] theorem State.releaseFan_unreceived (s : State) : (s.releaseFan).unreceived = s.unreceived := by simp [State.releaseFan]
@[simp] theorem State.releaseFan_pending (s : State) : (s.releaseFan).pending = s.pending := by simp [State.releaseFan]

@[simp] theorem State.releaseFans_clock (s : State) (n : Nat) : (s.releaseFans n).clock = s.clock := by
  induction n generalizing s with
  | zero => rfl
  | succ n ih => simp [State.releaseFans, ih]
@[simp] theorem State.releaseFans_slc (s : State) (n : Nat) : (s.releaseFans n).slc = s.slc := by
  induction n generalizing s with
  | zero => rfl
  | succ n ih => simp [State.releaseFans, ih]
@[simp] theorem State.releaseFans_ptb (s : State) (n : Nat) : (s.releaseFans n).ptb = s.ptb := by
  induction n generalizing s with
  | zero => rfl
  | succ n ih => simp [State.releaseFans, ih]
@[simp] theorem State.releaseFans_scu (s : State) (n : Nat) : (s.releaseFans n).scu = s.scu := by
  induction n generalizing s with
  | zero => rfl
  | succ n ih => simp [State.releaseFans, ih]
@[simp] theorem State.releaseFans_cvp (s : State) (n : Nat) : (s.releaseFans n).cvp = s.cvp := by
  induction n generalizing s with
  | zero => rfl
  | succ n ih => simp [State.releaseFans, ih]
@[simp] theorem State.releaseFans_cts (s : State) (n : Nat) : (s.releaseFans n).cts = s.cts := by
  induction n generalizing s with
  | zero => rfl
  | succ n ih => simp [State.releaseFans, ih]
@[simp] theorem State.releaseFans_osc (s : State) (n : Nat) : (s.releaseFans n).osc = s.osc := by
  induction n generalizing s with
  | zero => rfl
  | succ n ih => simp [State.releaseFans, ih]
@[simp] theorem State.releaseFans_unreceived (s : State) (n : Nat) : (s.releaseFans n).unreceived = s.unreceived := by
  induction n generalizing s with
  | zero => rfl
  | succ n ih => simp [State.releaseFans, ih]
@[simp] theorem State.releaseFans_pending (s : State) (n : Nat) : (s.releaseFans n).pending = s.pending := by
  induction n generalizing s with
  | zero => rfl
  | succ n ih => simp [State.releaseFans, ih]

@[simp] theorem State.apaEnterRideThrough_clock (s : State) : (s.apaEnterRideThrough).clock = s.clock := by
  simp only [State.apaEnterRideThrough]; split <;> simp
@[simp] theorem State.apaEnterRideThrough_slc (s : State) : (s.apaEnterRideThrough).slc = s.slc := by
  simp only [State.apaEnterRideThrough]; split <;> simp
@[simp] theorem State.apaEnterRideThrough_ptb (s : State) : (s.apaEnterRideThrough).ptb = s.ptb := by
  simp only [State.apaEnterRideThrough]; split <;> simp
@[simp] theorem State.apaEnterRideThrough_scu (s : State) : (s.apaEnterRideThrough).scu = s.scu := by
  simp only [State.apaEnterRideThrough]; split <;> simp
@[simp] theorem State.apaEnterRideThrough_cvp (s : State) : (s.apaEnterRideThrough).cvp = s.cvp := by
  simp only [State.apaEnterRideThrough]; split <;> simp
@[simp] theorem State.apaEnterRideThrough_cts (s : State) : (s.apaEnterRideThrough).cts = s.cts := by
  simp only [State.apaEnterRideThrough]; split <;> simp
@[simp] theorem State.apaEnterRideThrough_osc (s : State) : (s.apaEnterRideThrough).osc = s.osc := by
  simp only [State.apaEnterRideThrough]; split <;> simp
@[simp] theorem State.apaEnterRideThrough_unreceived (s : State) : (s.apaEnterRideThrough).unreceived = s.unreceived := by
  simp only [State.apaEnterRideThrough]; split <;> simp
@[simp] theorem State.apaEnterRideThrough_pending (s : State) : (s.apaEnterRideThrough).pending = s.pending := by
  simp only [State.apaEnterRideThrough]; split <;> simp

@[simp] theorem State.apaLeaveRideThrough_clock (s : State) : (s.apaLeaveRideThrough).clock = s.clock := by simp [State.apaLeaveRideThrough]
@[simp] theorem State.apaLeaveRideThrough_slc (s : State) : (s.apaLeaveRideThrough).slc = s.slc := by simp [State.apaLeaveRideThrough]
@[simp] theorem State.apaLeaveRideThrough_ptb (s : State) : (s.apaLeaveRideThrough).ptb = s.ptb := by simp [State.apaLeaveRideThrough]
@[simp] theorem State.apaLeaveRideThrough_scu (s : State) : (s.apaLeaveRideThrough).scu = s.scu := by simp [State.apaLeaveRideThrough]
@[simp] theorem State.apaLeaveRideThrough_cvp (s : State) : (s.apaLeaveRideThrough).cvp = s.cvp := by simp [State.apaLeaveRideThrough]
@[simp] theorem State.apaLeaveRideThrough_cts (s : State) : (s.apaLeaveRideThrough).cts = s.cts := by simp [State.apaLeaveRideThrough]
@[simp] theorem State.apaLeaveRideThrough_osc (s : State) : (s.apaLeaveRideThrough).osc = s.osc := by simp [State.apaLeaveRideThrough]
@[simp] theorem State.apaLeaveRideThrough_unreceived (s : State) : (s.apaLeaveRideThrough).unreceived = s.unreceived := by simp [State.apaLeaveRideThrough]
@[simp] theorem State.apaLeaveRideThrough_pending (s : State) : (s.apaLeaveRideThrough).pending = s.pending := by simp [State.apaLeaveRideThrough]

/-! ## The moves of the OSC -/

@[simp] theorem State.testStart_clock (s : State) : (s.testStart).clock = s.clock := by
  simp only [State.testStart]; split <;> simp
@[simp] theorem State.testStart_slc (s : State) : (s.testStart).slc = s.slc := by
  simp only [State.testStart]; split <;> simp
@[simp] theorem State.testStart_ptb (s : State) : (s.testStart).ptb = s.ptb := by
  simp only [State.testStart]; split <;> simp
@[simp] theorem State.testStart_ywc (s : State) : (s.testStart).ywc = s.ywc := by
  simp only [State.testStart]; split <;> simp
@[simp] theorem State.testStart_clc (s : State) : (s.testStart).clc = s.clc := by
  simp only [State.testStart]; split <;> simp
@[simp] theorem State.testStart_cts (s : State) : (s.testStart).cts = s.cts := by
  simp only [State.testStart]; split <;> simp
@[simp] theorem State.testStart_apa (s : State) : (s.testStart).apa = s.apa := by
  simp only [State.testStart]; split <;> simp
@[simp] theorem State.testStart_unreceived (s : State) : (s.testStart).unreceived = s.unreceived := by
  simp only [State.testStart]; split <;> simp
@[simp] theorem State.testStart_pending (s : State) : (s.testStart).pending = s.pending := by
  simp only [State.testStart]; split <;> simp

@[simp] theorem State.enterStandby_clock (s : State) : (s.enterStandby).clock = s.clock := by simp [State.enterStandby]
@[simp] theorem State.enterStandby_slc (s : State) : (s.enterStandby).slc = s.slc := by simp [State.enterStandby]
@[simp] theorem State.enterStandby_ptb (s : State) : (s.enterStandby).ptb = s.ptb := by simp [State.enterStandby]
@[simp] theorem State.enterStandby_ywc (s : State) : (s.enterStandby).ywc = s.ywc := by simp [State.enterStandby]
@[simp] theorem State.enterStandby_clc (s : State) : (s.enterStandby).clc = s.clc := by simp [State.enterStandby]
@[simp] theorem State.enterStandby_cts (s : State) : (s.enterStandby).cts = s.cts := by simp [State.enterStandby]
@[simp] theorem State.enterStandby_apa (s : State) : (s.enterStandby).apa = s.apa := by simp [State.enterStandby]
@[simp] theorem State.enterStandby_unreceived (s : State) : (s.enterStandby).unreceived = s.unreceived := by simp [State.enterStandby]
@[simp] theorem State.enterStandby_pending (s : State) : (s.enterStandby).pending = s.pending := by simp [State.enterStandby]

@[simp] theorem State.noteTrip_clock (s : State) : (s.noteTrip).clock = s.clock := by
  simp only [State.noteTrip]
  repeat' split
  all_goals simp
@[simp] theorem State.noteTrip_slc (s : State) : (s.noteTrip).slc = s.slc := by
  simp only [State.noteTrip]
  repeat' split
  all_goals simp
@[simp] theorem State.noteTrip_ptb (s : State) : (s.noteTrip).ptb = s.ptb := by
  simp only [State.noteTrip]
  repeat' split
  all_goals simp
@[simp] theorem State.noteTrip_ywc (s : State) : (s.noteTrip).ywc = s.ywc := by
  simp only [State.noteTrip]
  repeat' split
  all_goals simp
@[simp] theorem State.noteTrip_clc (s : State) : (s.noteTrip).clc = s.clc := by
  simp only [State.noteTrip]
  repeat' split
  all_goals simp
@[simp] theorem State.noteTrip_cts (s : State) : (s.noteTrip).cts = s.cts := by
  simp only [State.noteTrip]
  repeat' split
  all_goals simp
@[simp] theorem State.noteTrip_apa (s : State) : (s.noteTrip).apa = s.apa := by
  simp only [State.noteTrip]
  repeat' split
  all_goals simp
@[simp] theorem State.noteTrip_unreceived (s : State) : (s.noteTrip).unreceived = s.unreceived := by
  simp only [State.noteTrip]
  repeat' split
  all_goals simp
@[simp] theorem State.noteTrip_pending (s : State) : (s.noteTrip).pending = s.pending := by
  simp only [State.noteTrip]
  repeat' split
  all_goals simp

@[simp] theorem State.enterTripped_clock (s : State) : (s.enterTripped).clock = s.clock := by simp [State.enterTripped]
@[simp] theorem State.enterTripped_slc (s : State) : (s.enterTripped).slc = s.slc := by simp [State.enterTripped]
@[simp] theorem State.enterTripped_ptb (s : State) : (s.enterTripped).ptb = s.ptb := by simp [State.enterTripped]
@[simp] theorem State.enterTripped_ywc (s : State) : (s.enterTripped).ywc = s.ywc := by simp [State.enterTripped]
@[simp] theorem State.enterTripped_clc (s : State) : (s.enterTripped).clc = s.clc := by simp [State.enterTripped]
@[simp] theorem State.enterTripped_cts (s : State) : (s.enterTripped).cts = s.cts := by simp [State.enterTripped]
@[simp] theorem State.enterTripped_apa (s : State) : (s.enterTripped).apa = s.apa := by simp [State.enterTripped]
@[simp] theorem State.enterTripped_unreceived (s : State) : (s.enterTripped).unreceived = s.unreceived := by simp [State.enterTripped]
@[simp] theorem State.enterTripped_pending (s : State) : (s.enterTripped).pending = s.pending := by simp [State.enterTripped]

@[simp] theorem State.oscTripHolds_clock (s : State) : (s.oscTripHolds).clock = s.clock := by
  simp only [State.oscTripHolds]
  repeat' split
  all_goals simp
@[simp] theorem State.oscTripHolds_slc (s : State) : (s.oscTripHolds).slc = s.slc := by
  simp only [State.oscTripHolds]
  repeat' split
  all_goals simp
@[simp] theorem State.oscTripHolds_ptb (s : State) : (s.oscTripHolds).ptb = s.ptb := by
  simp only [State.oscTripHolds]
  repeat' split
  all_goals simp
@[simp] theorem State.oscTripHolds_ywc (s : State) : (s.oscTripHolds).ywc = s.ywc := by
  simp only [State.oscTripHolds]
  repeat' split
  all_goals simp
@[simp] theorem State.oscTripHolds_clc (s : State) : (s.oscTripHolds).clc = s.clc := by
  simp only [State.oscTripHolds]
  repeat' split
  all_goals simp
@[simp] theorem State.oscTripHolds_cts (s : State) : (s.oscTripHolds).cts = s.cts := by
  simp only [State.oscTripHolds]
  repeat' split
  all_goals simp
@[simp] theorem State.oscTripHolds_apa (s : State) : (s.oscTripHolds).apa = s.apa := by
  simp only [State.oscTripHolds]
  repeat' split
  all_goals simp
@[simp] theorem State.oscTripHolds_unreceived (s : State) : (s.oscTripHolds).unreceived = s.unreceived := by
  simp only [State.oscTripHolds]
  repeat' split
  all_goals simp
@[simp] theorem State.oscTripHolds_pending (s : State) : (s.oscTripHolds).pending = s.pending := by
  simp only [State.oscTripHolds]
  repeat' split
  all_goals simp

@[simp] theorem State.oscTripCeases_clock (s : State) : (s.oscTripCeases).clock = s.clock := by
  simp only [State.oscTripCeases]; split <;> simp
@[simp] theorem State.oscTripCeases_slc (s : State) : (s.oscTripCeases).slc = s.slc := by
  simp only [State.oscTripCeases]; split <;> simp
@[simp] theorem State.oscTripCeases_ptb (s : State) : (s.oscTripCeases).ptb = s.ptb := by
  simp only [State.oscTripCeases]; split <;> simp
@[simp] theorem State.oscTripCeases_ywc (s : State) : (s.oscTripCeases).ywc = s.ywc := by
  simp only [State.oscTripCeases]; split <;> simp
@[simp] theorem State.oscTripCeases_clc (s : State) : (s.oscTripCeases).clc = s.clc := by
  simp only [State.oscTripCeases]; split <;> simp
@[simp] theorem State.oscTripCeases_cts (s : State) : (s.oscTripCeases).cts = s.cts := by
  simp only [State.oscTripCeases]; split <;> simp
@[simp] theorem State.oscTripCeases_apa (s : State) : (s.oscTripCeases).apa = s.apa := by
  simp only [State.oscTripCeases]; split <;> simp
@[simp] theorem State.oscTripCeases_unreceived (s : State) : (s.oscTripCeases).unreceived = s.unreceived := by
  simp only [State.oscTripCeases]; split <;> simp
@[simp] theorem State.oscTripCeases_pending (s : State) : (s.oscTripCeases).pending = s.pending := by
  simp only [State.oscTripCeases]; split <;> simp

@[simp] theorem State.oscSafeStopHolds_clock (s : State) : (s.oscSafeStopHolds).clock = s.clock := by
  simp only [State.oscSafeStopHolds]; split <;> simp
@[simp] theorem State.oscSafeStopHolds_slc (s : State) : (s.oscSafeStopHolds).slc = s.slc := by
  simp only [State.oscSafeStopHolds]; split <;> simp
@[simp] theorem State.oscSafeStopHolds_ptb (s : State) : (s.oscSafeStopHolds).ptb = s.ptb := by
  simp only [State.oscSafeStopHolds]; split <;> simp
@[simp] theorem State.oscSafeStopHolds_ywc (s : State) : (s.oscSafeStopHolds).ywc = s.ywc := by
  simp only [State.oscSafeStopHolds]; split <;> simp
@[simp] theorem State.oscSafeStopHolds_clc (s : State) : (s.oscSafeStopHolds).clc = s.clc := by
  simp only [State.oscSafeStopHolds]; split <;> simp
@[simp] theorem State.oscSafeStopHolds_cts (s : State) : (s.oscSafeStopHolds).cts = s.cts := by
  simp only [State.oscSafeStopHolds]; split <;> simp
@[simp] theorem State.oscSafeStopHolds_apa (s : State) : (s.oscSafeStopHolds).apa = s.apa := by
  simp only [State.oscSafeStopHolds]; split <;> simp
@[simp] theorem State.oscSafeStopHolds_unreceived (s : State) : (s.oscSafeStopHolds).unreceived = s.unreceived := by
  simp only [State.oscSafeStopHolds]; split <;> simp
@[simp] theorem State.oscSafeStopHolds_pending (s : State) : (s.oscSafeStopHolds).pending = s.pending := by
  simp only [State.oscSafeStopHolds]; split <;> simp

/-! ## Reports and what they tell -/

@[simp] theorem State.tell_clock (s : State) (b : Reaction) : (s.tell b).clock = s.clock := by
  simp only [State.tell]
  repeat' split
  all_goals simp
@[simp] theorem State.tell_slc (s : State) (b : Reaction) : (s.tell b).slc = s.slc := by
  simp only [State.tell]
  repeat' split
  all_goals simp
@[simp] theorem State.tell_ptb (s : State) (b : Reaction) : (s.tell b).ptb = s.ptb := by
  simp only [State.tell]
  repeat' split
  all_goals simp
@[simp] theorem State.tell_cts (s : State) (b : Reaction) : (s.tell b).cts = s.cts := by
  simp only [State.tell]
  repeat' split
  all_goals simp
@[simp] theorem State.tell_unreceived (s : State) (b : Reaction) : (s.tell b).unreceived = s.unreceived := by
  simp only [State.tell]
  repeat' split
  all_goals simp
@[simp] theorem State.tell_pending (s : State) (b : Reaction) : (s.tell b).pending = s.pending := by
  simp only [State.tell]
  repeat' split
  all_goals simp

@[simp] theorem State.report_clock (s : State) (r : Report) : (s.report r).clock = s.clock := by simp [State.report]
@[simp] theorem State.report_slc (s : State) (r : Report) : (s.report r).slc = s.slc := by simp [State.report]
@[simp] theorem State.report_ptb (s : State) (r : Report) : (s.report r).ptb = s.ptb := by simp [State.report]
@[simp] theorem State.report_cts (s : State) (r : Report) : (s.report r).cts = s.cts := by simp [State.report]
@[simp] theorem State.report_unreceived (s : State) (r : Report) : (s.report r).unreceived = s.unreceived := by simp [State.report]
@[simp] theorem State.report_pending (s : State) (r : Report) : (s.report r).pending = s.pending := by simp [State.report]

@[simp] theorem State.reportGone_clock (s : State) (c : FaultCode) : (s.reportGone c).clock = s.clock := by
  simp only [State.reportGone]; split <;> simp
@[simp] theorem State.reportGone_slc (s : State) (c : FaultCode) : (s.reportGone c).slc = s.slc := by
  simp only [State.reportGone]; split <;> simp
@[simp] theorem State.reportGone_ptb (s : State) (c : FaultCode) : (s.reportGone c).ptb = s.ptb := by
  simp only [State.reportGone]; split <;> simp
@[simp] theorem State.reportGone_cts (s : State) (c : FaultCode) : (s.reportGone c).cts = s.cts := by
  simp only [State.reportGone]; split <;> simp
@[simp] theorem State.reportGone_unreceived (s : State) (c : FaultCode) : (s.reportGone c).unreceived = s.unreceived := by
  simp only [State.reportGone]; split <;> simp
@[simp] theorem State.reportGone_pending (s : State) (c : FaultCode) : (s.reportGone c).pending = s.pending := by
  simp only [State.reportGone]; split <;> simp

@[simp] theorem State.reportBitmap_clock (s : State) (c : FaultCode) (a b : Nat) : (s.reportBitmap c a b).clock = s.clock := by
  simp only [State.reportBitmap]
  repeat' split
  all_goals simp
@[simp] theorem State.reportBitmap_slc (s : State) (c : FaultCode) (a b : Nat) : (s.reportBitmap c a b).slc = s.slc := by
  simp only [State.reportBitmap]
  repeat' split
  all_goals simp
@[simp] theorem State.reportBitmap_ptb (s : State) (c : FaultCode) (a b : Nat) : (s.reportBitmap c a b).ptb = s.ptb := by
  simp only [State.reportBitmap]
  repeat' split
  all_goals simp
@[simp] theorem State.reportBitmap_cts (s : State) (c : FaultCode) (a b : Nat) : (s.reportBitmap c a b).cts = s.cts := by
  simp only [State.reportBitmap]
  repeat' split
  all_goals simp
@[simp] theorem State.reportBitmap_unreceived (s : State) (c : FaultCode) (a b : Nat) : (s.reportBitmap c a b).unreceived = s.unreceived := by
  simp only [State.reportBitmap]
  repeat' split
  all_goals simp
@[simp] theorem State.reportBitmap_pending (s : State) (c : FaultCode) (a b : Nat) : (s.reportBitmap c a b).pending = s.pending := by
  simp only [State.reportBitmap]
  repeat' split
  all_goals simp

end Sys2Proof.Machine
end

