-- ==== Sys2Proof/Laws/Faults.lean ====
section
/-! SUPPORT. What a report can do: which parts of the effective reaction it can move, and that a report of a code that
neither trips nor stops yaw is taken by the FLM alone. -/

namespace Sys2Proof.Machine

/-- The code of a report. -/
def Report.code : Report → FaultCode
  | .present c _ | .gone c | .event c _ => c

/-- A record of the code has no part in trip, yaw stop or safe stop (R180). -/
def FaultCode.mild (c : FaultCode) : Bool := c.severity == .note || c.severity == .warn || c.severity == .derate

theorem FaultCode.mild_trips {c : FaultCode} (h : c.mild = true) : c.severity.trips = false := by
  cases c <;> first | rfl | cases h

theorem FaultCode.mild_stopsYaw {c : FaultCode} (h : c.mild = true) : c.severity.stopsYaw = false := by
  cases c <;> first | rfl | cases h

theorem FaultCode.mild_safeStop {c : FaultCode} (h : c.mild = true) : (c.severity == .safeStop) = false := by
  cases c <;> first | rfl | cases h

/-! ## A notice sent -/

theorem Flm.noticeSent_opens (f : Flm) (slot : Fin 64) (t : Transition) (o : Option Nat) :
    (f.noticeSent slot t o).opens =
      if t = .opened then f.opens.map fun r => if r.servedBy slot t o then { r with openPending := false } else r
      else f.opens := by
  cases t <;> rfl

theorem Flm.noticeSent_history (f : Flm) (slot : Fin 64) (t : Transition) (o : Option Nat) :
    (f.noticeSent slot t o).history =
      if t = .opened then f.history
      else f.history.map fun r => if r.servedBy slot t o then { r with closePending := false } else r := by
  cases t <;> rfl

@[simp] theorem Flm.noticeSent_present (f : Flm) (slot : Fin 64) (t : Transition) (o : Option Nat) :
    (f.noticeSent slot t o).present = f.present := by cases t <;> rfl

@[simp] theorem Flm.noticeSent_reclaimedUnsent (f : Flm) (slot : Fin 64) (t : Transition) (o : Option Nat) :
    (f.noticeSent slot t o).reclaimedUnsent = f.reclaimedUnsent := by cases t <;> rfl

/-! ## The OPEN list under a report -/

@[simp] theorem Record.again_code (r : Record) (now : Stamp) : (r.again now).code = r.code := by
  simp only [Record.again]; split <;> rfl

@[simp] theorem Record.again_slot (r : Record) (now : Stamp) : (r.again now).slot = r.slot := by
  simp only [Record.again]; split <;> rfl

@[simp] theorem Flm.setPresent_opens (f : Flm) (c : FaultCode) (b : Bool) : (f.setPresent c b).opens = f.opens := rfl
@[simp] theorem Flm.setPresent_history (f : Flm) (c : FaultCode) (b : Bool) : (f.setPresent c b).history = f.history := rfl

@[simp] theorem Flm.takeSlot_opens (f : Flm) : f.takeSlot.2.opens = f.opens := by
  simp only [Flm.takeSlot]; split <;> rfl

theorem insertOpen_any (p : Record → Bool) (r : Record) (l : List Record) :
    (insertOpen r l).any p = (p r || l.any p) := by
  induction l with
  | nil => rfl
  | cons x xs ih =>
    simp only [insertOpen]
    split
    · simp [ih, Bool.or_left_comm]
    · rfl

theorem any_map_code (q : FaultCode → Bool) (g : Record → Record) (hg : ∀ r, (g r).code = r.code) (l : List Record) :
    (l.map g).any (fun r => q r.code) = l.any (fun r => q r.code) := by
  simp [List.any_map, Function.comp_def, hg]

theorem any_filter_code (q : FaultCode → Bool) (c : FaultCode) (hc : q c = false) (l : List Record) :
    (l.filter (·.code != c)).any (fun r => q r.code) = l.any (fun r => q r.code) := by
  induction l with
  | nil => rfl
  | cons x xs ih =>
    by_cases h : x.code = c
    · simp_all
    · simp [h, ih]

/-- A report of a code without the property `q` leaves unchanged whether the OPEN list holds a code with it. -/
theorem Flm.take_any (q : FaultCode → Bool) (f : Flm) (now : Stamp) (r : Report) (h : q r.code = false) :
    (f.take now r).opens.any (fun x => q x.code) = f.opens.any (fun x => q x.code) := by
  cases r with
  | present c v =>
    simp only [Report.code] at h
    simp only [Flm.take, Flm.takePresent]
    split
    · refine any_map_code q _ (fun r => ?_) _
      split <;> simp
    · simp [insertOpen_any, openedRecord, h]
  | gone c =>
    simp only [Report.code] at h
    simp only [Flm.take, Flm.takeGone]
    split
    · rfl
    · split
      · split
        · refine any_map_code q _ (fun r => ?_) _
          split <;> rfl
        · exact any_filter_code q c h _
      · rfl
  | event c v =>
    simp only [Flm.take, Flm.takeEvent]
    split
    · split
      · rfl
      · simp
    · simp

/-! ## The reaction -/

/-- A report of a mild code moves only the derate part of the reaction. -/
theorem Flm.reaction_take_mild (f : Flm) (now : Stamp) (r : Report) (h : r.code.mild = true) :
    (f.take now r).reaction = { f.reaction with fMin := (f.take now r).reaction.fMin } := by
  have h1 := Flm.take_any (fun c => c.severity.trips) f now r (FaultCode.mild_trips h)
  have h2 := Flm.take_any (fun c => c.severity.stopsYaw) f now r (FaultCode.mild_stopsYaw h)
  have h3 := Flm.take_any (fun c => c.severity.stopsYaw && c != .twistHardLimit) f now r
    (by simp [FaultCode.mild_stopsYaw h])
  have h4 := Flm.take_any (fun c => c.severity == .safeStop) f now r (FaultCode.mild_safeStop h)
  simp only [Flm.reaction, Record.severity, h1, h2, h3, h4]

theorem State.tell_same (s : State) (before : Reaction) (h : s.flm.reaction = { before with fMin := s.flm.reaction.fMin }) :
    s.tell before = s := by
  have h1 := congrArg Reaction.trip h
  have h2 := congrArg Reaction.yawStop h
  have h3 := congrArg Reaction.untwistYawStop h
  have h4 := congrArg Reaction.safeStop h
  simp only at h1 h2 h3 h4
  simp [State.tell, yawStopArises, h1, h2, h3, h4]

/-- A report of a mild code is taken by the FLM, and nothing is told to any other block (R180, R181). -/
theorem State.report_mild (s : State) (r : Report) (h : r.code.mild = true) : s.report r = s.quiet r := by
  simp only [State.report]
  exact State.tell_same _ _ (Flm.reaction_take_mild s.flm s.stamp r h)

theorem State.reportGone_mild (s : State) (c : FaultCode) (h : c.mild = true) : s.reportGone c = s.quietGone c := by
  simp only [State.reportGone, State.quietGone]
  split
  · exact State.report_mild s _ h
  · rfl

end Sys2Proof.Machine
end

