-- ==== Sys2Proof/Laws/Link.lean ====
section
/-! SUPPORT. What the handling of a received frame comes to, in the terms of Safety.lean: the end of the frame, the checks
of header, sender and payload, the dispatch to the peer table, and the way of a command to its owner. -/

namespace Sys2Proof.Machine

/-! ## The end of a frame -/

theorem heardBits_length (heard : List BitTime) : (heardBits heard).length = heard.length := by simp [heardBits]

theorem frameEnds_eq_afterFrame (s : State) (heard : List BitTime) : s.frameEnds heard = s.afterFrame heard false := by
  simp only [State.frameEnds, State.afterFrame, State.runTo, State.setClock, State.setSlc, State.setUnreceived,
    Slc.frameBit, hasPartialByte, trailingBits, List.length_drop, heardBits_length]
  simp

theorem flagIf_frameEnds (s : State) (heard : List BitTime) (b : Bool) :
    (s.frameEnds heard).flagIf b .headerCorrected = s.afterFrame heard b := by
  rw [frameEnds_eq_afterFrame]
  cases b <;> simp [State.flagIf, State.afterFrame, State.flag, Slc.flag, State.setSlc, LinkError.mask, LinkError.bit,
    show BitVec.twoPow 16 0 = 1#16 from by decide]

theorem canEnd_of {s : State} {heard : List BitTime} (h1 : s.slc.lineState = .frame) (h2 : s.slc.sending = none)
    (h3 : heardWellFormed heard = true) : s.canEnd heard = true := by
  simp [State.canEnd, h1, h2, h3]

theorem flag_eq_withError (s : State) (e : LinkError) : s.flag e = s.withError e.bit := rfl

theorem osc_afterFrame (s : State) (heard : List BitTime) (b : Bool) : (s.afterFrame heard b).osc = s.osc := rfl

theorem foreign_afterFrame (s : State) (heard : List BitTime) (b : Bool) (n : Nat) :
    (s.afterFrame heard b).foreign n = s.foreign n := rfl

/-! ## Long frames -/

/-- The row of a long frame by its kind. -/
def longRow (heard : List BitTime) (h : Header) (c : Instr) : Prop :=
  (h.kind = 0 ∧ c = .statusReceived heard) ∨ (h.kind = 1 ∧ c = .noticeReceived heard) ∨
    ((h.kind = 3 ∨ h.kind = 4) ∧ c = .replyOrRecordReceived heard)

theorem exec_longRow {s : State} {heard : List BitTime} {h : Header} {corrected : Bool} {c : Instr}
    (hc : s.canEnd heard = true) (hcl : classify (heardBits heard) = .known h corrected) (hk : longRow heard h c) :
    ∃ act, exec c s = .next ((s.frameEnds heard).senderChecks h corrected fun t =>
      t.payloadChecks h (s.trailing heard) fun t => t.dispatch h.sender.toNat act) := by
  rcases hk with ⟨hk, rfl⟩ | ⟨hk, rfl⟩ | ⟨hk, rfl⟩
  · simp only [exec, execStatusReceived, State.statusFrame, State.longFrame, State.whenFrame, hc, hcl, hk]
    exact ⟨_, rfl⟩
  · simp only [exec, execNoticeReceived, State.noticeFrame, State.longFrame, State.whenFrame, hc, hcl, hk]
    exact ⟨_, rfl⟩
  · simp only [exec, execReplyOrRecordReceived, State.answerFrame, State.longFrame, State.whenFrame, hc, hcl]
    rcases hk with hk | hk <;> simp only [hk] <;> exact ⟨_, rfl⟩

/-- A long frame whose sender passes goes on to the payload checks. -/
theorem exec_heard {s : State} {heard : List BitTime} {h : Header} {corrected : Bool} {c : Instr}
    (hh : s.hears heard h corrected) (hk : longRow heard h c) :
    ∃ act, exec c s = .next ((s.afterFrame heard corrected).payloadChecks h (s.trailing heard) fun t =>
      t.dispatch h.sender.toNat act) := by
  obtain ⟨h1, h2, h3, h4, h5, h6⟩ := hh
  obtain ⟨act, he⟩ := exec_longRow (canEnd_of h1 h2 h3) h4 hk
  refine ⟨act, ?_⟩
  rw [he]
  simp only [State.senderChecks, flagIf_frameEnds, osc_afterFrame, h5, foreign_afterFrame, h6, if_false, Bool.false_eq_true]

theorem lengthGood_of {h : Header} {n : Nat} (h1 : n = h.field.toNat + 2) (h2 : h.field.toNat = kindLength h.kind.toNat) :
    lengthGood h n = true := by
  have : kindLength h.kind.toNat = 36 ∨ kindLength h.kind.toNat = 18 ∨ kindLength h.kind.toNat = 6 ∨
      kindLength h.kind.toNat = 23 := by
    simp only [kindLength]; split <;> simp
  simp only [lengthGood, h1]
  simp; omega

/-- A long frame whose payload passes goes on to the dispatch. -/
theorem exec_good {s : State} {heard : List BitTime} {h : Header} {corrected : Bool} {c : Instr}
    (hh : s.hears heard h corrected) (hp : s.payloadGood heard h) (hk : longRow heard h c) :
    ∃ act, exec c s = .next ((s.afterFrame heard corrected).dispatch h.sender.toNat act) := by
  obtain ⟨act, he⟩ := exec_heard hh hk
  refine ⟨act, ?_⟩
  obtain ⟨h1, h2, h3⟩ := hp
  rw [he]
  simp [State.payloadChecks, lengthGood_of h1 h2, crcGood, h3]

/-- The dispatch to a slot peer that is not EXCLUDED acts on its entry. -/
theorem dispatch_peer {s : State} {heard : List BitTime} {h : Header} {corrected : Bool} {j : Fin 12} (hf : s.fromPeer h j)
    (act : State → Fin 12 → PeerEntry → PeerEntry) :
    (s.afterFrame heard corrected).dispatch h.sender.toNat act =
      (((s.afterFrame heard corrected).watchPeers fun t => t.setEntry j (act (s.afterFrame heard corrected) j)).heard) := by
  obtain ⟨hl, hs, ha⟩ := hf
  have h1 : (s.afterFrame heard corrected).dispatchSlot? h.sender.toNat = some j := by
    show (if s.ptb.loaded then s.ptb.slotOf? _ else none) = _
    simp [hl, hs]
  have h2 : (s.afterFrame heard corrected).activePeer j = true := ha
  simp only [State.dispatch, h1, State.peerFrame, h2, if_true]

/-! ## Bitmaps reported where they change -/

theorem reportBitmap_same (s : State) (c : FaultCode) (a : Nat) : s.reportBitmap c a a = s := by simp [State.reportBitmap]

/-- A bitmap of a code without trip, yaw stop and safe stop reaches only the fault manager, which takes it where it changes. -/
theorem reportBitmap_mild (s : State) (c : FaultCode) (a b : Nat) (h : c.mild = true) :
    s.reportBitmap c a b = { s with flm := s.flm.bitmapMoved s.clock c a b } := by
  rw [State.reportBitmap, Flm.bitmapMoved, State.report_mild _ (.gone c) h, State.report_mild _ (.present c b) h]
  by_cases hab : a = b
  · rw [if_pos hab, if_pos hab.symm]
  · rw [if_neg hab, if_neg (Ne.symm hab)]
    split <;> rfl

theorem bitmap_eq_sum {n : Nat} (p : Fin n → Bool) : bitmap p = (((List.finRange n).filter p).map fun i => 2 ^ i.val).sum := by
  have sum (l : List (Fin n)) (k : Nat) :
      l.foldl (fun acc i => if p i = true then acc + 2 ^ i.val else acc) k = k + ((l.filter p).map fun i => 2 ^ i.val).sum := by
    induction l generalizing k with
    | nil => rfl
    | cons i l ih =>
      by_cases hi : p i = true
      · simp [ih, hi, Nat.add_assoc]
      · simp [ih, hi]
  exact (sum _ 0).trans (Nat.zero_add _)

theorem lostBitmap_eq_lostBits (s : State) : s.lostBitmap = s.lostBits := by
  rw [State.lostBitmap, State.lostBits, bitmap_eq_sum]
  congr 3
  funext i
  cases s.ptb.entries[i].freshness <;> rfl

theorem disagreeBitmap_eq_disagreeBits (s : State) : s.disagreeBitmap = s.disagreeBits := bitmap_eq_sum _

/-- What watching the peer entries adds to a change of them: the two bitmaps, where they have changed. -/
theorem watchPeers_eq (s : State) (act : State → State) :
    s.watchPeers act = { act s with
      flm := ((act s).flm.bitmapMoved (act s).clock .peerLost s.lostBits (act s).lostBits).bitmapMoved (act s).clock
        .shareViewDisagree s.disagreeBits (act s).disagreeBits } := by
  rw [State.watchPeers, reportBitmap_mild _ _ _ _ rfl, reportBitmap_mild _ _ _ _ rfl]
  simp only [lostBitmap_eq_lostBits, disagreeBitmap_eq_disagreeBits]
  rfl

theorem watchPeers_flm (s : State) (act : State → State) : ∃ f, s.watchPeers act = { act s with flm := f } :=
  ⟨_, watchPeers_eq s act⟩

/-! ## Commands -/

/-- What the owner of a command makes of it, by its code. -/
def commandOwner (zone : Option Int) (code arg : Nat) (target : BitVec 4) : State → Answer :=
  match code with
  | 1 => State.ownStart
  | 2 => State.ownStop
  | 3 => fun t => ⟨.accepted, 0, t.yawHold⟩
  | 4 => fun t => ⟨.accepted, 0, t.yawRelease⟩
  | 5 => State.ownUntwist
  | 6 => State.ownFaultReset zone
  | 7 => State.ownRecordRequest target arg
  | 8 => fun t => ⟨.accepted, 0, t.setCap arg⟩
  | 9 => fun t => ⟨.accepted, 0, t.stringStop⟩
  | _ => fun t => ⟨.unknownCommand, 0, t⟩

/-- Everything a COMMAND row does once its sender has passed: the length check, the dispatch, then the command. -/
theorem exec_commandRow {s : State} {heard : List BitTime} {h : Header} {corrected : Bool} {zone : Option Int}
    (hh : s.hears heard h corrected) (hk : h.kind = 2) :
    exec (commandRow heard zone h.commandCode) s = .next (
      if heard.length - 40 ≠ 0 then (s.afterFrame heard corrected).withError 8
      else ((s.afterFrame heard corrected).dispatch h.sender.toNat fun _ _ e => e).takeCommand h
        (commandOwner zone h.commandCode h.argument)) := by
  obtain ⟨h1, h2, h3, h4, h5, h6⟩ := hh
  have hcan := canEnd_of h1 h2 h3
  have key : ∀ codes owner, codes h.commandCode = true → s.commandFrame heard codes owner =
      if heard.length - 40 ≠ 0 then (s.afterFrame heard corrected).withError 8
      else ((s.afterFrame heard corrected).dispatch h.sender.toNat fun _ _ e => e).takeCommand h (owner h.argument) := by
    intro codes owner hc
    simp only [State.commandFrame, State.whenFrame, hcan, h4, hk, hc, State.senderChecks, flagIf_frameEnds, osc_afterFrame,
      h5, foreign_afterFrame, h6, if_false, Bool.false_eq_true, trailingBits, List.length_drop, heardBits_length]
    rfl
  by_cases c : 1 ≤ h.commandCode ∧ h.commandCode ≤ 9
  · obtain ⟨c1, c2⟩ := c
    generalize hcc : h.commandCode = cc at *
    interval_cases cc <;>
      simp only [commandRow, exec, execStart, execStop, execYawHold, execYawRelease, execUntwist, execFaultReset,
        execRecordRequest, execStringCap, execStringStop] <;>
      rw [key _ _ (by simp)] <;> rfl
  · have e1 : commandRow heard zone h.commandCode = .unknownCommand heard := by
      unfold commandRow; split <;> first | rfl | (exfalso; omega)
    have e2 : commandOwner zone h.commandCode h.argument = fun _ t => ⟨.unknownCommand, 0, t⟩ := by
      funext a; unfold commandOwner; split <;> first | rfl | (exfalso; omega)
    rw [e1, e2]
    simp only [exec, execUnknownCommand]
    rw [key _ _ (by simp; omega)]

/-- The dispatch of a COMMAND only counts it as heard. -/
theorem dispatch_eq_counted (s : State) (n : Nat) : (s.dispatch n fun _ _ e => e) = s.counted n := by
  simp only [State.dispatch, State.dispatchSlot?, State.counted]
  by_cases hl : s.ptb.loaded = true
  · simp only [hl, if_true, true_and]
    cases hs : s.ptb.slotOf? n with
    | none => simp
    | some j =>
      simp only [State.peerFrame, Option.any_some]
      by_cases ha : s.activePeer j = true
      · simp only [ha, if_true, State.watchPeers]
        have : s.setEntry j (fun e => e) = s := by simp [State.setEntry, update, State.setPtb]
        simp only [this, reportBitmap_same, State.heard]
        by_cases hi : s.ptb.isolated = true
        · simp only [hi, if_true]
          rw [State.report_mild _ (.gone .linkIsolated) rfl]
          simp [State.quiet, State.setFlm, State.setPtb, State.after, State.stamp, hl]
        · simp [hi, State.setPtb, State.after, hl]
      · simp [ha]
  · simp [hl]

theorem osc_counted (s : State) (n : Nat) : (s.counted n).osc = s.osc := by
  simp only [State.counted]; split <;> rfl

theorem slc_counted (s : State) (n : Nat) : (s.counted n).slc = s.slc := by
  simp only [State.counted]; split <;> rfl

theorem target_of_own {s : State} (hv : s.osc.validStation = true) {h : Header} (ht : h.target.toNat = s.osc.station) :
    h.target ≠ 15 := by
  intro h2
  simp [Osc.validStation] at hv
  rw [h2] at ht
  simp at ht; omega

theorem recordAt?_eq_none (f : Flm) (arg : Nat) : f.recordAt? arg = none ↔ ∀ i : Fin 64, f.inUse i = true → i.val ≠ arg := by
  simp only [Flm.recordAt?, Flm.inUse, List.find?_eq_none, List.mem_append]
  constructor
  · intro h i hi
    simp only [Bool.or_eq_true, List.any_eq_true, beq_iff_eq] at hi
    rcases hi with ⟨r, hr, rfl⟩ | ⟨r, hr, rfl⟩
    · have := h r (Or.inl hr); simpa using this
    · have := h r (Or.inr hr); simpa using this
  · intro h r hr
    have := h r.slot (by
      simp only [Bool.or_eq_true, List.any_eq_true, beq_iff_eq]
      rcases hr with hr | hr
      · exact Or.inl ⟨r, hr, rfl⟩
      · exact Or.inr ⟨r, hr, rfl⟩)
    simpa using this

theorem argumentFault?_eq_badCommand (s : State) (code arg : Nat) : s.argumentFault? code arg = s.badCommand code arg := by
  simp only [State.argumentFault?, State.badCommand]
  have hb := recordAt?_eq_none s.flm arg
  by_cases h1 : 1 ≤ code ∧ code ≤ 9
  swap
  · rw [if_pos (by omega), if_pos h1]
  · rw [if_neg (by omega), if_neg (not_not_intro h1)]
    by_cases h7 : code = 7
    · subst h7
      simp only [Option.isNone_iff_eq_none, hb]
      simp
      by_cases h63 : 63 < arg
      · have : ∀ i : Fin 64, s.flm.inUse i = true → ¬ i.val = arg := by intro i _; omega
        simp [h63]; exact this
      · simp [h63]
    · by_cases h8 : code = 8
      · subst h8; simp
      · have : code ≤ 6 ∨ code = 9 := by omega
        simp [h7, h8, this]

/-- A targeted command of the gateway or the terminal: refused for its code or argument, or its owner's answer. -/
theorem exec_commanded {s : State} {heard : List BitTime} {h : Header} {corrected : Bool} {zone : Option Int} {code arg : Nat}
    (hc : s.commanded heard h corrected code arg) :
    exec (commandRow heard zone code) s = .next (
      match s.badCommand code arg with
      | some r => (s.afterFrame heard corrected).answered h r 0
      | none =>
        let a := commandOwner zone code arg h.sender (s.afterFrame heard corrected)
        a.after.fillReply h a.result (if a.result = .accepted then a.data else 0)) := by
  obtain ⟨hh, hk, hl, hs, hn, hv, ht, hr, hcode, harg⟩ := hc
  subst hcode; subst harg
  rw [exec_commandRow hh hk, if_neg (by omega), dispatch_eq_counted]
  have hcn : (s.afterFrame heard corrected).counted h.sender.toNat = s.afterFrame heard corrected := by
    simp only [State.counted]
    have : (s.afterFrame heard corrected).ptb = s.ptb := rfl
    rw [this, hn]; simp
  rw [hcn]
  simp only [State.takeCommand, target_of_own hv ht, if_false]
  rw [osc_afterFrame, if_pos ⟨hv, ht⟩]
  have e1 : (s.afterFrame heard corrected).slc.replySlot = s.slc.replySlot := rfl
  have hp : h.permitted = true := by rcases hs with h | h <;> simp [Header.permitted, h]
  simp only [State.targeted, e1, hr, hp, argumentFault?_eq_badCommand]
  have e2 : (s.afterFrame heard corrected).badCommand h.commandCode h.argument = s.badCommand h.commandCode h.argument := rfl
  rw [e2]
  cases s.badCommand h.commandCode h.argument <;> rfl

/-- A broadcast command: what `State.broadcast` makes of its owner's answer, after it has counted as heard. -/
theorem exec_broadcasted {s : State} {heard : List BitTime} {h : Header} {corrected : Bool} {zone : Option Int}
    (hh : s.hears heard h corrected) (hk : h.kind = 2) (hl : heard.length = 40) (ht : h.target = 15) :
    exec (commandRow heard zone h.commandCode) s = .next (
      ((s.afterFrame heard corrected).counted h.sender.toNat).broadcast h (commandOwner zone h.commandCode h.argument)) := by
  rw [exec_commandRow hh hk, if_neg (by omega), dispatch_eq_counted]
  simp only [State.takeCommand, ht, if_true]

/-! ## Numbers in a string of bytes -/

/-- The two bytes of a half stand for its number. -/
theorem numberAt_bytes16 (x : Half) : numberAt (bytes16 x) 0 2 = x.toNat := by
  simp only [numberAt, bytes16, List.drop_zero, List.take_succ_cons, List.take_zero, List.foldl_cons, List.foldl_nil,
    BitVec.extractLsb'_toNat, Nat.shiftRight_eq_div_pow]
  have := x.isLt
  omega

/-- The four bytes of a word stand for its number. -/
theorem numberAt_bytes32 (x : BitVec 32) : numberAt (bytes32 x) 0 4 = x.toNat := by
  simp only [numberAt, bytes32, List.drop_zero, List.take_succ_cons, List.take_zero, List.foldl_cons, List.foldl_nil,
    BitVec.extractLsb'_toNat, Nat.shiftRight_eq_div_pow]
  have := x.isLt
  omega

/-- Layouts of neighbouring parts: a field that lies behind the first part is one of the second. -/
theorem numberAt_append_right (as bs : List Byte) (k width : Nat) :
    numberAt (as ++ bs) (as.length + k) width = numberAt bs k width := by
  have h : (as ++ bs).drop (as.length + k) = bs.drop k := by rw [← List.drop_drop, List.drop_left]
  simp only [numberAt, h]

theorem numberAt_append_left (as bs : List Byte) (k width : Nat) (h : k + width ≤ as.length) :
    numberAt (as ++ bs) k width = numberAt as k width := by
  simp only [numberAt]
  rw [List.drop_append_of_le_length (by omega), List.take_append_of_le_length (by simp; omega)]
/-! ## The own frame -/

@[simp] theorem Slc.stopSending_sending (x : Slc) (now : Clocks) (dark : Nat) : (x.stopSending now dark).sending = none := rfl
@[simp] theorem Slc.stopSending_lineState (x : Slc) (now : Clocks) (dark : Nat) :
    (x.stopSending now dark).lineState = .trail := rfl
@[simp] theorem Slc.stopSending_gapDue (x : Slc) (now : Clocks) (dark : Nat) :
    (x.stopSending now dark).gapDue = now + bitTimes (16 - dark) := rfl
@[simp] theorem Slc.stopSending_errors (x : Slc) (now : Clocks) (dark : Nat) : (x.stopSending now dark).errors = x.errors := rfl
@[simp] theorem Slc.stopSending_notice (x : Slc) (now : Clocks) (dark : Nat) : (x.stopSending now dark).notice = x.notice := rfl

/-- A bit time of the own frame that is heard as it was sent, or lies beyond it, is no mismatch. -/
theorem echoMismatch_of_agree {s : State} {f : Transmission} {bit : HeardBit} (hf : s.slc.sending = some f)
    (h : f.bits.length ≤ bit.index ∨ bit.heard = sentBit (f.bits.getD bit.index false)) : s.echoMismatch bit = s := by
  simp only [State.echoMismatch, hf]
  rw [if_neg]
  rintro ⟨h1, h2⟩
  rcases h with h | h
  · omega
  · exact h2 h

end Sys2Proof.Machine
end

