-- ==== Sys2Proof/Laws/Port.lean ====
section
/-! SUPPORT. The setpoint blocks and the bits of the converter port, and the watch on pump delivering flow, in the terms of
Safety.lean. -/

namespace Sys2Proof.Machine

theorem swap_eq_swapped (now : Clocks) (c : Cvp) : c.swap now = c.swapped now := by
  simp only [Cvp.swap, Cvp.swapped, Cvp.raiseStrobe, Cvp.nextFront, Cvp.reactive, Cvp.voltage]
  by_cases h1 : c.rideThrough <;> by_cases h2 : c.measurement.voltage.toNat < 900 <;> cases h3 : c.strobeMode <;>
    simp [h1, h2]

theorem writeBlock_eq_handed (now : Clocks) (enable : Bool) (limit : Nat) (c : Cvp) :
    c.writeBlock now enable limit = c.handed now enable limit := by
  simp only [Cvp.writeBlock, Cvp.handed, swap_eq_swapped]

/-- An edge within a byte shifts its bit in. -/
theorem exec_edge_within (dt : Clocks) (bit : Bool) (s : State) (ha : s.cvp.selectLine = true)
    (hb : s.cvp.seenReleased = true) (hc : s.cvp.bitCount < 7) :
    exec (.portClockRisingEdge dt bit) s = .next { s with
      clock := s.clock + dt, cvp := { s.cvp with bitCount := s.cvp.bitCount + 1, shift := s.cvp.nextShift bit } } := by
  simp [exec, execPortClockRisingEdge, State.edge, Cvp.counting, State.elapse, State.setClock, State.setCvp, ha, hb, hc,
    Cvp.takeBit]

/-- The eighth edge of a byte acts on the byte. -/
theorem exec_edge_last (dt : Clocks) (bit : Bool) (s : State) (ha : s.cvp.selectLine = true)
    (hb : s.cvp.seenReleased = true) (hc : s.cvp.bitCount = 7) :
    exec (.portClockRisingEdge dt bit) s = .next (({ s with
      clock := s.clock + dt, cvp := { s.cvp with bitCount := 0, shift := 0 } } : State).portByte (s.cvp.nextShift bit)) := by
  simp [exec, execPortClockRisingEdge, State.edge, Cvp.counting, State.elapse, State.setClock, State.setCvp, ha, hb, hc,
    Cvp.takeBit]

theorem outBitmap_eq_outBits (c : Clc) : c.outBitmap = c.outBits := by
  simp only [Clc.outBitmap, Clc.outBits, bitmap, List.finRange, List.ofFn]
  simp [Fin.foldr, Fin.foldr.loop, Clc.channel?]
  split <;> split <;> split <;> split <;> rfl

/-! ## Pump delivering flow -/

/-- R201: the test of the start conditions where the test is made in STANDBY. -/
theorem testStart_eq_tested {s : State} (h : s.osc.state = .standby) : s.testStart = s.tested := by
  simp [State.testStart, State.tested, State.startConditions, State.setOsc, State.after, h, and_assoc]

/-- What watching pump delivering flow adds to a change: a start, where flow comes to be delivered by it in STANDBY. -/
theorem watchFlow_eq_startsOver (s : State) (act : State → State) : s.watchFlow act = (act s).startsOver s.clc := by
  generalize h : act s = t
  simp only [State.watchFlow, State.startsOver, h]
  by_cases hs : t.osc.state = .standby
  · rw [testStart_eq_tested hs]
    cases ha : s.clc.delivering <;> cases hb : t.clc.delivering <;> simp [hs, State.tested, State.mayStart, hb]
  · simp [State.testStart, hs]

/-- R136: what putting the minimum flow in force does. -/
theorem takeMinFlow_eq (s : State) :
    s.takeMinFlow = { s with clc := { s.clc with minFlowInForce := s.clc.params.minFlow } }.startsOver s.clc :=
  watchFlow_eq_startsOver s _

end Sys2Proof.Machine
end

