-- ==== Sys2Proof/Laws/Tables.lean ====
section
/-! SUPPORT. What the shared operations of Ops.lean, and the step, can do: tables, flags counted, lowest and highest
index, angles, monitors, timers that have run out, the queue. -/

namespace Sys2Proof.Machine

/-! ## Tables -/

@[simp] theorem update_get {α : Type} {n : Nat} (v : Vector α n) (i j : Fin n) (f : α → α) :
    (update v i f)[j] = if i = j then f v[j] else v[j] := by
  by_cases h : i = j
  · subst h; simp [update]
  · simp only [h, if_false, update, Fin.getElem_fin]
    rw [Vector.getElem_set_ne]
    omega

@[simp] theorem mapTable_get {α β : Type} {n : Nat} (v : Vector α n) (f : α → β) (i : Fin n) : (mapTable v f)[i] = f v[i] := by
  simp [mapTable]

theorem countSet_le {n : Nat} (v : Vector Bool n) : countSet v ≤ n := by
  have := List.count_le_length (a := true) (l := v.toList)
  simpa [countSet] using this

theorem lowest?_some {n : Nat} {p : Fin n → Bool} {i : Fin n} (h : lowest? p = some i) : p i = true := List.find?_some h

theorem lowest?_none {n : Nat} {p : Fin n → Bool} : lowest? p = none ↔ ∀ i, p i = false := by
  simp [lowest?, List.find?_eq_none]

/-- No lower index satisfies the predicate. -/
theorem lowest?_least {n : Nat} {p : Fin n → Bool} {i j : Fin n} (h : lowest? p = some i) (hj : p j = true) : i ≤ j := by
  obtain ⟨_, as, bs, hl, ha⟩ := List.find?_eq_some_iff_append.mp h
  have hp : (as ++ i :: bs).Pairwise (· < ·) := by rw [← hl]; exact List.pairwise_lt_finRange n
  have hm : j ∈ as ++ i :: bs := by rw [← hl]; exact List.mem_finRange j
  rw [List.mem_append, List.mem_cons] at hm
  rcases hm with hm | rfl | hm
  · have := ha j hm; simp [hj] at this
  · exact Nat.le_refl _
  · exact Nat.le_of_lt ((List.pairwise_cons.mp (List.pairwise_append.mp hp).2.1).1 j hm)

/-! ## Angles, monitors, timers -/

theorem wrapAngle_range (x : Int) : -1800 ≤ wrapAngle x ∧ wrapAngle x ≤ 1799 := by
  simp only [wrapAngle]; omega

theorem wrapAngle_turns (x : Int) : (x - wrapAngle x) % 3600 = 0 := by
  simp only [wrapAngle]; omega

/-- A monitor runs from the moment a disagreement begins, on while it lasts, and stands still without one. -/
theorem monitor_cases (now period : Clocks) (was is : Bool) (due : Option Clocks) :
    (is = false → monitor now period was is due = none) ∧
      (is = true → was = false → monitor now period was is due = some (now + period)) ∧
      (is = true → was = true → monitor now period was is due = due) := by
  cases was <;> cases is <;> simp [monitor]

@[simp] theorem atDue_none (s : State) (act : State → State) : s.atDue none act = s := rfl
@[simp] theorem atDue_some (t : Clocks) (s : State) (act : State → State) : s.atDue (some t) act = act (s.runTo t) := rfl

/-! ## The queue -/

/-- Everything a step can do: idle on an empty queue, else the front command on the rest. -/
theorem step_cases (s : State) :
    (s.pending = [] ∧ step s = .next s) ∨ ∃ c rest, s.pending = c :: rest ∧ step s = exec c { s with pending := rest } := by
  cases h : s.pending with
  | nil => exact .inl ⟨rfl, by simp [step, h]⟩
  | cons c rest => exact .inr ⟨c, rest, rfl, by simp [step, h, State.setPending]⟩

end Sys2Proof.Machine
end

