-- ==== Sys2Proof/Laws/Power.lean ====
section
/-! SUPPORT. What an examination of the wait list finds, in the terms of Safety.lean. -/

namespace Sys2Proof.Machine

theorem freePower_eq_free (a : Apa) : a.freePower = a.free := by
  simp only [Apa.freePower, Apa.free, Apa.inForce, Apa.total]
  split <;> rfl

theorem countSet_ofFn {n : Nat} (p : Fin n → Bool) : countSet (Vector.ofFn p) = ((List.finRange n).filter p).length := by
  rw [countSet, Vector.toList_ofFn, List.ofFn_eq_map, List.count, List.countP_map, ← List.countP_eq_length_filter]
  congr 1
  funext i
  simp

theorem usableDrives_eq_usableCount (y : Ywc) : y.usableDrives = y.usableCount := (countSet_ofFn _).symm

/-- R164: what a yaw request would get of free power as it stands. -/
theorem motorsFor_free (s : State) : s.motorsFor s.apa.freePower = s.yawOffer := by
  rw [State.motorsFor, State.yawOffer, usableDrives_eq_usableCount, freePower_eq_free]

/-- R162: the override test, where a fan request waits. -/
theorem coolingOverride_of_request {s : State} (h : s.apa.fanRequest = true) :
    s.coolingOverride = decide (580 ≤ s.clc.overrideTemp) := by simp [State.coolingOverride, h]

/-- R162: which request comes first, where a fan request waits. -/
theorem yawPrecedes_iff_yawFirst {s : State} (h : s.apa.fanRequest = true) :
    s.yawPrecedes = true ↔ s.yawFirst s.clc.overrideTemp := by
  simp [State.yawPrecedes, State.yawFirst, coolingOverride_of_request h]

/-- R166: with no yaw motor granted the override test finds nothing to stop. -/
theorem examine_of_ungranted {s : State} (h : s.tryRequests.apa.yawGranted = 0) : s.examine = s.tryRequests := by
  simp [State.examine, h]

end Sys2Proof.Machine
end

