-- ==== Sys2Proof/Tests/Slice0.lean ====
section
/-! SUPPORT. Tests: operands that `wellFormed` refuses, tables and worked examples of the spec, and for every statement
with hypotheses a state and operands that meet them (`witness_<statement>`), clause by clause at the ends of ranges. -/

namespace Sys2Proof.Tests

open Sys2Proof.Machine

-- one theorem at a time: the kernel evaluates most of them, each in a thread of its own otherwise
set_option Elab.async false

/-! ## Small states and frames -/

/-- What an outcome leaves; the state after reset where it leaves nothing. -/
def after (o : Host.Outcome State Fault Refusal) : State :=
  match o with
  | .next s => s
  | .fault _ => State.reset
  | .refused _ => State.reset

/-- The light of a frame. -/
def lights (bits : List Bool) : List BitTime := bits.map fun b => { first := b, second := !b }

/-- The light of a frame of a header and a payload with its CRC. -/
def longFrame (h : Header) (payload : List Byte) : List BitTime :=
  lights (encodeHeader h ++ (payload ++ bytes16 (crc16 payload)).flatMap bitsOf)

def headerOf (kind sender target : BitVec 4) (field : Nat) : Header :=
  { kind := kind, sender := sender, target := target, priority := 9, field := BitVec.ofNat 16 field }

/-- A COMMAND of the gateway. -/
def commandOf (target : BitVec 4) (code arg : Nat) : Header := headerOf 2 13 target (256 * code + arg)
def commandLight (target : BitVec 4) (code arg : Nat) : List BitTime := lights (encodeHeader (commandOf target code arg))

def statusHeader (sender : BitVec 4) : Header := headerOf 0 sender 15 36
def statusLight (sender : BitVec 4) : List BitTime := longFrame (statusHeader sender) (List.replicate 36 1)
def noticeHeader (sender : BitVec 4) : Header := headerOf 1 sender 15 18
/-- OPENED, code 33, severity 5. -/
def noticeLight (sender : BitVec 4) : List BitTime := longFrame (noticeHeader sender) ([0, 33, 5, 0] ++ List.replicate 14 0)
def replyHeader (sender : BitVec 4) : Header := headerOf 3 sender 1 (kindLength 3)
def replyLight (sender : BitVec 4) : List BitTime := longFrame (replyHeader sender) (List.replicate (kindLength 3) 7)

/-- A record in a slot. -/
def recordAt (slot : Fin 64) (code : FaultCode) (state : RecordState) : Record :=
  { slot := slot, code := code, state := state, repeatCount := 0, openStamp := 5, lastSeen := 5, closeStamp := 0, value := 1,
    closeReason := .notClosed, closeTransition := none, openPending := true, closePending := false, seq := 0 }

def closedRecord (slot : Fin 64) (code : FaultCode) : Record :=
  { recordAt slot code .closed with
    closeReason := .conditionGone, closeTransition := some .closed, openPending := false, closePending := true }

def peerSlots : Vector (Option Descriptor) 12 :=
  #v[some { station := 1, rated := 15000, excluded := false, cableMonitor := false },
     some { station := 2, rated := 15000, excluded := false, cableMonitor := true },
     some { station := 3, rated := 20000, excluded := true, cableMonitor := false },
     none, none, none, none, none, none, none, none,
     some { station := 12, rated := 9000, excluded := false, cableMonitor := false }]

/-- Station 1 in STANDBY with an image loaded. -/
def standing : State :=
  { State.reset with
    osc := { State.reset.osc with state := .standby, loader := .idle, arrivalSeen := true }
    ptb := { State.reset.ptb with loaded := true, slots := peerSlots, isolationDue := some (ms 2000) }
    scu := { State.reset.scu with periodDue := some (ms 20), cCfg := 30000, rampUp := 200, rampDown := 1000, fCab := 800 }
    cvp := { State.reset.cvp with silenceDue := some (ms 60) }
    clc := { State.reset.clc with
      convIn := { held := 400, validity := .valid, holdDue := none }, convOut := { held := 450, validity := .valid, holdDue := none }
      genOut := { held := 450, validity := .valid, holdDue := none }, cable := { held := 300, validity := .valid, holdDue := none }
      flow := 100, flowDue := none, pumps := State.reset.clc.pumps.set 0 { state := .duty, runIn := true, feedbackDue := none } }
    ywc := { State.reset.ywc with evalDue := some (ms 1000), vaneSeen := true, twistKnown := true } }

/-- Station 1 PRODUCING. -/
def working : State := { standing with osc := { standing.osc with state := .producing, enable := true, runCommand := true } }

/-- A frame of another station is on the line. -/
def listening (s : State) : State := { s with slc := { s.slc with lineState := .frame } }

def withYaw (y : Ywc) (granted : Nat) (request : Option Bool) (s : State) : State :=
  { s with ywc := y, apa := { s.apa with yawGranted := granted, yawRequest := request } }

def someMove : Move := { target := 150, direction := .clockwise, urgent := false, untwist := false }

/-- A move waits for power; is in BRAKE_RELEASE; in MOVING with four drives; in BRAKE_APPLY. -/
def requesting : State := withYaw { working.ywc with state := .requestPower, move := some someMove, waitDue := some (ms 60000) } 0 (some false) working
def releasing : State :=
  withYaw { working.ywc with state := .brakeRelease, move := some someMove, releaseOut := true, releaseDue := some (ms 2000) } 4 none working
def turning : State :=
  withYaw { working.ywc with
    state := .moving, move := some someMove, releaseOut := true, brakeIn := true
    enables := #v[true, true, true, true, false, false], running := #v[true, true, true, true, false, false] } 4 none working
def braking : State :=
  withYaw { working.ywc with state := .brakeApply, move := some someMove, brakeIn := true, applyDue := some (ms 2000) } 4 none working

/-- The select line is on and the port counts. -/
def portAt (port : PortState) (bits : Nat) (shift : Byte) (s : State) : State :=
  { s with cvp := { s.cvp with selectLine := true, seenReleased := true, port := port, bitCount := bits, shift := shift } }

/-- Nine bytes of a block and seven bits of the tenth: available 14600, actual 9000, the voltage, 1200 V, no fault word. -/
def arriving (actual voltage : Half) (s : State) : State :=
  let t := portAt (.write 9) 7 0 s
  { t with cvp := { t.cvp with staging := bytes16 14600#16 ++ bytes16 actual ++ bytes16 voltage ++ bytes16 1200#16 ++ [0] } }

def blockOf (actual voltage fault : Half) : Measurement :=
  { available := 14600, actual := actual, voltage := voltage, dcLink := 1200, faultWord := fault }

/-! ## Operands refused by wellFormed -/

theorem test_wellFormed_refuses_an_empty_frame : (Instr.statusReceived []).wellFormed = false := by decide
theorem test_wellFormed_refuses_a_dark_bit :
    (Instr.frameDiscarded [⟨true, false⟩, ⟨false, false⟩]).wellFormed = false := by decide
theorem test_wellFormed_refuses_a_frame_of_1593_bits :
    (Instr.frameDiscarded (List.replicate 1593 ⟨true, false⟩)).wellFormed = false := by decide +kernel
theorem test_wellFormed_accepts_a_frame_of_1592_bits :
    (Instr.frameDiscarded (List.replicate 1592 ⟨true, false⟩)).wellFormed = true := by decide +kernel
theorem test_wellFormed_refuses_zone_four : (Instr.encoderReading 0 0 (some 4)).wellFormed = false := by decide
theorem test_wellFormed_refuses_a_fault_reset_with_zone_minus_four :
    (Instr.faultReset (commandLight 1 6 0) (some (-4))).wellFormed = false := by decide +kernel
theorem test_wellFormed_refuses_150_point_1_degrees : (Instr.temperatureReading 0 0 (some 1501)).wellFormed = false := by decide
theorem test_wellFormed_refuses_minus_40_point_1_degrees : (Instr.temperatureReading 0 0 (some (-401))).wellFormed = false := by decide
theorem test_wellFormed_refuses_bit_1592 : (Instr.echoMismatch { index := 1592, heard := sentBit true }).wellFormed = false := by decide
theorem test_wellFormed_refuses_a_count_of_4095 : (Instr.comparatorTrip 4095).wellFormed = false := by decide
theorem test_wellFormed_refuses_one_byte_of_image : (Instr.configReadComplete 0 [1]).wellFormed = false := by decide
theorem test_wellFormed_refuses_2047_bytes_of_image :
    (Instr.configReadComplete 0 (List.replicate 2047 0)).wellFormed = false := by decide +kernel

/-! ## Tables and worked examples of the spec -/

/-- 2.2.3. -/
def exampleHeader : Header := headerOf 0 3 15 36
theorem test_header_of_2_2_3 :
    (encodeHeader exampleHeader).map Bool.toNat =
      [0,0,0,0, 0,0,1,1, 1,1,1,1, 1,0,0,1, 0,0,0,0, 0,0,0,0, 0,0,1,0, 0,1,0,0, 0,0,0,1,1,0, 0, 0] := by decide +kernel
theorem test_header_of_2_2_3_with_d9_wrong :
    decodeHeader ((encodeHeader exampleHeader).modify 8 not) = .corrected exampleHeader := by decide +kernel
theorem test_header_of_2_2_3_with_d9_and_d13_wrong :
    decodeHeader (((encodeHeader exampleHeader).modify 8 not).modify 12 not) = .uncorrectable := by decide +kernel

/-- 4.12, period 1. -/
theorem test_shares_of_4_12 :
    shortageShares 50000 [(1, 14200), (2, 13800), (3, 14600), (4, 15000), (6, 0)] =
      [(1, 12327), (2, 11980), (3, 12673), (4, 13020), (6, 0)] := by decide +kernel

/-- R114. -/
theorem test_ways_of_R114 :
    [(3000, 150), (7150, 105), (-7000, -400), (7600, -120), (7600, 90)].map
      (fun p : Int × Int => p.1 + chooseWay p.1 7200 p.2) = [3150, 3655, -3800, 7480, 4090] := by decide +kernel

/-- R130. -/
theorem test_turns_of_R130 :
    [1799, 2000, 5400, -5400, 9130, -10800].map wholeTurns = [0, 1, 2, -2, 3, -3] := by decide +kernel

/-- R145. -/
theorem test_valve_of_R145 :
    [(430, 400), (393, 400), (430, 450), (640, 400), (150, 400)].map
      (fun p : Int × Int => valvePosition false p.1 p.2) = [575, 483, 450, 1000, 0] := by decide +kernel

/-- R155. -/
theorem test_classes_of_R155 :
    [0, 149, 150, 450, 451, 1199].map (SenseChannel.classify channelDefaults) =
      [.opened, .opened, .dry, .dry, .wet, .wet] := by decide +kernel

/-- R208, 0.5: the first commands after power-on. -/
theorem test_cold_reset_gives_reset : after (exec (.coldReset 1) { State.reset with clock := 9 }) = State.reset := by decide +kernel
theorem test_no_station_thirteen : (after (exec (.coldReset 13) State.reset)).osc.state = .unconfigured := by decide +kernel

/-- R84 to R86: a type byte read bit by bit. -/
theorem test_type_byte_bit_by_bit :
    (match execAll ([false, false, true, true, false, false, false, true].map (.portClockRisingEdge 10))
        (portAt .typeByte 0 0 working) with
      | .next t => t.cvp.port
      | .fault _ => .idle
      | .refused _ => .idle) = .read 0 := by decide +kernel

/-- No row of the table gives bits, so no word spells a command (log entry 14). -/
theorem test_no_word_spells_a_command : decodeTableWord 32 7 = none := by decide

/-! ## Steps and resets -/

theorem witness_StepTakesTheFrontCommand :
    ({ State.reset with pending := [.idleGap] } : State).pending = .idleGap :: [] ∧ State.reset.pending = [] := by decide

/-- Straps 1 and 12, six ready drives and four. -/
theorem witness_ColdResetEmptiesThePool :
    (1 ≤ (1#4).toNat ∧ (1#4).toNat ≤ 12 ∧ 4 ≤ countSet State.reset.ywc.ready) ∧
      1 ≤ (12#4).toNat ∧ (12#4).toNat ≤ 12 ∧ 4 ≤ countSet (#v[true, true, true, true, false, false]) := by decide

/-- A pool with an OPEN record and a notice owed. -/
def withRecord : State := { State.reset with flm := State.reset.flm.take 5 (.present .foreignTraffic 3) }
theorem witness_WarmResetKeepsThePool :
    1 ≤ (12#4).toNat ∧ (12#4).toNat ≤ 12 ∧ 4 ≤ countSet withRecord.ywc.ready ∧ withRecord.flm.opens.length = 1 := by
  decide +kernel

/-- The three clauses: a valid strap value, 0 and 13, three ready drives. -/
theorem witness_ResetsLeaveTheBlocks :
    (∃ t, exec (.coldReset 12) State.reset = .next t ∧ 4 ≤ countSet State.reset.ywc.ready) ∧
      (∃ t, exec (.warmReset 5 0) State.reset = .next t ∧ ((0#4).toNat = 0 ∨ 12 < (0#4).toNat)) ∧
      (∃ t, exec (.warmReset 5 13) State.reset = .next t ∧ ((13#4).toNat = 0 ∨ 12 < (13#4).toNat)) ∧
      ∃ t, exec (.coldReset 1) { State.reset with ywc := { State.reset.ywc with ready := #v[true, true, true, false, false, false] } } =
        .next t ∧ countSet (#v[true, true, true, false, false, false]) < 4 :=
  ⟨⟨_, rfl, by decide⟩, ⟨_, rfl, by decide⟩, ⟨_, rfl, by decide⟩, ⟨_, rfl, by decide⟩⟩

/-! ## The line -/

theorem witness_BoundaryChoosesAFrame :
    State.reset.slc.lineState = .sync ∧ (after (exec .idleGap State.reset)).slc.lineState = .idle ∧
      (after (exec .idleGap withRecord)).slc.notice.isSome = true := by decide +kernel

theorem witness_LightMovesTheLine :
    (after (exec .idleGap State.reset)).slc.lineState = .idle ∧ State.reset.slc.lineState = .sync ∧
      (listening working).slc.lineState = .frame ∧ (listening working).slc.sending = none := by decide +kernel

/-- A NOTICE contends after the boundary, in round 1; and in round 4. -/
def contending : State := after (exec .idleGap withRecord)
theorem witness_PulseKeepsOrLosesTheRound :
    (contending.slc.contender.map fun c => (c.round, contending.slc.full c.source)) = some (1, true) ∧
      contending.slc.lineState = .idle ∧
      (({ contending with slc := { contending.slc with
          lineState := .arbitration, contender := contending.slc.contender.map fun c => { c with round := 4 } } } : State).slc.contender.map
        fun c => c.round) = some 4 := by decide +kernel

/-- A contender with a frame; none; a NOTICE whose record has gone. -/
def inArbitration (s : State) : State := { s with slc := { s.slc with lineState := .arbitration } }
theorem witness_SurvivorSendsItsFrame :
    (inArbitration contending).slc.lineState = .arbitration ∧
      ((inArbitration contending).slc.contender.any fun c => ((inArbitration contending).copyContent c.source).isSome) = true ∧
      (inArbitration State.reset).slc.contender = none ∧
      (({ inArbitration contending with flm := flmAfterColdReset } : State).slc.contender.any fun c =>
        (({ inArbitration contending with flm := flmAfterColdReset } : State).copyContent c.source).isNone) = true := by
  decide +kernel

/-- The own NOTICE is being sent; its echo mismatch count is 0 and 2. -/
def sendingNotice : State := after (exec (.survival false) (inArbitration contending))
theorem witness_OwnFramesEnd :
    (sendingNotice.slc.sending.map fun f => (f.bits[0]?, f.bits[199]?.isSome, f.opening)) = some (some false, true, some 0) ∧
      ¬ (false = false ∧ false = !false) ∧ ¬ (true = false ∧ true = !false) ∧
      (sendingNotice.slc.sending.any fun f => decide (sendingNotice.slc.echo f.source < 2)) = true ∧
      (({ sendingNotice with slc := sendingNotice.slc.setCounts .notice 0 2 } : State).slc.sending.any fun f =>
        decide (2 ≤ (sendingNotice.slc.setCounts .notice 0 2).echo f.source)) = true := by decide +kernel

/-- R2: bit time 0 of the own frame heard dark is the first dark bit time; heard with light it is none. -/
theorem test_dark_mismatch_is_the_first_dark_bit_time :
    [⟨false, false⟩, ⟨true, true⟩].map (fun h : BitTime =>
        (after (exec (.echoMismatch { index := 0, heard := h }) sendingNotice)).slc.gapDue) =
      [sendingNotice.slc.lastBoundary + bitTimes 80, sendingNotice.slc.lastBoundary + bitTimes 81] := by decide +kernel

/-- R183: slot 0 reclaimed during the sending for a record that owes a notice of the same transition keeps that notice. -/
def reclaimed : State :=
  { sendingNotice with flm := { sendingNotice.flm with opens := [{ recordAt 0 .foreignTraffic .opened with seq := 1 }] } }
theorem test_a_reclaimed_slot_keeps_its_notice :
    (after (exec .frameSent sendingNotice)).flm.bestNotice? = none ∧
      (after (exec .frameSent reclaimed)).flm = reclaimed.flm := by decide +kernel

theorem witness_HeaderCodeCorrectsOneError : (0 < 39 ∧ 38 < 39) ∧ 37 < 38 := by decide

/-- Each of the four sources can have a frame to copy. -/
def allFull : State :=
  { contending with slc := { contending.slc with
    statusSlot := some { content := readStatus [], loss := 0, echo := 0 }
    replySlot := some { content := { target := 13, code := 1, result := .accepted, data := 0 }, loss := 0, echo := 0 }
    recordSlot := some { content := { target := 13, payload := (recordAt 0 .peerLost .opened).copy }, loss := 0, echo := 0 } } }
theorem witness_SentFramesPassTheChecks :
    [Source.status, .reply, .record, .notice].all (fun src => (allFull.copyContent src).isSome) = true := by decide +kernel

/-- A register that names a record which owes its notice, one that names none; records of both kinds; payload lengths. -/
theorem witness_SentFramesPassTheChecks_fields :
    allFull.slc.statusSlot.isSome = true ∧ allFull.slc.replySlot.isSome = true ∧ allFull.slc.recordSlot.isSome = true ∧
      allFull.flm.sound ∧
      (allFull.slc.notice.any fun n => allFull.flm.opens.any fun r => decide (r.slot = n.slot) && r.openPending &&
        decide (n.transition = .opened)) = true ∧
      ({ allFull with flm := flmAfterColdReset } : State).flm.opens = [] ∧ flmAfterColdReset.history = [] ∧
      (closedRecord 63 .portReadAbandoned).closeTransition = some .closed ∧ (recordAt 0 .coolantLeak .openCleared).state ≠ .closed ∧
      (List.replicate 36 (1#8)).length = 36 ∧ (List.replicate 18 (1#8)).length = 18 := by
  unfold Flm.sound; decide +kernel

theorem witness_StatusTimerTakesTheSnapshot : withRecord.flm.opens ≠ [] ∧ withRecord.flm.sound := by
  unfold Flm.sound; decide +kernel

/-! ## Received frames -/

/-- Short; uncorrectable; unknown kind 5 and 15, clean and corrected; a STATUS of wrong length and of wrong CRC. -/
def badHeader (kind : BitVec 4) : List Bool := encodeHeader (headerOf kind 2 15 0)
theorem witness_DiscardedFramesSetTheirBit :
    (listening working).slc.lineState = .frame ∧ (listening working).slc.sending = none ∧
      heardWellFormed (lights (List.replicate 39 true)) = true ∧
      decodeHeader (headerBits (heardBits (lights (((badHeader 0).modify 0 not).modify 1 not)))) = .uncorrectable ∧
      decodeHeader (headerBits (heardBits (lights (badHeader 5)))) = .clean (headerOf 5 2 15 0) ∧
      decodeHeader (headerBits (heardBits (lights ((badHeader 15).modify 38 not)))) = .corrected (headerOf 15 2 15 0) := by
  decide +kernel
theorem witness_DiscardedFramesSetTheirBit_payload :
    (listening working).hears (longFrame (statusHeader 2) [1]) (statusHeader 2) false ∧
      ((listening working).trailing (longFrame (statusHeader 2) [1])).length ≠ (statusHeader 2).field.toNat + 2 ∧
      (listening working).hears ((statusLight 2).set 60 ⟨true, false⟩) (statusHeader 2) false ∧
      ((listening working).trailing ((statusLight 2).set 60 ⟨true, false⟩)).length = 38 ∧
      crc16 (((listening working).trailing ((statusLight 2).set 60 ⟨true, false⟩)).take 36) ≠
        u16At ((listening working).trailing ((statusLight 2).set 60 ⟨true, false⟩)) 36 := by
  unfold State.hears; decide +kernel

/-- The own number; number 0 before a load, number 4 after it; COMMAND frames of both, the one with a code of 200. -/
theorem witness_OwnAndForeignSendersAreReported :
    (heardWellFormed (statusLight 1) = true ∧ classify (heardBits (statusLight 1)) = .known (statusHeader 1) false ∧
        working.osc.validStation = true ∧ (statusHeader 1).sender.toNat = working.osc.station) ∧
      (classify (heardBits (noticeLight 0)) = .known (noticeHeader 0) false ∧ State.reset.ptb.loaded = false ∧
        (noticeHeader 0).sender.toNat = 0) ∧
      (classify (heardBits (replyLight 4)) = .known (replyHeader 4) false ∧ working.ptb.loaded = true ∧
        working.ptb.slotOf? 4 = none) ∧
      classify (heardBits (lights (encodeHeader (headerOf 2 1 15 256)))) = .known (headerOf 2 1 15 256) false ∧
      classify (heardBits (lights (encodeHeader (headerOf 2 4 1 51200)))) = .known (headerOf 2 4 1 51200) false ∧
      heardWellFormed (lights (encodeHeader (headerOf 2 4 1 51200))) = true := by decide +kernel

theorem witness_ValidStatusMakesThePeerFresh :
    (listening working).hears (statusLight 2) (statusHeader 2) false ∧ (statusHeader 2).kind = 0 ∧
      (listening working).payloadGood (statusLight 2) (statusHeader 2) ∧ (listening working).fromPeer (statusHeader 2) 1 := by
  unfold State.hears State.fromPeer; dsimp only [State.payloadGood]; decide +kernel

/-- The only lost slot, and one of two, is heard; a counter reaches 50 and leaves it; a bitmap that stays. -/
def peersAt (first last : Freshness) (count : Nat) : State :=
  listening { working with ptb := { working.ptb with entries :=
    (Vector.replicate 12 freshEntry |>.set 1 { freshEntry with freshness := first, disagreement := count } |>.set 11
      { freshEntry with freshness := last }) } }
theorem witness_ValidStatusMakesThePeerFresh_reports :
    (peersAt .lost .fresh 0).lostBits = 2 ∧ (peersAt .lost .stale 49).lostBits = 2 ∧ (peersAt .neverHeard .lost 0).lostBits = 2050 ∧
      (peersAt .stale .fresh 49).lostBits = 0 ∧ (peersAt .fresh .fresh 49).disagreeBits = 0 ∧
      (peersAt .fresh .fresh 50).disagreeBits = 2 ∧
      (peersAt .lost .fresh 49).hears (statusLight 2) (statusHeader 2) false ∧
      (peersAt .lost .fresh 49).fromPeer (statusHeader 2) 1 := by
  unfold State.hears State.fromPeer
  repeat' apply And.intro
  all_goals decide +kernel

theorem witness_ValidNoticeMovesTheFaultView :
    (listening working).hears (noticeLight 2) (noticeHeader 2) false ∧ (noticeHeader 2).kind = 1 ∧
      (listening working).payloadGood (noticeLight 2) (noticeHeader 2) ∧ (listening working).fromPeer (noticeHeader 2) 1 ∧
      (listening working).ptb.slots[1] = some { station := 2, rated := 15000, excluded := false, cableMonitor := true } ∧
      FaultCode.ofNumber (readNotice ((listening working).trailing (noticeLight 2))).code.toNat = some .stringCableHot := by
  unfold State.hears State.fromPeer; dsimp only [State.payloadGood]; decide +kernel

/-- A REPLY of station 12, a STATUS of the EXCLUDED station 3. -/
theorem witness_AnswersCountAsHeardUnlessExcluded :
    ((listening working).hears (replyLight 12) (replyHeader 12) false ∧ (replyHeader 12).kind = 3 ∧
        (listening working).payloadGood (replyLight 12) (replyHeader 12) ∧ (listening working).fromPeer (replyHeader 12) 11) ∧
      (listening working).hears (statusLight 3) (statusHeader 3) false ∧
        (listening working).payloadGood (statusLight 3) (statusHeader 3) ∧
        (listening working).ptb.slotOf? 3 = some 2 ∧ (peerSlots[2].map (·.excluded)) = some true := by
  unfold State.hears State.fromPeer; dsimp only [State.payloadGood]; decide +kernel

def freshPeer : PeerEntry := { freshEntry with freshness := .fresh, ageFrom := some 0, disagreement := 50 }
theorem witness_LinkAndPeerTimersExpire :
    ({ working.slc with duplicateDue := some 7 } : Slc).duplicateDue = some 7 ∧ working.ptb.isolationDue = some (ms 2000) ∧
      ({ working.ptb with foreignDue := some 7 } : Ptb).foreignDue = some 7 ∧
      (working.ptb.entries.set 1 freshPeer)[(1 : Fin 12)].ageFrom = some 0 ∧
      ({ working with ptb := { working.ptb with entries := working.ptb.entries.set 1 freshPeer } } : State).activePeer 1 = true ∧
      (working.ptb.entries.set 11 { freshPeer with freshness := .stale })[(11 : Fin 12)].freshness = .stale := by
  decide +kernel

/-! ## Commands -/

/-- Trailing light; another station's; a full REPLY slot; a sender of number 2; a code of 10. -/
theorem witness_CommandsAreTurnedAway :
    ((listening working).hears (commandLight 1 1 0) (commandOf 1 1 0) false ∧ (commandOf 1 1 0).kind = 2 ∧
        (commandLight 1 1 0).length = 40 ∧ (commandOf 1 1 0).target.toNat = working.osc.station) ∧
      (listening working).hears (commandLight 1 1 0 ++ [⟨true, false⟩]) (commandOf 1 1 0) false ∧
      ((commandOf 2 1 0).target ≠ 15 ∧ (commandOf 2 1 0).target.toNat ≠ working.osc.station) ∧
      (listening working).hears (lights (encodeHeader (headerOf 2 2 1 256))) (headerOf 2 2 1 256) false ∧
      allFull.slc.replySlot.isSome = true ∧ working.slc.replySlot = none ∧
      working.badCommand 10 0 = some .unknownCommand ∧ working.badCommand 1 1 = some .badArgument ∧
      working.badCommand 7 64 = some .badArgument ∧ working.badCommand 8 101 = some .badArgument := by
  unfold State.hears; decide +kernel

theorem witness_BroadcastIsNotAnswered :
    ((listening working).hears (commandLight 15 8 100) (commandOf 15 8 100) false ∧ (commandOf 15 8 100).kind = 2 ∧
        (commandLight 15 8 100).length = 40 ∧ (commandOf 15 8 100).target = 15) ∧
      (listening working).hears (lights (encodeHeader (headerOf 2 2 15 256))) (headerOf 2 2 15 256) false ∧
      ([0, 10].all fun code => (working.badCommand code 0).isSome) = true ∧
      ([1, 2, 3, 4, 5, 6, 9].all fun code => (working.badCommand code 0).isNone) = true ∧
      (working.badCommand 8 100 = none ∧ withRecord.badCommand 7 0 = none ∧ allFull.slc.recordSlot.isSome = true) ∧
      (standing.osc.state = .standby ∧ working.osc.state.isProducing = true ∧ working.ywc.state = .idle ∧
        requesting.ywc.state = .requestPower ∧ turning.ywc.state = .moving ∧ State.reset.osc.state.isUnloaded = true) ∧
      ((commandLight 1 9 0).length = 40 ∧ heardWellFormed (commandLight 1 9 0) = true ∧
        classify (heardBits (commandLight 1 9 0)) =
          .known { commandOf 15 9 0 with target := BitVec.ofNat 4 working.osc.station } false) := by
  unfold State.hears; decide +kernel

theorem witness_StartAndStopMoveTheOperatingState :
    (listening standing).commanded (commandLight 1 1 0) (commandOf 1 1 0) false 1 0 ∧
      (listening working).commanded (commandLight 1 2 0) (commandOf 1 2 0) false 2 0 := by
  unfold State.commanded State.hears; decide +kernel

theorem witness_StringStopEndsProduction :
    (listening working).commanded (commandLight 1 9 0) (commandOf 1 9 0) false 9 0 ∧
      (listening working).osc.state.isProducing = true := by
  unfold State.commanded State.hears; decide +kernel

/-- In IDLE, REQUEST_POWER and MOVING; and a release. -/
theorem witness_YawHoldAndRelease :
    ((listening working).commanded (commandLight 1 3 0) (commandOf 1 3 0) false 3 0 ∧ working.ywc.state = .idle) ∧
      (listening requesting).commanded (commandLight 1 3 0) (commandOf 1 3 0) false 3 0 ∧
      ((listening turning).commanded (commandLight 1 3 0) (commandOf 1 3 0) false 3 0 ∧ (listening turning).yawSound) ∧
      (listening working).commanded (commandLight 1 4 0) (commandOf 1 4 0) false 4 0 := by
  unfold State.commanded State.hears State.yawSound
  repeat' apply And.intro
  all_goals decide +kernel

/-- Twist 1799, 5400 and -5400 in IDLE; not in IDLE. -/
def twistedBy (t : Int) : State := listening { working with ywc := { working.ywc with twist := t } }
theorem witness_UntwistTakesOutWholeTurns :
    ((twistedBy 5400).commanded (commandLight 1 5 0) (commandOf 1 5 0) false 5 0 ∧ (twistedBy 5400).yawSound ∧
        (twistedBy 5400).coolingOverride = false) ∧
      (twistedBy 1799).yawSound ∧ (twistedBy (-5400)).yawSound ∧
      ((listening turning).commanded (commandLight 1 5 0) (commandOf 1 5 0) false 5 0 ∧ (listening turning).yawSound ∧
        (listening turning).coolingOverride = false) := by
  unfold State.commanded State.hears State.yawSound
  repeat' apply And.intro
  all_goals decide +kernel

theorem witness_FaultResetClosesTheCleared :
    (listening working).commanded (commandLight 1 6 0) (commandOf 1 6 0) false 6 0 := by
  unfold State.commanded State.hears; decide +kernel

/-- A latching trip whose condition has gone, in TRIPPED and in STANDBY, and beside a SAFE STOP that stays or not. -/
def clearedIn (o : OpState) (others : List Record) : State :=
  listening { working with
    osc := { working.osc with state := o, enable := false }
    flm := { flmAfterColdReset with opens := others ++ [recordAt 0 .startTimeout .openCleared] } }
theorem witness_FaultResetClosesTheCleared_states :
    (clearedIn .tripped []).commanded (commandLight 1 6 0) (commandOf 1 6 0) false 6 0 ∧
      (clearedIn .standby []).commanded (commandLight 1 6 0) (commandOf 1 6 0) false 6 0 ∧
      (clearedIn .safeStop []).commanded (commandLight 1 6 0) (commandOf 1 6 0) false 6 0 ∧
      (clearedIn .tripped []).flm.reaction.trip = true ∧ ((clearedIn .tripped []).flm.faultReset 0).reaction.trip = false ∧
      (clearedIn .safeStop [recordAt 1 .brakeApplyFail .opened]).commanded (commandLight 1 6 0) (commandOf 1 6 0) false 6 0 ∧
      ((clearedIn .safeStop [recordAt 1 .brakeApplyFail .opened]).flm.faultReset 0).reaction.safeStop = true := by
  unfold State.commanded State.hears
  repeat' apply And.intro
  all_goals decide +kernel

def failedPumps (runIn : Bool) : Vector Pump 2 := Vector.replicate 2 { state := .failed, runIn := runIn, feedbackDue := none }
theorem witness_FaultResetReviewsTheMarks :
    (∀ p : Fin 2, (failedPumps false)[p].state = .failed ∧ (failedPumps false)[p].runIn = false) ∧
      (∀ p : Fin 2, (failedPumps true)[p].state = .failed ∧ (failedPumps true)[p].runIn = true) ∧
      ((failedPumps false).set 0 (failedPumps true)[0])[0].runIn = true ∧
      ((failedPumps false).set 0 (failedPumps true)[0])[1].runIn = false ∧
      standing.clc.pumps[0].state = .duty ∧ standing.ywc.state = .idle ∧ standing.ywc.twistKnown = true ∧
      standing.osc.state.isUnloaded = false ∧ turning.ywc.state ≠ .idle ∧ State.reset.ywc.twistKnown = false := by
  decide +kernel

/-- Slot 0 requested with an empty RECORD slot; caps 0 and 100; code 0 and code 10. -/
def recorded : State := listening { working with flm := withRecord.flm }
theorem witness_RecordRequestStringCapAndUnknown :
    (recorded.commanded (commandLight 1 7 0) (commandOf 1 7 0) false 7 0 ∧ (recorded.flm.recordAt? 0).isSome = true) ∧
      (listening working).commanded (commandLight 1 8 0) (commandOf 1 8 0) false 8 0 ∧
      (listening working).commanded (commandLight 1 8 100) (commandOf 1 8 100) false 8 100 ∧
      (listening working).commanded (commandLight 1 0 0) (commandOf 1 0 0) false 0 0 ∧
      (listening working).commanded (commandLight 1 10 0) (commandOf 1 10 0) false 10 0 := by
  unfold State.commanded State.hears
  repeat' apply And.intro
  all_goals decide +kernel

/-! ## The share -/

theorem witness_ControlPeriodFormsTheLimits : working.scu.periodDue = some (ms 20) := by decide

theorem peerSlots_inRange :
    ∀ j : Fin 12, (peerSlots[j].all fun d => decide (1 ≤ d.station ∧ d.station ≤ 12 ∧ d.rated ≤ 20000)) = true := by decide +kernel
theorem peerSlots_distinct :
    ∀ i j : Fin 12, i ≠ j → (peerSlots[i].all fun d => peerSlots[j].all fun e => decide (d.station ≠ e.station)) = true := by
  decide +kernel
theorem configSound_of_tables {s : State} (h : s.ptb.slots = peerSlots) (h1 : s.ptb.loaded = !s.osc.state.isUnloaded)
    (h2 : s.scu.periodDue.isSome = s.ptb.loaded)
    (h3 : s.ptb.loaded = true → s.osc.validStation = true ∧ (s.ptb.slotOf? s.osc.station).isSome = true)
    (h4 : s.scu.cCfg ≤ 240000 ∧ s.scu.fCab ≤ 1000 ∧ s.scu.cap ≤ 100 ∧ s.clc.params.knee < s.clc.params.tripTemp ∧
      s.ywc.params.softLimit + 1800 ≤ s.ywc.params.hardLimit ∧ s.ywc.params.hardLimit ≤ 10800) : s.configSound := by
  refine ⟨h1, h2, h3, fun j d hd => ?_, fun i j d e hi hj he => ?_, h4⟩
  · rw [h] at hd; have := peerSlots_inRange j; rw [hd] at this; simpa using this
  · rw [h] at hi hj
    refine Classical.byContradiction fun n => ?_
    have := peerSlots_distinct i j n; rw [hi, hj] at this; simp [he] at this

theorem witness_RawShareIsBounded :
    working.scu.periodDue = some (ms 20) ∧ working.configSound ∧ (∃ t, exec .controlPeriod working = .next t) ∧
      working.ptb.isolated = false ∧ ({ working with ptb := { working.ptb with isolated := true } } : State).configSound :=
  ⟨by decide, configSound_of_tables (by decide) (by decide) (by decide) (by decide) (by decide), ⟨_, rfl⟩, by decide,
    configSound_of_tables (by decide) (by decide) (by decide) (by decide) (by decide)⟩

theorem witness_SharesAddUpToTheCapacity :
    (([(1, 14200), (2, 13800)] : List (Nat × Nat)).map Prod.fst).Nodup ∧
      27999 < (([(1, 14200), (2, 13800)] : List (Nat × Nat)).map Prod.snd).sum ∧
      working.scu.periodDue = some (ms 20) ∧ working.configSound :=
  ⟨by decide, by decide, by decide, configSound_of_tables (by decide) (by decide) (by decide) (by decide) (by decide)⟩

/-! ## The converter port -/

def pausedAt (kind : PortType) (n : Nat) : State :=
  { working with cvp := { working.cvp with selectLine := false, seenReleased := true, port := .paused kind n, pauseDue := some (ms 2) } }
theorem witness_SelectMovesThePort :
    (State.reset.cvp.selectLine = false ∧ State.reset.cvp.port = .idle ∧ State.reset.cvp.seenReleased = true) ∧
      ((pausedAt .read 0).cvp.selectLine = false ∧ (pausedAt .read 0).cvp.port = .paused .read 0) ∧
      (pausedAt .write 9).cvp.port = .paused .write 9 ∧
      ((portAt .idle 0 0 working).cvp.selectLine = true ∧ (portAt .idle 0 0 working).cvp.port = .idle) ∧
      (portAt .done 0 0 working).cvp.port = .done ∧
      ((portAt (.write 9) 0 0 working).cvp.port = .write 9 ∧ (portAt (.write 9) 0 0 working).cvp.bitCount = 0) ∧
      (portAt (.read 5) 7 0 working).cvp.port = .read 5 ∧ (portAt (.read 5) 7 0 working).cvp.bitCount = 7 := by decide +kernel

theorem witness_EightEdgesMakeAByte :
    ¬ State.reset.portOpen ∧ (portAt .typeByte 0 0 working).portOpen ∧ (portAt (.read 4) 0 0 working).portOpen ∧
      (portAt (.write 8) 0 0 working).portOpen ∧ (portAt (.write 8) 0 0 working).cvp.bitCount = 0 ∧
      (portAt (.write 8) 0 0 working).cvp.shift = 0 ∧ (portAt .ignore 0 0 working).portOpen ∧
      (portAt (.read 5) 7 0 working).portOpen ∧ (portAt (.read 5) 7 0 working).cvp.port = .read 5 ∧
      (portAt (.read 5) 7 0 working).cvp.bitCount < 8 := by
  unfold State.portOpen; decide +kernel

/-- Seven bits of 0x31, of 0x32 and of 0xFF; the sixth byte of a read; the timers. -/
theorem witness_PortBytesAndTimers :
    ((portAt .typeByte 7 0x18 working).portOpen ∧ (portAt .typeByte 7 0x18 working).cvp.bitCount = 7 ∧
        (0x18#8 <<< 1 ||| 1#8) = 0x31#8) ∧
      0x19#8 <<< 1 = 0x32#8 ∧ (0x7F#8 <<< 1 ||| 1#8) ≠ 0x31#8 ∧ (0x7F#8 <<< 1 ||| 1#8) ≠ 0x32#8 ∧
      ((portAt (.read 5) 7 0 working).portOpen ∧ (portAt (.read 5) 7 0 working).cvp.port = .read 5) ∧
      ((pausedAt .read 0).cvp.pauseDue = some (ms 2) ∧ (pausedAt .read 0).cvp.port = .paused .read 0) ∧
      ((pausedAt .write 9).cvp.port = .paused .write 9 ∧ (pausedAt .write 9).cvp.swapPending = false) ∧
      ({ working.cvp with strobeLine := true, strobeDue := some 2000 } : Cvp).strobeDue = some 2000 := by
  unfold State.portOpen; decide +kernel

/-- A read with a swap owed, and the same read after a control period. -/
def reading : State := portAt (.read 2) 0 0 { working with pending := [.controlPeriod] }
theorem witness_FrontBlockStaysDuringARead :
    reading.cvp.readInProgress = true ∧ (after (step reading)).cvp.readInProgress = true ∧
      (after (step reading)).cvp.swapPending = true := by decide +kernel

/-- Voltage 850 in PRODUCING; a fault word in PRODUCING; TRIPPED. -/
theorem witness_ArrivalTakesTheBlock :
    ((arriving 9000 850 working).arrives false (blockOf 9000 850 0) ∧ (arriving 9000 850 working).portQuiet ∧
        (arriving 9000 850 working).cvp.rideThrough = false ∧ (arriving 9000 850 working).osc.state = .producing) ∧
      (arriving 9000 1100 working).arrives true (blockOf 9000 1100 1) ∧
      (arriving 9000 1100 working).osc.state.isProducing = true ∧ (arriving 9000 1100 working).osc.enable = true ∧
      (arriving 9000 1100 working).flm.reaction.trip = false ∧ (List.replicate 10 (1#8)).length = 10 := by
  unfold State.arrives State.portQuiet State.portOpen; decide +kernel

/-- GRID_UNDERVOLTAGE_TRIP is present and trips. -/
def undervolted (o : OpState) : State :=
  { working with
    osc := { working.osc with state := o, enable := false }
    flm := flmAfterColdReset.take 5 (.present .gridUndervoltageTrip 300) }
theorem witness_ArrivalTakesTheBlock_undervoltage :
    (arriving 9000 899 (undervolted .tripped)).arrives false (blockOf 9000 899 0) ∧
      (arriving 9000 900 (undervolted .tripped)).arrives false (blockOf 9000 900 0) ∧
      (arriving 9000 900 (undervolted .standby)).arrives false (blockOf 9000 900 0) ∧
      ((undervolted .tripped).flm.holds .gridUndervoltageTrip = true ∧ (undervolted .tripped).flm.holds .converterPortSilent = false ∧
        (undervolted .tripped).flm.holds .converterReported = false ∧ (undervolted .tripped).flm.holds .gridOvervoltage = false ∧
        (undervolted .tripped).cvp.rideThrough = false) ∧
      (undervolted .tripped).flm.reaction.trip = true ∧
      ((undervolted .tripped).flm.take 9 (.gone .gridUndervoltageTrip)).reaction.trip = false := by
  unfold State.arrives State.portOpen
  repeat' apply And.intro
  all_goals decide +kernel

def inState (o : OpState) (enable : Bool) (s : State) : State := { s with osc := { s.osc with state := o, enable := enable } }
/-- Actual power 1 in STARTING, 5 percent of 15000 in STOPPING, a wait in STANDBY; the timers. -/
theorem witness_ProductionStartsAndEnds :
    ((arriving 1 1000 (inState .starting true working)).arrives false (blockOf 1 1000 0) ∧
        (arriving 1 1000 (inState .starting true working)).portQuiet) ∧
      ((arriving 750 1000 (inState .stopping true working)).arrives false (blockOf 750 1000 0) ∧
        (arriving 750 1000 (inState .stopping true working)).portQuiet ∧ working.ratedOwn * 5 / 100 = 750) ∧
      ((arriving 0 1000 standing).arrives false (blockOf 0 1000 0) ∧ (arriving 0 1000 standing).portQuiet ∧
        standing.osc.startDue = none ∧ standing.osc.stopDue = none ∧ standing.osc.restartDue = none) ∧
      ({ (inState .stopping true working).osc with stopDue := some 5 } : Osc).enable = true ∧
      ({ working.osc with listDue := some (ms 3600005), tripList := [5, 6, 7, 8] } : Osc).tripList = 5 :: [6, 7, 8] := by
  unfold State.arrives State.portQuiet State.portOpen; decide +kernel

theorem witness_TripsEndProduction :
    working.osc.state.isProducing = true ∧ working.osc.enable = true ∧ working.flm.reaction.trip = false ∧
      working.cvp.silenceDue = some (ms 60) ∧ ({ working.cvp with overvoltageDue := some 5 } : Cvp).overvoltageDue = some 5 ∧
      (inState .starting true working).osc.state.isProducing = true := by decide +kernel

/-- In STANDBY; in TRIPPED; a trip in force. -/
def overheated : Flm := { flmAfterColdReset with opens := [recordAt 0 .overtemperature .opened] }
theorem witness_TripsEndProduction_elsewhere :
    (standing.osc.state.isProducing = false ∧ standing.cvp.silenceDue = some (ms 60)) ∧
      ((inState .tripped false standing).osc.state.isProducing = false ∧ standing.flm.reaction.trip = false) ∧
      overheated.reaction.trip = true ∧ ({ standing.cvp with overvoltageDue := some 5 } : Cvp).overvoltageDue = some 5 ∧
      ({ standing.osc with startDue := some 5 } : Osc).startDue = some 5 := by decide +kernel

/-- Voltage 849, with no move and during one. -/
theorem witness_ADipEntersRideThrough :
    ((arriving 9000 849 working).arrives false (blockOf 9000 849 0) ∧ (arriving 9000 849 working).portQuiet ∧
        (arriving 9000 849 working).yawSound ∧ (arriving 9000 849 working).powerSound ∧
        (arriving 9000 849 working).osc.state = .producing ∧ (849#16).toNat < 850 ∧
        (arriving 9000 849 working).apa.yawGranted = 0) ∧
      (arriving 9000 849 turning).arrives false (blockOf 9000 849 0) ∧ (arriving 9000 849 turning).portQuiet ∧
        (arriving 9000 849 turning).yawSound ∧ (arriving 9000 849 turning).powerSound ∧
        (arriving 9000 849 turning).ywc.state = .moving := by
  unfold State.arrives State.portQuiet State.portOpen State.yawSound State.powerSound
  repeat' apply And.intro
  all_goals decide +kernel

/-- Ride-through since moment 0 with lowest voltage 500. -/
def riding (s : State) : State :=
  { s with
    osc := { s.osc with state := .rideThrough }, scu := { s.scu with hold := true }, apa := { s.apa with rideThrough := true }
    cvp := { s.cvp with
      rideThrough := true, entryTime := 0, lowest := 500, curveDue := some (ms 3000), recoveryDue := some (ms 90) } }
theorem witness_RideThroughRunsAndEnds :
    ((arriving 0 900 (riding working)).arrives false (blockOf 0 900 0) ∧ (arriving 0 900 (riding working)).portQuiet ∧
        (riding working).cvp.lowest ≤ (900#16).toNat) ∧
      ((arriving 0 499 (riding working)).arrives false (blockOf 0 499 0) ∧ (499#16).toNat < (riding working).cvp.lowest ∧
        (riding working).clock + ms 599 < (riding working).cvp.entryTime + ms 600 ∧
        (riding working).cvp.entryTime + ms 600 ≤ (riding working).clock + ms 600 ∧ (riding working).osc.enable = true) ∧
      (riding working).cvp.rideThrough = true ∧ (riding working).cvp.curveDue = some (ms 3000) ∧
      (riding working).osc.enable = (riding working).osc.state.isProducing ∧
      (riding working).cvp.recoveryDue = some (ms 90) := by
  unfold State.arrives State.portQuiet State.portOpen; decide +kernel

/-! ## Yaw -/

theorem witness_WindInputsAndYawTimers :
    requesting.ywc.waitDue = some (ms 60000) ∧ ({ working.ywc with retryDue := some 5 } : Ywc).retryDue = some 5 ∧
      ({ working.ywc with vaneInvalidDue := some 5 } : Ywc).state = .idle ∧
      (requesting.ywc.state = .requestPower ∧ requesting.ywc.move.any (·.untwist) = false ∧
        requesting.flm.reaction.yawStop = false) ∧
      (turning.ywc.state = .moving ∧ turning.yawSound ∧ turning.ywc.move.any (·.untwist) = false ∧
        turning.flm.reaction.yawStop = false) := by
  unfold State.yawSound; decide +kernel

theorem witness_TwistFollowsTheEncoder :
    working.ywc.prevAngle < 3600 ∧ working.osc.state.isUnloaded = false ∧
      (turning.ywc.state = .moving ∧ turning.yawSound ∧ turning.ywc.move = some someMove) ∧
      (turning.ywc.twistKnown = true ∧ turning.ywc.prevAngle = 0 ∧ turning.ywc.twist = 0 ∧
        10 < ((139 : Int) - someMove.target).natAbs ∧ 139 < someMove.target ∧ ¬ 10 < ((140 : Int) - someMove.target).natAbs) ∧
      (working.ywc.state ≠ .moving ∧ working.ywc.twistKnown = true ∧ working.flm.holds .twistRange = false ∧
        working.flm.holds .twistHardLimit = false) := by
  unfold State.yawSound; decide +kernel

/-- No move to decide; moving with two evaluations without motion behind it. -/
theorem witness_AnEvaluationTakesASample :
    (working.ywc.evalDue = some (ms 1000) ∧ working.ywc.state = .idle ∧ working.ywc.sampled.window.length < 10 ∧
        working.ywc.sampled.bypass = false) ∧
      turning.ywc.evalDue = some (ms 1000) ∧ turning.yawSound ∧
      ({ turning with ywc := { turning.ywc with stallCount := 2 } } : State).yawSound ∧
      (turning.ywc.twist - turning.ywc.stallRef).natAbs < 5 := by
  unfold State.yawSound; decide +kernel

/-- Nine samples of 80 and 81 before an evaluation that adds its like: at the threshold and above it. -/
def askew (v : Nat) : State := { working with ywc := { working.ywc with vane := v, window := List.replicate 9 (v : Int) } }
theorem witness_AnEvaluationDecidesAMove :
    ((askew 80).ywc.evalDue = some (ms 1000) ∧ (askew 80).ywc.state = .idle ∧ (askew 80).yawSound ∧
        (askew 80).coolingOverride = false ∧ (askew 80).ywc.twistKnown = true ∧ (askew 80).ywc.hold = false ∧
        (askew 80).flm.reaction.yawStop = false ∧ 10 ≤ (askew 80).ywc.sampled.window.length ∧
        (askew 80).ywc.sampled.meanError = 80) ∧
      (askew 81).yawSound ∧ (askew 81).ywc.sampled.meanError = 81 := by
  unfold State.yawSound; decide +kernel

theorem witness_TheBrakeMovesTheYawState :
    (working.yawSound ∧ working.ywc.brakeIn = false ∧ working.ywc.state = .idle) ∧
      (releasing.yawSound ∧ releasing.ywc.brakeIn = false ∧ releasing.ywc.state = .brakeRelease ∧
        releasing.ywc.releaseDue = some (ms 2000)) ∧
      (turning.yawSound ∧ turning.ywc.brakeIn = true ∧ turning.ywc.state = .moving) ∧
      braking.yawSound ∧ braking.ywc.brakeIn = true ∧ braking.ywc.state = .brakeApply ∧
      (braking.ywc.applyDue = some (ms 2000) ∧ braking.flm.reaction.safeStop = false ∧ braking.osc.state.isUnloaded = false) ∧
      requesting.yawSound ∧ ({ requesting.ywc with applyDue := some 5 } : Ywc).applyDue = some 5 ∧
      requesting.ywc.state = .requestPower := by
  unfold State.yawSound
  repeat' apply And.intro
  all_goals decide +kernel

/-- The brake released input on in IDLE, with and without BRAKE_APPLY_FAIL; off in MOVING and in BRAKE_APPLY. -/
def unbraked (s : State) (level : Bool) : State := { s with ywc := { s.ywc with brakeIn := level } }
theorem witness_TheBrakeMovesTheYawState_monitors :
    (braking.modesSound ∧ requesting.modesSound ∧ releasing.modesSound) ∧
      ((unbraked working true).yawSound ∧ (unbraked working true).ywc.brakeIn = true ∧ working.ywc.state = .idle ∧
        working.flm.holds .brakeApplyFail = false ∧
        (working.flm.take 5 (.present .brakeApplyFail 2)).holds .brakeApplyFail = true) ∧
      ((unbraked turning false).yawSound ∧ (unbraked turning false).ywc.brakeIn = false) ∧
      (unbraked braking false).yawSound ∧ (unbraked braking false).ywc.brakeIn = false ∧
      (releasing.flm.openRecord? .brakeReleaseFail = none ∧ braking.flm.openRecord? .brakeApplyFail = none ∧
        requesting.flm.openRecord? .brakeApplyFail = none) ∧
      ((unbraked turning false).modesSound ∧ ({ turning.ywc with releaseDue := some 5 } : Ywc).releaseDue = some 5) ∧
      (braking.flm.take 5 (.present .brakeReleaseFail 2)).holds .brakeReleaseFail = true ∧ braking.ywc.retryDue = none := by
  unfold State.yawSound State.modesSound
  repeat' apply And.intro
  all_goals decide +kernel

theorem witness_DrivesAreSelectedAndWatched :
    (working.ywc.state = .idle ∧ working.apa.yawRequest = none) ∧
      (turning.ywc.state = .moving ∧ turning.yawSound ∧ 4 ≤ turning.ywc.usableDrives) ∧
      (releasing.ywc.state = .brakeRelease ∧ releasing.yawSound ∧ 4 ≤ releasing.ywc.usableDrives) ∧
      (requesting.ywc.state = .requestPower ∧ requesting.yawSound ∧ requesting.coolingOverride = false ∧
        requesting.ywc.usableDrives = 6 ∧
        ({ requesting.ywc with ready := requesting.ywc.ready.set 5 false } : Ywc).usableDrives = 5) ∧
      ({ turning.ywc with feedbackDue := turning.ywc.feedbackDue.set 5 (some 7) } : Ywc).feedbackDue[(5 : Fin 6)] = some 7 ∧
      turning.ywc.marked[(5 : Fin 6)] = false ∧
      ({ turning with ywc := { turning.ywc with ready := #v[true, true, true, true, false, false] } } : State).ywc.usableDrives = 4 := by
  unfold State.yawSound
  repeat' apply And.intro
  all_goals decide +kernel

/-! ## Cooling and sensing -/

theorem witness_TemperaturesAreHeld :
    working.clc.channel? 0 = some working.clc.convIn ∧ working.clc.channel? 6 = some working.clc.cable ∧
      (3 : Fin 8) ≠ 0 ∧ (3 : Fin 8) ≠ 1 ∧ (3 : Fin 8) ≠ 2 ∧ (3 : Fin 8) ≠ 6 ∧
      State.reset.clc.channel? 1 = some State.reset.clc.convOut ∧ State.reset.clc.convOut.holdDue = some (ms 10000) := by
  decide +kernel

def pumpDue (other : PumpState) : State :=
  { working with clc := { working.clc with
    pumps := #v[{ state := .duty, runIn := false, feedbackDue := some 9 }, { state := other, runIn := false, feedbackDue := none }] } }
theorem witness_PumpsAreWatchedAndChangedOver :
    (0 : Fin 2) ≠ 1 ∧ (pumpDue .standby).clc.pumps[(0 : Fin 2)].feedbackDue = some 9 ∧
      (pumpDue .standby).clc.pumps[(1 : Fin 2)].state = .standby ∧ (pumpDue .failed).clc.pumps[(1 : Fin 2)].state = .failed ∧
      (pumpDue .failed).osc.state.isProducing = true ∧ (pumpDue .failed).osc.enable = true ∧
      (pumpDue .failed).flm.reaction.trip = false ∧
      ({ (pumpDue .standby).clc with flowDue := some 3 } : Clc).flowDue = some 3 := by decide +kernel

/-- R201: P1's running input turning on in STANDBY with the run command set makes flow delivered, and the station starts. -/
def ready : State :=
  { standing with osc := { standing.osc with runCommand := true }, clc := { (pumpDue .standby).clc with flow := 100 } }
theorem test_a_running_pump_starts_the_station :
    (after (exec (.pumpRunningInput 5 0 true) ready)).osc.state = .starting ∧ ready.clc.delivering = false := by decide +kernel

/-- Fan 1 runs and is due; the others stand still or are FAILED. -/
def fanTable (othersFailed : Bool) : Vector Fan 4 :=
  let other : Fan := { failed := othersFailed, runOut := false, runIn := false, feedbackDue := none }
  #v[{ failed := false, runOut := true, runIn := false, feedbackDue := some 9 }, other, other, other]
def fanDue (othersFailed : Bool) : State :=
  { working with apa := { working.apa with fansGranted := 1 }, clc := { working.clc with fans := fanTable othersFailed } }
theorem witness_FansAreWatchedAndReplaced :
    ((fanDue false).clc.fans[(0 : Fin 4)].feedbackDue = some 9 ∧ (fanDue false).clc.fans[(0 : Fin 4)].failed = false ∧
        (fanDue false).powerSound ∧ (fanDue false).yawSound ∧ (fanDue false).clc.fans[(0 : Fin 4)].runOut = true) ∧
      ((fanDue false).clc.fans[(1 : Fin 4)].failed = false ∧ (fanDue false).clc.fans[(1 : Fin 4)].runOut = false) ∧
      (fanDue true).powerSound ∧ (fanDue true).yawSound ∧
      ∀ g : Fin 4, ¬ (g ≠ 0 ∧ (fanDue true).clc.fans[g].failed = false ∧ (fanDue true).clc.fans[g].runOut = false) := by
  unfold State.yawSound State.powerSound
  repeat' apply And.intro
  all_goals decide +kernel

theorem witness_ACoolingEvaluationFormsItsValues :
    working.powerSound ∧ working.yawSound ∧ working.clc.convOut.validity ≠ .out ∧ working.clc.cable.validity ≠ .out ∧
      (working.flm.holds .overtemperature = true ↔ 700 ≤ working.clc.convOut.held) := by
  unfold State.yawSound State.powerSound; decide +kernel

/-- T_conv_out and the budget given; no fan runs. -/
def hot (temp : Int) (budget : Nat) (s : State) : State :=
  { s with
    clc := { s.clc with convOut := { s.clc.convOut with held := temp } }
    apa := { s.apa with figures := { s.apa.figures with budget := budget } } }
/-- An urgent move waits for power. -/
def urgent : State := withYaw requesting.ywc 0 (some true) requesting
/-- The request granted at the fan load and not below it; first after an urgent yaw request at 579; stopping a move at 580
in MOVING, BRAKE_RELEASE and BRAKE_APPLY, and not again. -/
theorem witness_ACoolingEvaluationFormsItsValues_requests :
    ((hot 579 50 turning).powerSound ∧ (hot 579 50 turning).yawSound) ∧
      ((hot 580 50 releasing).powerSound ∧ (hot 580 50 releasing).yawSound) ∧
      ((hot 580 50 braking).powerSound ∧ (hot 580 50 braking).yawSound) ∧
      ((hot 579 80 urgent).powerSound ∧ (hot 579 80 urgent).yawSound ∧ (hot 579 80 urgent).yawFirst 579) ∧
      ((hot 580 50 turning).flm.holds .overtemperature = false ∧ (hot 580 50 turning).flm.holds .stringCableHot = false ∧
        (hot 580 50 turning).clc.cable.held ≤ (hot 580 50 turning).clc.params.cableLimit) ∧
      (hot 420 53 turning).fanGranted 420 ∧ ¬ (hot 420 52 turning).fanGranted 420 ∧
      ¬ (hot 579 50 turning).stopsForFan 579 ∧ (hot 580 50 turning).stopsForFan 580 ∧
      (hot 580 50 releasing).stopsForFan 580 ∧ (hot 580 50 braking).stopsForFan 580 ∧
      ¬ ({ hot 580 50 turning with apa := { (hot 580 50 turning).apa with overrideSent := true } } : State).stopsForFan 580 := by
  unfold State.yawSound State.powerSound
  repeat' apply And.intro
  all_goals decide +kernel

/-- R166: 47 of 50 kW are granted to the pump and four motors, and a fan wants 6 at 58 degrees. -/
theorem test_cooling_override_stops_the_move :
    let t := after (exec .coolingEvaluation (hot 580 50 turning))
    (t.apa.overrideSent, t.apa.fanRequest, t.ywc.state) = (true, true, YawState.brakeApply) ∧
      t.flm.history.map (fun r => (r.code, r.value)) = [(.auxOverride, 580)] := by decide +kernel

/-- R136: a minimum flow of 200 taken by a load applies from the next cooling evaluation, not before. -/
def newMinimum : State :=
  { standing with clc := { standing.clc with params := { standing.clc.params with minFlow := 200 } } }
theorem test_a_loaded_minimum_flow_waits_for_the_evaluation :
    newMinimum.clc.delivering = true ∧ (after (exec (.flowReading 5 (some 199)) newMinimum)).clc.flowDue = none ∧
      (after (exec .coolingEvaluation newMinimum)).clc.delivering = false := by decide +kernel

/-- Channel 1 due; counting below the ceiling at 1199 and at it; the last channel. -/
def counting (i : Fin 8) : State :=
  { working with cts := { working.cts with scan := some { channel := i, phase := .counting 0 } } }
theorem witness_ScansClassifyTheElectrodes :
    (working.cts.scanDue = some (ms 2000) ∧ working.cts.channels[(0 : Fin 8)].scanned = true ∧
        ∀ j : Fin 8, j < 0 → working.cts.channels[j].scanned = false) ∧
      (∀ i : Fin 8, (Vector.replicate 8 { channelDefaults with scanned := false })[i].scanned = false) ∧
      ({ working.cts with scan := some { channel := 0, phase := .discharging 7 } } : Cts).scan =
        some { channel := 0, phase := .discharging 7 } ∧
      (counting 7).cts.scan = some { channel := 7, phase := .counting 0 } ∧
      1199 < (counting 7).cts.channels[(7 : Fin 8)].ceiling ∧ 1200 = (counting 7).cts.channels[(7 : Fin 8)].ceiling := by
  decide +kernel

/-! ## The configuration image -/

/-- STATION (C_cfg 60000, ramps 200 and 1000, strobe off) and the two PEER records of stations 1 and 2. -/
def stationRecord : List Byte :=
  [1, 0, 23, 0, 0, 234, 96, 0, 200, 3, 232, 3, 32, 100, 0, 1] ++ List.replicate 10 0
def smallRecords : List Byte := stationRecord ++ [2, 0, 4, 1, 58, 152, 0] ++ [2, 1, 4, 2, 58, 152, 0]
def smallHeader : List Byte := [0, 44, 3, 1]
def smallImage : List Byte := smallRecords ++ bytes16 (crc16 (smallHeader ++ smallRecords))
def loading (taken : List Byte) : State := { State.reset with osc := { State.reset.osc with loader := .reading taken } }

theorem witness_ImagesAreRefusedByCode :
    (State.reset.flm.holds .configInvalid = false ∧ State.reset.flm.openRecord? .configInvalid = none ∧
        State.reset.osc.state = .loading ∧ State.reset.osc.loader = .reading []) ∧
      (loading [0x96]).osc.loader = .reading [0x96#8] ∧ 4 ≤ 256 * 8 + 0 ∧ 256 * 8 + 0 ≤ 2048 ∧
      ((loading (0x96 :: smallHeader)).osc.loader = .reading [0x96#8, 0, 44, 3, 1] ∧ smallImage.length = 44 - 2) ∧
      crc16 (smallHeader ++ (smallImage.set 3 7).take 40) ≠ u16At (smallImage.set 3 7) 40 ∧
      crc16 (smallHeader ++ smallImage.take 40) = u16At smallImage 40 ∧
      (match walk 3 (smallImage.take 40) emptyStaging with
        | .good st => decide (st.settle.check 5 = .refuse 9)
        | .refuse _ => false) = true := by decide +kernel

/-- Records at the last index of their tables; the record that fits and the ones that do not. -/
theorem witness_ImagesAreRefusedByCode_records :
    (∀ q ∈ [({ id := 2, index := 11, data := [1, 58, 152, 0] } : RawRecord), { id := 4, index := 7, data := [0, 5] }], q.fits) ∧
      tableShape 0 = none ∧ tableShape 8 = none ∧ tableShape 3 = some (24, 3) ∧ 24 ≤ (24#8).toNat ∧ (23#8).toNat < 24 := by
  refine ⟨?_, by decide, by decide, by decide, by decide, by decide⟩
  intro q hq
  rcases List.mem_pair.mp hq with rfl | rfl
  · exact ⟨12, 4, by decide, by decide, by decide⟩
  · exact ⟨8, 2, by decide, by decide, by decide⟩

/-- The staging copy of a STATION record with limits as settled, and of PEER records for the stations named. -/
def staged (stations : List Nat) : Staging :=
  { emptyStaging with
    station := some
      { cCfg := 240000, rampUp := 1, rampDown := 5000, fCab := 1000, cap := 100, strobe := 2, autoStart := false,
        startThreshold := 80, softLimit := 5400, hardLimit := 7200, bandLower := 50, bandUpper := 120 }
    peers := Vector.ofFn fun j : Fin 12 => stations[j.val]?.map fun n =>
      { station := n, rated := 20000, excluded := false, cableMonitor := false } }
/-- For each code 7 to 15 a staging copy that its condition refuses, at the end of a range where there is one. -/
def refusedStaging (code : Nat) : Staging :=
  match code with
  | 7 => emptyStaging
  | 8 => staged [1]
  | 9 => staged [2, 12]
  | 10 => staged [1, 2, 2]
  | 11 => { staged [1, 2] with sectors := Vector.replicate 24 (some { steer := true, restrict := false, partner := 254, offsetRef := 7 }) }
  | 12 => { staged [1, 2] with station := (staged []).station.map fun r => { r with hardLimit := 7199 } }
  | 13 => { staged [1, 2] with cooling := some { params := { defaultCooling with knee := 650 }, clockSel := 7 } }
  | 14 => { staged [1, 2] with loads := some { defaultFigures with budgetRt := 14 } }
  | _ => { staged [1, 2] with sense := Vector.replicate 8 (some { baseline := 4095, margin := 0, ceiling := 4095 }) }
theorem witness_ImagesAreRefusedByCode_checks (code : Nat) (h : 7 ≤ code ∧ code ≤ 15) :
    (refusedStaging code).refusedFor 1 code ∧ ∀ c, c < code → ¬ (refusedStaging code).refusedFor 1 c := by
  obtain ⟨h7, h15⟩ := h
  interval_cases code <;>
    exact ⟨by simp only [Staging.refusedFor]; decide +kernel,
      by intro c hc; interval_cases c <;> simp only [Staging.refusedFor] <;> decide +kernel⟩

theorem witness_AGoodImageIsLoaded :
    (loading (0x96 :: smallHeader)).osc.state = .loading ∧ smallImage.length = 256 * (0#8).toNat + (44#8).toNat - 2 ∧
      (match judgeImage smallHeader smallImage 1 with | .good _ => true | .refuse _ => false) = true ∧
      (∀ i : Fin 12, (loading (0x96 :: smallHeader)).ptb.slots[i] = none) ∧ (loading (0x96 :: smallHeader)).yawSound ∧
      (loading (0x96 :: smallHeader)).powerSound := by
  unfold State.yawSound State.powerSound; decide +kernel

theorem test_small_image_loads :
    (after (exec (.configReadComplete 5 smallImage) (loading (0x96 :: smallHeader)))).osc.state = .standby := by decide +kernel

/-! ## The fault manager -/

/-- Every slot in use: one code OPEN, 63 records in HISTORY. -/
def fullPool : Flm :=
  { flmAfterColdReset with
    opens := [recordAt 0 .coolantLeak .openCleared]
    history := (List.finRange 63).map fun i => closedRecord i.succ .portReadAbandoned }
theorem witness_ReportsMoveRecords :
    fullPool.sound ∧ (∀ i, fullPool.inUse i = true) ∧ flmAfterColdReset.sound ∧
      (∀ r ∈ fullPool.opens, r.code ≠ .foreignTraffic) ∧ FaultCode.latching .coolantLeak = true := by
  unfold Flm.sound; decide +kernel

theorem witness_EventsAndNotices :
    fullPool.sound ∧ (fullPool.history.getLast?.map fun r => (r.code, r.closePending)) = some (.portReadAbandoned, true) ∧
      fullPool.bestNotice?.isSome = true ∧ ∀ r ∈ fullPool.opens ++ fullPool.history, some 1 ≠ some r.seq := by
  unfold Flm.sound; decide +kernel

/-! ## Soundness -/

theorem witness_StepsKeepTheModesSound :
    working.modesSound ∧ working.limitsSound ∧ working.rideThroughSound ∧ (riding working).rideThroughSound ∧
      ∃ t, step { working with pending := [.controlPeriod] } = .next t :=
  ⟨by unfold State.modesSound; decide +kernel, by unfold State.limitsSound; decide +kernel,
    by unfold State.rideThroughSound; decide +kernel, by unfold State.rideThroughSound; decide +kernel, ⟨_, rfl⟩⟩

theorem witness_StepsKeepYawAndPowerSound :
    turning.modesSound ∧ turning.yawSound ∧ turning.powerSound ∧ ∃ t, step turning = .next t :=
  ⟨by unfold State.modesSound; decide +kernel, by unfold State.yawSound; decide +kernel,
    by unfold State.powerSound; decide +kernel, ⟨_, rfl⟩⟩

theorem witness_StepsKeepThePoolSound : recorded.flm.sound ∧ ∃ t, step recorded = .next t :=
  ⟨by unfold Flm.sound; decide +kernel, ⟨_, rfl⟩⟩

theorem witness_StepsKeepTwistLinkAndConfigurationSound :
    working.twistSound ∧ (twistedBy 10800).twistSound ∧ (twistedBy (-10800)).twistSound ∧ sendingNotice.linkSound ∧
      working.modesSound ∧ working.configSound ∧ ∃ t, step working = .next t :=
  ⟨by unfold State.twistSound; decide +kernel, by unfold State.twistSound; decide +kernel,
    by unfold State.twistSound; decide +kernel, by unfold State.linkSound; decide +kernel,
    by unfold State.modesSound; decide +kernel,
    configSound_of_tables (by decide) (by decide) (by decide) (by decide) (by decide), ⟨_, rfl⟩⟩

end Sys2Proof.Tests
end

section
/-! SUPPORT. What the soundness of the twist, of the transmitter and of the configuration reads of a state, and that the
shared operations leave it as it is (95). -/

namespace Sys2Proof.Machine

/-! ## The footing -/

/-- Everything that `twistSound`, `linkSound` and `configSound` read. -/
structure Footing where
  twist : Int
  slc : Slc
  station : Nat
  unloaded : Bool
  loaded : Bool
  slots : Vector (Option Descriptor) 12
  periodRuns : Bool
  cCfg : Nat
  fCab : Nat
  cap : Nat
  cooling : CoolingParams
  yaw : YawParams

def State.footing (s : State) : Footing :=
  { twist := s.ywc.twist, slc := s.slc, station := s.osc.station, unloaded := s.osc.state.isUnloaded,
    loaded := s.ptb.loaded, slots := s.ptb.slots, periodRuns := s.scu.periodDue.isSome, cCfg := s.scu.cCfg,
    fCab := s.scu.fCab, cap := s.scu.cap, cooling := s.clc.params, yaw := s.ywc.params }

section
variable (s : State)

@[simp] theorem State.setClock_footing (t : Clocks) : (s.setClock t).footing = s.footing := rfl
@[simp] theorem State.elapse_footing (dt : Clocks) : (s.elapse dt).footing = s.footing := rfl
@[simp] theorem State.runTo_footing (t : Clocks) : (s.runTo t).footing = s.footing := rfl
@[simp] theorem State.setCvp_footing (x : Cvp) : (s.setCvp x).footing = s.footing := rfl
@[simp] theorem State.setCts_footing (x : Cts) : (s.setCts x).footing = s.footing := rfl
@[simp] theorem State.setApa_footing (x : Apa) : (s.setApa x).footing = s.footing := rfl
@[simp] theorem State.setFlm_footing (x : Flm) : (s.setFlm x).footing = s.footing := rfl
@[simp] theorem State.setUnreceived_footing (n : Nat) : (s.setUnreceived n).footing = s.footing := rfl
@[simp] theorem State.setPending_footing (q : List Instr) : (s.setPending q).footing = s.footing := rfl
@[simp] theorem State.setSlc_footing (x : Slc) : (s.setSlc x).footing = { s.footing with slc := x } := rfl

@[simp] theorem State.setYwc_footing (y : Ywc) :
    (s.setYwc y).footing = { s.footing with twist := y.twist, yaw := y.params } := rfl
@[simp] theorem State.setClc_footing (c : Clc) : (s.setClc c).footing = { s.footing with cooling := c.params } := rfl
@[simp] theorem State.setOsc_footing (o : Osc) :
    (s.setOsc o).footing = { s.footing with station := o.station, unloaded := o.state.isUnloaded } := rfl
@[simp] theorem State.setScu_footing (u : Scu) :
    (s.setScu u).footing =
      { s.footing with periodRuns := u.periodDue.isSome, cCfg := u.cCfg, fCab := u.fCab, cap := u.cap } := rfl
@[simp] theorem State.setPtb_footing (p : Ptb) :
    (s.setPtb p).footing = { s.footing with loaded := p.loaded, slots := p.slots } := rfl

/-! A block put back with the same figures leaves the footing as it was. -/

@[simp] theorem State.footing_slc : { s.footing with slc := s.slc } = s.footing := rfl
@[simp] theorem State.footing_ywc : { s.footing with twist := s.ywc.twist, yaw := s.ywc.params } = s.footing := rfl
@[simp] theorem State.footing_clc : { s.footing with cooling := s.clc.params } = s.footing := rfl
@[simp] theorem State.footing_osc :
    { s.footing with station := s.osc.station, unloaded := s.osc.state.isUnloaded } = s.footing := rfl
@[simp] theorem State.footing_scu :
    { s.footing with
      periodRuns := s.scu.periodDue.isSome, cCfg := s.scu.cCfg, fCab := s.scu.fCab, cap := s.scu.cap } = s.footing := rfl
@[simp] theorem State.footing_ptb : { s.footing with loaded := s.ptb.loaded, slots := s.ptb.slots } = s.footing := rfl

/-- A passage of the OSC between states that agree on whether an image is loaded. -/
theorem State.footing_unloaded {b : Bool} (h : s.osc.state.isUnloaded = b) :
    { s.footing with station := s.osc.station, unloaded := b } = s.footing := by rw [← h]; rfl

@[simp] theorem State.quiet_footing (r : Report) : (s.quiet r).footing = s.footing := rfl

@[simp] theorem State.quietGone_footing (c : FaultCode) : (s.quietGone c).footing = s.footing := by
  simp only [State.quietGone]; split <;> simp

@[simp] theorem State.handBlock_footing (e : Bool) (n : Nat) : (s.handBlock e n).footing = s.footing := rfl
@[simp] theorem State.extraBlock_footing : s.extraBlock.footing = s.footing := rfl

@[simp] theorem State.enableOff_footing : s.enableOff.footing = s.footing := by
  simp only [State.enableOff]; split <;> simp

/-! ## The arbiter and the yaw states -/

@[simp] theorem State.stopFan_footing : s.stopFan.footing = s.footing := by
  simp only [State.stopFan]; split <;> simp [Clc.setFanOut]

@[simp] theorem State.grantFan_footing : s.grantFan.footing = s.footing := by
  simp only [State.grantFan]; split <;> simp [Clc.setFanOut]

@[simp] theorem State.tryFan_footing : s.tryFan.footing = s.footing := by
  simp only [State.tryFan]; split <;> simp

@[simp] theorem Ywc.setDrives_twist (now : Clocks) (y : Ywc) (e r : Vector Bool 6) : (y.setDrives now e r).twist = y.twist := rfl
@[simp] theorem Ywc.setDrives_params (now : Clocks) (y : Ywc) (e r : Vector Bool 6) : (y.setDrives now e r).params = y.params := rfl
@[simp] theorem Ywc.setBrake_twist (now : Clocks) (y : Ywc) (o i : Bool) : (y.setBrake now o i).twist = y.twist := rfl
@[simp] theorem Ywc.setBrake_params (now : Clocks) (y : Ywc) (o i : Bool) : (y.setBrake now o i).params = y.params := rfl
@[simp] theorem Ywc.enterMoving_twist (now : Clocks) (k : Nat) (y : Ywc) : (y.enterMoving now k).twist = y.twist := rfl
@[simp] theorem Ywc.enterMoving_params (now : Clocks) (k : Nat) (y : Ywc) : (y.enterMoving now k).params = y.params := rfl

@[simp] theorem Ywc.enterBrakeRelease_twist (now : Clocks) (k : Nat) (y : Ywc) : (y.enterBrakeRelease now k).twist = y.twist := by
  simp only [Ywc.enterBrakeRelease]; split <;> simp
@[simp] theorem Ywc.enterBrakeRelease_params (now : Clocks) (k : Nat) (y : Ywc) : (y.enterBrakeRelease now k).params = y.params := by
  simp only [Ywc.enterBrakeRelease]; split <;> simp

@[simp] theorem State.grantYaw_footing (k : Nat) : (s.grantYaw k).footing = s.footing := by
  simp [State.grantYaw]

@[simp] theorem State.tryYaw_footing : s.tryYaw.footing = s.footing := by
  simp only [State.tryYaw]; split <;> simp

@[simp] theorem State.tryRequests_footing : s.tryRequests.footing = s.footing := by
  simp only [State.tryRequests]; split <;> simp

@[simp] theorem State.takeBackFans_footing (n : Nat) : (s.takeBackFans n).footing = s.footing := by
  induction n generalizing s with
  | zero => rfl
  | succ n ih =>
    simp only [State.takeBackFans]
    split <;> simp [ih]

@[simp] theorem State.shed_footing : s.shed.footing = s.footing := by simp [State.shed]

@[simp] theorem State.yawToIdle_footing : s.yawToIdle.footing = s.footing := by
  simp only [State.yawToIdle]; split <;> simp [Ywc.clearWindow]

@[simp] theorem State.releaseYaw_footing : s.releaseYaw.footing = s.footing := by
  simp only [State.releaseYaw]; split <;> simp

@[simp] theorem State.endMove_footing : s.endMove.footing = s.footing := by simp [State.endMove]

@[simp] theorem State.enterBrakeApply_footing : s.enterBrakeApply.footing = s.footing := by
  simp only [State.enterBrakeApply]; split <;> simp

@[simp] theorem State.withdrawYaw_footing : s.withdrawYaw.footing = s.footing := by simp [State.withdrawYaw]

@[simp] theorem State.yawStopCause_footing (b : Bool) : (s.yawStopCause b).footing = s.footing := by
  simp only [State.yawStopCause]
  repeat' split
  all_goals simp

@[simp] theorem State.overrideStop_footing : s.overrideStop.footing = s.footing := by simp [State.overrideStop]

@[simp] theorem State.examine_footing : s.examine.footing = s.footing := by
  simp only [State.examine]; split <;> simp

@[simp] theorem State.releaseFan_footing : s.releaseFan.footing = s.footing := by simp [State.releaseFan]

@[simp] theorem State.releaseFans_footing (n : Nat) : (s.releaseFans n).footing = s.footing := by
  induction n generalizing s with
  | zero => rfl
  | succ n ih => simp [State.releaseFans, ih]

@[simp] theorem State.apaEnterRideThrough_footing : s.apaEnterRideThrough.footing = s.footing := by
  simp only [State.apaEnterRideThrough]; split <;> simp

@[simp] theorem State.apaLeaveRideThrough_footing : s.apaLeaveRideThrough.footing = s.footing := by
  simp [State.apaLeaveRideThrough]

/-! ## The moves of the OSC -/

@[simp] theorem State.testStart_footing : s.testStart.footing = s.footing := by
  simp only [State.testStart]
  split
  · next h => simp [h.1, OpState.isUnloaded, State.footing_unloaded]
  · rfl

/-- An entry to STANDBY from a state in which an image is loaded. -/
theorem State.enterStandby_footing (h : s.osc.state.isUnloaded = false) : s.enterStandby.footing = s.footing := by
  simp only [State.enterStandby, State.testStart_footing, State.setOsc_footing]
  exact s.footing_unloaded h

@[simp] theorem State.noteTrip_footing : s.noteTrip.footing = s.footing := by
  simp only [State.noteTrip]
  repeat' split
  all_goals simp

@[simp] theorem State.enableOff_state : s.enableOff.osc.state = s.osc.state := by
  simp only [State.enableOff]; split <;> rfl

@[simp] theorem State.enableOff_station : s.enableOff.osc.station = s.osc.station := by
  simp only [State.enableOff]; split <;> rfl

theorem State.enterTripped_footing (h : s.osc.state.isUnloaded = false) : s.enterTripped.footing = s.footing := by
  simp only [State.enterTripped, State.quietGone_footing, State.noteTrip_footing, State.setOsc_footing,
    State.enableOff_footing, State.enableOff_station]
  exact s.footing_unloaded h

@[simp] theorem State.oscTripHolds_footing : s.oscTripHolds.footing = s.footing := by
  simp only [State.oscTripHolds]
  repeat' split
  all_goals simp_all [State.enterTripped_footing, State.footing_unloaded, OpState.isUnloaded]

@[simp] theorem State.oscTripCeases_footing : s.oscTripCeases.footing = s.footing := by
  simp only [State.oscTripCeases]; split <;> simp

@[simp] theorem State.oscSafeStopHolds_footing : s.oscSafeStopHolds.footing = s.footing := by
  simp only [State.oscSafeStopHolds]; split <;> simp_all [State.footing_unloaded, OpState.isUnloaded]

@[simp] theorem State.tell_footing (b : Reaction) : (s.tell b).footing = s.footing := by
  simp only [State.tell]
  repeat' split
  all_goals simp

@[simp] theorem State.report_footing (r : Report) : (s.report r).footing = s.footing := by simp [State.report]

@[simp] theorem State.reportGone_footing (c : FaultCode) : (s.reportGone c).footing = s.footing := by
  simp only [State.reportGone]; split <;> simp

@[simp] theorem State.report_twist (r : Report) : (s.report r).ywc.twist = s.ywc.twist :=
  congrArg Footing.twist (s.report_footing r)
@[simp] theorem State.report_yawParams (r : Report) : (s.report r).ywc.params = s.ywc.params :=
  congrArg Footing.yaw (s.report_footing r)
@[simp] theorem State.report_coolingParams (r : Report) : (s.report r).clc.params = s.clc.params :=
  congrArg Footing.cooling (s.report_footing r)
@[simp] theorem State.reportGone_twist (c : FaultCode) : (s.reportGone c).ywc.twist = s.ywc.twist :=
  congrArg Footing.twist (s.reportGone_footing c)
@[simp] theorem State.reportGone_yawParams (c : FaultCode) : (s.reportGone c).ywc.params = s.ywc.params :=
  congrArg Footing.yaw (s.reportGone_footing c)

@[simp] theorem State.reportBitmap_footing (c : FaultCode) (a b : Nat) : (s.reportBitmap c a b).footing = s.footing := by
  simp only [State.reportBitmap]
  repeat' split
  all_goals simp

@[simp] theorem State.watchFlow_footing {act : State → State} (h : (act s).footing = s.footing) :
    (s.watchFlow act).footing = s.footing := by
  simp only [State.watchFlow]; split <;> simp [h]


/-! ## The peer table -/

@[simp] theorem State.setEntry_footing (j : Fin 12) (f : PeerEntry → PeerEntry) : (s.setEntry j f).footing = s.footing := rfl

@[simp] theorem State.watchPeers_footing (act : State → State) : (s.watchPeers act).footing = (act s).footing := by
  simp [State.watchPeers]

@[simp] theorem State.heard_footing : s.heard.footing = s.footing := by
  simp only [State.heard]; split <;> simp

@[simp] theorem State.peerFrame_footing (j : Fin 12) (act : PeerEntry → PeerEntry) :
    (s.peerFrame j act).footing = s.footing := by
  simp only [State.peerFrame]; split <;> simp

@[simp] theorem State.dispatch_footing (n : Nat) (act : State → Fin 12 → PeerEntry → PeerEntry) :
    (s.dispatch n act).footing = s.footing := by
  simp only [State.dispatch]; split <;> simp

@[simp] theorem State.foreignFrame_footing (n : Nat) : (s.foreignFrame n).footing = s.footing := by simp [State.foreignFrame]

/-- An act at a due time, where it leaves the footing as it is from the moment it is due. -/
theorem State.atDue_footing (due : Option Clocks) {act : State → State} (h : ∀ t, (act (s.runTo t)).footing = s.footing) :
    (s.atDue due act).footing = s.footing := by
  cases due with
  | none => rfl
  | some t => exact h t

@[simp] theorem State.ageTimerStale_footing (j : Fin 12) : (s.ageTimerStale j).footing = s.footing := by
  simp only [State.ageTimerStale]; split <;> simp

@[simp] theorem State.ageTimerLost_footing (j : Fin 12) : (s.ageTimerLost j).footing = s.footing := by
  simp only [State.ageTimerLost]; split <;> simp

@[simp] theorem State.isolationTimer_footing : s.isolationTimer.footing = s.footing :=
  s.atDue_footing _ fun t => by simp

@[simp] theorem State.foreignTimer_footing : s.foreignTimer.footing = s.footing :=
  s.atDue_footing _ fun t => by simp

/-! ## The converter port -/

@[simp] theorem State.controlPeriod_footing : s.controlPeriod.footing = s.footing := by
  cases h : s.scu.periodDue with
  | none => simp [State.controlPeriod, h]
  | some t => simp [State.controlPeriod, State.computeShare, h, State.footing]

theorem State.enterRideThrough_footing (v : Nat) (h : s.osc.state.isUnloaded = false) :
    (s.enterRideThrough v).footing = s.footing := by
  simp only [State.enterRideThrough, State.report_footing, State.apaEnterRideThrough_footing]
  exact s.footing_unloaded h

@[simp] theorem State.oscLeaveRideThrough_footing (b : Bool) : (s.oscLeaveRideThrough b).footing = s.footing := by
  simp only [State.oscLeaveRideThrough]
  repeat' split
  all_goals simp_all [State.enterTripped_footing, State.footing_unloaded, OpState.isUnloaded]

@[simp] theorem State.leaveRideThrough_footing (b : Bool) : (s.leaveRideThrough b).footing = s.footing := by
  simp only [State.leaveRideThrough, State.report_footing, State.oscLeaveRideThrough_footing,
    State.apaLeaveRideThrough_footing]
  rfl

@[simp] theorem State.curveReached_footing : s.curveReached.footing = s.footing := by simp [State.curveReached]

@[simp] theorem State.arrivalInRideThrough_footing (v : Nat) : (s.arrivalInRideThrough v).footing = s.footing := by
  simp only [State.arrivalInRideThrough]
  repeat' split
  all_goals simp

@[simp] theorem State.judgeOvervoltage_footing (v : Nat) : (s.judgeOvervoltage v).footing = s.footing := by
  simp only [State.judgeOvervoltage]
  repeat' split
  all_goals simp

/-- Ride-through is entered from PRODUCING only, so with an image loaded. -/
theorem State.enterRideThroughIf_footing (v : Nat) :
    (if v < 850 ∧ s.osc.state = .producing then s.enterRideThrough v else s).footing = s.footing := by
  split
  · next h => exact s.enterRideThrough_footing v (by rw [h.2]; rfl)
  · rfl

@[simp] theorem State.judgeVoltage_footing : s.judgeVoltage.footing = s.footing := by
  simp only [State.judgeVoltage, State.judgeOvervoltage_footing]
  split <;> split <;> simp [State.enterRideThroughIf_footing]

@[simp] theorem State.reportFaultWord_footing : s.reportFaultWord.footing = s.footing := by
  simp only [State.reportFaultWord]; split <;> simp

theorem State.endStopping_footing (h : s.osc.state.isUnloaded = false) : s.endStopping.footing = s.footing := by
  rw [State.endStopping, State.enterStandby_footing _ (by simpa using h), State.enableOff_footing]

@[simp] theorem State.oscArrival_footing : s.oscArrival.footing = s.footing := by
  simp only [State.oscArrival]
  split
  · simp
  · split <;> simp_all [State.footing_unloaded, OpState.isUnloaded]
  · next h =>
    split
    · rw [State.endStopping_footing _ (by rw [h]; rfl)]
      simp
    · simp
  all_goals simp

@[simp] theorem State.arrival_footing (bs : List Byte) : (s.arrival bs).footing = s.footing := by simp [State.arrival]

@[simp] theorem State.portByte_footing (b : Byte) : (s.portByte b).footing = s.footing := by
  simp only [State.portByte]
  repeat' split
  all_goals simp

@[simp] theorem State.edge_footing (b : Bool) : (s.edge b).footing = s.footing := by
  simp only [State.edge]
  repeat' split
  all_goals simp

@[simp] theorem State.namedEdge_footing (e : PortEdge) (b : Bool) : (s.namedEdge e b).footing = s.footing := by
  simp only [State.namedEdge]; split <;> simp

@[simp] theorem State.pauseTimer_footing : s.pauseTimer.footing = s.footing :=
  s.atDue_footing _ fun t => by simp only []; split <;> simp

@[simp] theorem State.strobeTimer_footing : s.strobeTimer.footing = s.footing := s.atDue_footing _ fun t => by simp
@[simp] theorem State.silenceTimer_footing : s.silenceTimer.footing = s.footing := s.atDue_footing _ fun t => by simp
@[simp] theorem State.curveDeadline_footing : s.curveDeadline.footing = s.footing := s.atDue_footing _ fun t => by simp
@[simp] theorem State.recoveryTimer_footing : s.recoveryTimer.footing = s.footing := s.atDue_footing _ fun t => by simp
@[simp] theorem State.overvoltageTimer_footing : s.overvoltageTimer.footing = s.footing :=
  s.atDue_footing _ fun t => by simp

/-! ## Yaw -/

@[simp] theorem Ywc.clearWindow_twist (y : Ywc) : y.clearWindow.twist = y.twist := rfl
@[simp] theorem Ywc.clearWindow_params (y : Ywc) : y.clearWindow.params = y.params := rfl

@[simp] theorem State.platformReading_footing (r : Option (Fin 3600)) : (s.platformReading r).footing = s.footing := by
  cases r <;> simp [State.platformReading]

@[simp] theorem State.vaneReading_footing (r : Option (Fin 3600)) : (s.vaneReading r).footing = s.footing := by
  cases r <;> simp only [State.vaneReading] <;> try split
  all_goals simp

@[simp] theorem State.windReading_footing (r : Option (Fin 801)) : (s.windReading r).footing = s.footing := by
  cases r <;> simp [State.windReading]

@[simp] theorem State.vaneInvalidTimer_footing : s.vaneInvalidTimer.footing = s.footing :=
  s.atDue_footing _ fun t => by simp

@[simp] theorem State.reportDrives_footing (a b : Nat) : (s.reportDrives a b).footing = s.footing := by
  simp only [State.reportDrives]
  repeat' split
  all_goals simp

@[simp] theorem State.reselect_footing (a b : Nat) : (s.reselect a b).footing = s.footing := by
  simp only [State.reselect]
  repeat' split
  all_goals simp [Ywc.selectUnder]

theorem State.watchDrives_footing {act : Ywc → Ywc} (ht : (act s.ywc).twist = s.ywc.twist)
    (hp : (act s.ywc).params = s.ywc.params) : (s.watchDrives act).footing = s.footing := by
  simp only [State.watchDrives]
  split <;> simp [ht, hp]

@[simp] theorem State.driveReady_footing (d : Fin 6) (b : Bool) : (s.driveReady d b).footing = s.footing :=
  s.watchDrives_footing rfl rfl

@[simp] theorem State.driveRunning_footing (d : Fin 6) (b : Bool) : (s.driveRunning d b).footing = s.footing := by
  simp [State.driveRunning]

@[simp] theorem State.driveFeedback_footing (d : Fin 6) : (s.driveFeedback d).footing = s.footing :=
  s.atDue_footing _ fun _ => State.watchDrives_footing _ rfl rfl

@[simp] theorem State.enterRequestPower_footing (m : Move) : (s.enterRequestPower m).footing = s.footing := by
  simp only [State.enterRequestPower, State.examine_footing, State.setApa_footing]
  rw [State.watchDrives_footing _ rfl rfl]
  simp

@[simp] theorem State.waitPowerTimer_footing : s.waitPowerTimer.footing = s.footing := s.atDue_footing _ fun t => by simp

@[simp] theorem Ywc.takeSample_twist (y : Ywc) : y.takeSample.twist = y.twist := by
  simp only [Ywc.takeSample, Ywc.grossCheck]
  repeat' split
  all_goals rfl

@[simp] theorem Ywc.takeSample_params (y : Ywc) : y.takeSample.params = y.params := by
  simp only [Ywc.takeSample, Ywc.grossCheck]
  repeat' split
  all_goals rfl

@[simp] theorem State.countMisalignment_footing : s.countMisalignment.footing = s.footing := by
  simp only [State.countMisalignment]
  repeat' split
  all_goals simp

@[simp] theorem State.decideMove_footing : s.decideMove.footing = s.footing := by
  simp only [State.decideMove]; split <;> simp

@[simp] theorem State.stallCheck_footing : s.stallCheck.footing = s.footing := by
  simp only [State.stallCheck]
  repeat' split
  all_goals simp

@[simp] theorem State.evaluateYaw_footing : s.evaluateYaw.footing = s.footing := by
  simp only [State.evaluateYaw]
  split <;> simp

@[simp] theorem State.yawEvaluation_footing : s.yawEvaluation.footing = s.footing := s.atDue_footing _ fun t => by simp

@[simp] theorem State.brakeInput_footing (b : Bool) : (s.brakeInput b).footing = s.footing := by
  simp only [State.brakeInput]
  split
  · rfl
  · split <;> split <;> simp

@[simp] theorem State.releaseMonitor_footing : s.releaseMonitor.footing = s.footing := s.atDue_footing _ fun t => by simp

@[simp] theorem State.applyMonitor_footing : s.applyMonitor.footing = s.footing :=
  s.atDue_footing _ fun t => by simp only []; split <;> simp

@[simp] theorem State.brakeRetryTimer_footing : s.brakeRetryTimer.footing = s.footing := s.atDue_footing _ fun t => by simp

@[simp] theorem State.compareHardLimit_footing : s.compareHardLimit.footing = s.footing := by
  simp only [State.compareHardLimit]
  repeat' split
  all_goals simp

@[simp] theorem State.seekTarget_footing : s.seekTarget.footing = s.footing := by
  simp only [State.seekTarget]; split <;> simp

@[simp] theorem State.yawHold_footing : s.yawHold.footing = s.footing := by simp [State.yawHold]
@[simp] theorem State.yawRelease_footing : s.yawRelease.footing = s.footing := by simp [State.yawRelease]
@[simp] theorem State.untwist_footing : s.untwist.footing = s.footing := by
  simp only [State.untwist]; split <;> simp

/-! ## Cooling and sensing -/

@[simp] theorem Clc.setChannel_params (c : Clc) (i : Fin 8) (t : TempChannel) : (c.setChannel i t).params = c.params := by
  simp only [Clc.setChannel]
  repeat' split
  all_goals rfl

@[simp] theorem State.temperatureReading_footing (i : Fin 8) (r : Option Int) :
    (s.temperatureReading i r).footing = s.footing := by
  simp only [State.temperatureReading]
  repeat' split
  all_goals simp

@[simp] theorem State.holdTimer_footing (i : Fin 8) : (s.holdTimer i).footing = s.footing := by
  simp only [State.holdTimer]
  split
  · rfl
  · exact s.atDue_footing _ fun t => by simp

@[simp] theorem Clc.takeDuty_params (now : Clocks) (c : Clc) (i : Fin 2) : (c.takeDuty now i).params = c.params := rfl

@[simp] theorem State.flowReading_footing (r : Option (Fin 2001)) : (s.flowReading r).footing = s.footing := by
  cases r with
  | none => rfl
  | some v => exact s.watchFlow_footing (by simp)

@[simp] theorem State.failPump_footing (i : Fin 2) : (s.failPump i).footing = s.footing := by
  simp only [State.failPump]
  repeat' split
  all_goals simp

@[simp] theorem State.flowMonitor_footing : s.flowMonitor.footing = s.footing :=
  s.atDue_footing _ fun t => by
    split
    · exact State.watchFlow_footing _ (by simp)
    · rfl

@[simp] theorem State.pumpRunning_footing (i : Fin 2) (b : Bool) : (s.pumpRunning i b).footing = s.footing :=
  s.watchFlow_footing rfl

@[simp] theorem State.pumpFeedback_footing (i : Fin 2) : (s.pumpFeedback i).footing = s.footing :=
  s.atDue_footing _ fun _ => State.watchFlow_footing _ (by simp)

@[simp] theorem State.fanRunning_footing (f : Fin 4) (b : Bool) : (s.fanRunning f b).footing = s.footing := by
  simp [State.fanRunning]

@[simp] theorem State.failFan_footing (f : Fin 4) : (s.failFan f).footing = s.footing := by
  simp only [State.failFan]
  repeat' split
  all_goals simp [Clc.setFanOut]

@[simp] theorem State.fanFeedback_footing (f : Fin 4) : (s.fanFeedback f).footing = s.footing :=
  s.atDue_footing _ fun t => by simp

@[simp] theorem State.withdrawFan_footing : s.withdrawFan.footing = s.footing := by
  simp only [State.withdrawFan]; split <;> simp

@[simp] theorem State.actOnFans_footing : s.actOnFans.footing = s.footing := by
  simp only [State.actOnFans]; split <;> simp

@[simp] theorem State.formValve_footing : s.formValve.footing = s.footing := by simp [State.formValve]
@[simp] theorem State.formThermalLimit_footing : s.formThermalLimit.footing = s.footing := by simp [State.formThermalLimit]

@[simp] theorem State.judgeOvertemperature_footing : s.judgeOvertemperature.footing = s.footing := by
  simp only [State.judgeOvertemperature]
  repeat' split
  all_goals simp

@[simp] theorem State.judgeCable_footing : s.judgeCable.footing = s.footing := by
  simp only [State.judgeCable]
  repeat' split
  all_goals simp

@[simp] theorem State.takeMinFlow_footing : s.takeMinFlow.footing = s.footing := s.watchFlow_footing (by simp)

@[simp] theorem State.takeMinFlow_coolingParams : s.takeMinFlow.clc.params = s.clc.params :=
  congrArg Footing.cooling s.takeMinFlow_footing

@[simp] theorem State.evaluateCooling_footing : s.evaluateCooling.footing = s.footing := by
  simp [State.evaluateCooling, Clc.stage]

@[simp] theorem State.coolingEvaluation_footing : s.coolingEvaluation.footing = s.footing := by simp [State.coolingEvaluation]

@[simp] theorem State.resumeDuty_footing : s.resumeDuty.footing = s.footing := by
  simp only [State.resumeDuty]
  repeat' split
  all_goals simp

@[simp] theorem State.reviewCooling_footing : s.reviewCooling.footing = s.footing := by
  simp only [State.reviewCooling]
  repeat' split
  all_goals simp

@[simp] theorem State.watchSense_footing (act : Cts → Cts) : (s.watchSense act).footing = s.footing := by
  simp [State.watchSense]

@[simp] theorem State.scanTimer_footing : s.scanTimer.footing = s.footing := s.atDue_footing _ fun t => by simp

@[simp] theorem State.dischargeEnd_footing : s.dischargeEnd.footing = s.footing := by
  simp only [State.dischargeEnd]; split <;> simp

@[simp] theorem State.takeReading_footing (i : Fin 8) (r : RawClass) : (s.takeReading i r).footing = s.footing := by
  simp [State.takeReading]

@[simp] theorem State.comparatorTrip_footing (n : Nat) : (s.comparatorTrip n).footing = s.footing := by
  simp only [State.comparatorTrip]
  repeat' split
  all_goals simp

@[simp] theorem State.ceilingReached_footing : s.ceilingReached.footing = s.footing := by
  simp only [State.ceilingReached]; split <;> simp

@[simp] theorem State.stopSensing_footing : s.stopSensing.footing = s.footing := by simp [State.stopSensing]

/-! ## Timers of the OSC, and its part in commands -/

@[simp] theorem State.startTimer_footing : s.startTimer.footing = s.footing := s.atDue_footing _ fun t => by simp

@[simp] theorem State.listTimer_footing : s.listTimer.footing = s.footing :=
  s.atDue_footing _ fun t => by simp only []; split <;> simp

@[simp] theorem State.ownStart_footing : s.ownStart.after.footing = s.footing := by
  simp only [State.ownStart]; split <;> simp

@[simp] theorem State.ownStop_footing : s.ownStop.after.footing = s.footing := by
  simp only [State.ownStop]; split <;> simp_all [State.footing_unloaded, OpState.isUnloaded]

theorem OpState.isUnloaded_of_producing {o : OpState} (h : o.isProducing = true) : o.isUnloaded = false := by
  cases o <;> first | rfl | cases h

@[simp] theorem State.stringStop_footing : s.stringStop.footing = s.footing := by
  simp only [State.stringStop]
  split
  · next h =>
    have hu := OpState.isUnloaded_of_producing h
    rw [State.enterStandby_footing _ (by simpa using hu)]
    simp
  · simp

@[simp] theorem State.ownUntwist_footing : s.ownUntwist.after.footing = s.footing := by
  simp only [State.ownUntwist]; split <;> simp

@[simp] theorem State.leaveSafeStop_footing : s.leaveSafeStop.footing = s.footing := by
  simp only [State.leaveSafeStop]
  split
  · next h => exact s.enterStandby_footing (by rw [h.1]; rfl)
  · rfl

@[simp] theorem State.closeCleared_footing : s.closeCleared.footing = s.footing := by simp [State.closeCleared]

end
end Sys2Proof.Machine
end

section
/-! SUPPORT. What a step keeps of the twist range, the transmitter and the configuration: the moves of each of the three,
and with the footing everything else. -/

namespace Sys2Proof.Machine

/-- From `s` to `t` the twist range and the soundness of the transmitter are kept, and under `m` that of the configuration. -/
structure Keeps (m : Prop) (s t : State) : Prop where
  twist : s.twistSound → t.twistSound
  link : s.linkSound → t.linkSound
  config : m → s.configSound → t.configSound

/-- The three predicates read the footing only. -/
theorem soundness_of_footing {s t : State} (h : t.footing = s.footing) :
    t.twistSound = s.twistSound ∧ t.linkSound = s.linkSound ∧ t.configSound = s.configSound := by
  simp only [State.footing, Footing.mk.injEq] at h
  obtain ⟨ht, hx, hs, hu, hl, hp, hd, hc, hf, ha, hk, hy⟩ := h
  simp only [State.twistSound, State.linkSound, State.configSound, Osc.validStation, Ptb.slotOf?, ht, hx, hs, hu, hl, hp,
    hd, hc, hf, ha, hk, hy, and_self]

namespace Keeps

variable {m : Prop} {s t u : State}

theorem refl : Keeps m s s := ⟨id, id, fun _ => id⟩

theorem trans (h : Keeps m s t) (g : Keeps m t u) : Keeps m s u :=
  ⟨g.twist ∘ h.twist, g.link ∘ h.link, fun hm => g.config hm ∘ h.config hm⟩

theorem of_footing (h : t.footing = s.footing) : Keeps m s t := by
  obtain ⟨h1, h2, h3⟩ := soundness_of_footing h
  exact ⟨h1.mpr, h2.mpr, fun _ => h3.mpr⟩

/-- What happens before or after a move that leaves the footing does not matter to it. -/
theorem then_footing (h : Keeps m s t) (hu : u.footing = t.footing) : Keeps m s u := h.trans (of_footing hu)

theorem of_runTo {d : Clocks} (h : Keeps m (s.runTo d) u) : Keeps m s u :=
  trans (t := s.runTo d) (of_footing rfl) h

theorem of_elapse {dt : Clocks} (h : Keeps m (s.elapse dt) u) : Keeps m s u :=
  trans (t := s.elapse dt) (of_footing rfl) h

theorem ite {c : Prop} [Decidable c] (h : Keeps m s t) (g : Keeps m s u) : Keeps m s (if c then t else u) := by
  split
  · exact h
  · exact g

theorem setSlc {x : Slc} (h : s.linkSound → (s.setSlc x).linkSound) : Keeps m s (s.setSlc x) := ⟨id, h, fun _ => id⟩

end Keeps

/-! ## The twist -/

section
variable {m : Prop} (s : State)

theorem saturateTwist_range (x : Int) : -10800 ≤ saturateTwist x ∧ saturateTwist x ≤ 10800 := by
  simp only [saturateTwist]; omega

theorem State.takeTwist_keeps (x : Int) : Keeps m s (s.takeTwist x) := by
  have h : Keeps m s (s.setYwc { s.ywc with twist := saturateTwist x }) :=
    ⟨fun _ => saturateTwist_range x, id, fun _ => id⟩
  refine h.then_footing ?_
  simp only [State.takeTwist]
  split
  · simp
  · split <;> simp

theorem State.startTwist_keeps (zone : Option Int) : Keeps m s (s.startTwist zone) := by
  cases zone with
  | none => exact .trans (.of_footing (by simp)) (State.takeTwist_keeps _ _)
  | some z => exact .trans (.of_footing (by simp)) (State.takeTwist_keeps _ _)

theorem State.moveTwist_keeps : Keeps m s s.moveTwist :=
  .trans (.of_footing (by simp)) (State.takeTwist_keeps _ _)

/-- Until a load completes the hard limit is not compared. -/
theorem State.compareWhenLoaded_footing :
    (if s.osc.state.isUnloaded then s else s.compareHardLimit).footing = s.footing := by
  split <;> simp

theorem State.encoderReading_keeps (angle : Fin 3600) (zone : Option Int) : Keeps m s (s.encoderReading angle zone) := by
  have h : Keeps m s (s.setYwc { s.ywc with angle := angle.val }) := .of_footing (by simp)
  simp only [State.encoderReading]
  refine .then_footing ?_ (State.seekTarget_footing _)
  refine .then_footing ?_ (State.compareWhenLoaded_footing _)
  refine h.trans ?_
  split
  · exact State.moveTwist_keeps _
  · exact State.startTwist_keeps _ _

theorem State.rereadZone_keeps (zone : Option Int) : Keeps m s (s.rereadZone zone) := by
  simp only [State.rereadZone]
  split
  · cases zone with
    | none => exact .of_footing (by simp only []; split <;> simp)
    | some z =>
      refine .then_footing ?_ (State.compareWhenLoaded_footing _)
      exact .trans (.of_footing (s.reportGone_footing _)) (State.takeTwist_keeps _ _)
  · exact .refl

end
end Sys2Proof.Machine
end

section
/-! SUPPORT. What the moves of the link, the load and the commands keep. -/

namespace Sys2Proof.Machine

/-! ## Parts of the SLC that its operations leave as they are -/

section
variable (x : Slc)

@[simp] theorem Slc.setCounts_lineState (src : Source) (l e : Nat) : (x.setCounts src l e).lineState = x.lineState := by
  cases src <;> rfl
@[simp] theorem Slc.setCounts_gapDue (src : Source) (l e : Nat) : (x.setCounts src l e).gapDue = x.gapDue := by
  cases src <;> rfl
@[simp] theorem Slc.setCounts_lastBoundary (src : Source) (l e : Nat) :
    (x.setCounts src l e).lastBoundary = x.lastBoundary := by
  cases src <;> rfl
@[simp] theorem Slc.setCounts_contender (src : Source) (l e : Nat) : (x.setCounts src l e).contender = x.contender := by
  cases src <;> rfl
@[simp] theorem Slc.setCounts_sending (src : Source) (l e : Nat) : (x.setCounts src l e).sending = x.sending := by
  cases src <;> rfl
@[simp] theorem Slc.setCounts_errors (src : Source) (l e : Nat) : (x.setCounts src l e).errors = x.errors := by
  cases src <;> rfl
@[simp] theorem Slc.setCounts_statusDue (src : Source) (l e : Nat) : (x.setCounts src l e).statusDue = x.statusDue := by
  cases src <;> rfl
@[simp] theorem Slc.setCounts_duplicateDue (src : Source) (l e : Nat) :
    (x.setCounts src l e).duplicateDue = x.duplicateDue := by
  cases src <;> rfl

/-- R18: the FLM's answer changes the notice register only. -/
theorem Slc.takeOffer_eq (best : Option (Record × Transition)) :
    x.takeOffer best = { x with notice := (x.takeOffer best).notice } := by
  simp only [Slc.takeOffer]
  repeat' split
  all_goals rfl

@[simp] theorem Slc.takeOffer_sending (best : Option (Record × Transition)) : (x.takeOffer best).sending = x.sending := by
  rw [Slc.takeOffer_eq]
@[simp] theorem Slc.takeOffer_errors (best : Option (Record × Transition)) : (x.takeOffer best).errors = x.errors := by
  rw [Slc.takeOffer_eq]

end

/-! ## The transmitter -/

/-- What `linkSound` asks of the SLC of a station that is `valid` or not. -/
def Slc.sound (x : Slc) (valid : Bool) : Prop :=
  (x.contender.isSome → valid = true) ∧ (x.sending.isSome → valid = true ∧ x.lineState = .frame) ∧
    x.errors &&& 0xF800#16 = 0

theorem linkSound_iff (s : State) : s.linkSound ↔ s.slc.sound s.osc.validStation := Iff.rfl

theorem Slc.sound.silent {x : Slc} {v : Bool} (h : x.sound v) (hl : x.lineState ≠ .frame) : x.sending = none := by
  obtain ⟨-, hs, -⟩ := h
  by_contra hne
  exact hl (hs (Option.isSome_iff_ne_none.mpr hne)).2

/-- A listener is sound: it neither contends nor sends. -/
theorem Slc.sound_of_listening {x : Slc} {v : Bool} (hc : x.contender = none) (hs : x.sending = none)
    (he : x.errors &&& 0xF800#16 = 0) : x.sound v := by
  simp [Slc.sound, hc, hs, he]

/-- No event sets a bit above bit 10. -/
theorem mask_reserved (e : LinkError) : e.mask &&& 0xF800#16 = 0 := by cases e <;> decide

theorem flag_reserved {x : Slc} (e : LinkError) (h : x.errors &&& 0xF800#16 = 0) :
    (x.flag e).errors &&& 0xF800#16 = 0 := by
  simp only [Slc.flag, BitVec.and_or_distrib_right, h, mask_reserved, BitVec.or_self]

theorem Slc.sound.flag {x : Slc} {v : Bool} (e : LinkError) (h : x.sound v) : (x.flag e).sound v := by
  obtain ⟨hc, hs, he⟩ := h
  exact ⟨hc, hs, flag_reserved e he⟩

theorem Slc.sound.setCounts {x : Slc} {v : Bool} (src : Source) (l e : Nat) (h : x.sound v) :
    (x.setCounts src l e).sound v := by
  simpa [Slc.sound] using h

section
variable {m : Prop} (s : State)

theorem State.flag_keeps (e : LinkError) : Keeps m s (s.flag e) := .setSlc (Slc.sound.flag e)

theorem State.flagIf_keeps (b : Bool) (e : LinkError) : Keeps m s (s.flagIf b e) := by
  cases b with
  | false => exact .refl
  | true => exact s.flag_keeps e

theorem State.atBoundary_keeps (hl : s.slc.lineState ≠ .frame) : Keeps m s s.atBoundary := by
  refine .setSlc fun h => ?_
  have hq := Slc.sound.silent h hl
  obtain ⟨-, -, he⟩ := h
  refine ⟨?_, by simp [hq], by simpa using he⟩
  intro hx
  by_contra hv
  simp only [State.setSlc_osc, Bool.not_eq_true] at hv
  simp [hv] at hx

theorem State.idleGap_keeps : Keeps m s s.idleGap := by
  simp only [State.idleGap]
  split
  case h_1 h | h_2 h => exact .of_runTo (State.atBoundary_keeps _ (by simp [h]))
  all_goals exact .refl

theorem State.boundary_keeps : Keeps m s s.boundary := by
  simp only [State.boundary]
  split
  case h_1 h => exact .of_runTo (State.atBoundary_keeps _ (by simp [h]))
  all_goals exact .refl

/-- A move of the line while the own transmitter is dark, with the contender kept. -/
theorem State.moveLine_keeps {x : Slc} (hl : s.slc.lineState ≠ .frame) (hc : x.contender.isSome → s.slc.contender.isSome)
    (hs : x.sending = s.slc.sending) (he : x.errors = s.slc.errors) : Keeps m s (s.setSlc x) := by
  refine .setSlc fun h => ?_
  have hq := Slc.sound.silent h hl
  obtain ⟨hv, -, hr⟩ := h
  exact ⟨fun hx => hv (hc hx), by simp [hs, hq], by simpa [he] using hr⟩

theorem State.arbitrationStart_keeps : Keeps m s s.arbitrationStart := by
  simp only [State.arbitrationStart]
  split
  case h_1 h => exact s.moveLine_keeps (by simp [h]) id rfl rfl
  all_goals exact .refl

theorem State.lightSeenInTrail_keeps : Keeps m s s.lightSeenInTrail := by
  simp only [State.lightSeenInTrail]
  split
  case h_1 h | h_2 h => exact s.moveLine_keeps (by simp [h]) id rfl rfl
  all_goals exact .refl

/-- The loser of an arbitration listens on. -/
theorem Slc.sound.lose {x : Slc} {v : Bool} (src : Source) (l : LineState) (h : x.sound v) (hl : x.lineState ≠ .frame) :
    ({ x.lose src with lineState := l } : Slc).sound v := by
  have hq := h.silent hl
  obtain ⟨-, -, he⟩ := h
  simp only [Slc.lose]
  refine Slc.sound_of_listening rfl ?_ ?_
  · split <;> simp [Slc.flag, hq]
  · split
    · exact flag_reserved _ (by simpa using he)
    · simpa using he

theorem State.pulsePosition_keeps (heard : Bool) : Keeps m s (s.pulsePosition heard) := by
  simp only [State.pulsePosition]
  split
  · exact .refl
  · next c hc =>
    split
    · next hr =>
      have hl : s.slc.lineState ≠ .frame := by rcases hr.1 with h | h <;> simp [h]
      refine .of_runTo (d := s.slc.lastBoundary + bitTimes c.pulseAt) ?_
      cases heard with
      | false => exact State.moveLine_keeps _ hl (by simp [hc]) rfl rfl
      | true => exact .setSlc fun h => Slc.sound.lose c.source _ h hl
    · exact .refl

theorem Slc.sound.survivorSilent {x : Slc} {v : Bool} (now : Clocks) (lit : Bool) (h : x.sound v)
    (hl : x.lineState ≠ .frame) : (x.survivorSilent now lit).sound v := by
  have hq := h.silent hl
  obtain ⟨-, -, he⟩ := h
  cases lit <;> exact Slc.sound_of_listening rfl hq he

/-- R20: only a contender sends, and only a valid station contends. -/
theorem Slc.sound.survive {x : Slc} {v : Bool} {c : Contender} (bits : List Bool) (o : Option Nat) (h : x.sound v)
    (hc : x.contender = some c) : (x.survive c bits o).sound v := by
  obtain ⟨hv, -, he⟩ := h
  exact ⟨by simp [Slc.survive], fun _ => ⟨hv (by simp [hc]), rfl⟩, he⟩

theorem State.survival_keeps (lit : Bool) : Keeps m s (s.survival lit) := by
  simp only [State.survival]
  split
  case h_1 hl =>
    refine .of_runTo (d := s.slc.lastBoundary + bitTimes 64) ?_
    have hf : (s.runTo (s.slc.lastBoundary + bitTimes 64)).slc.lineState ≠ .frame := by simp [hl]
    split
    · exact .setSlc fun h => Slc.sound.survivorSilent _ _ h hf
    · next c hc =>
      split
      · exact .setSlc fun h => Slc.sound.survivorSilent _ _ h hf
      · exact .setSlc fun h => Slc.sound.survive _ _ h hc
  all_goals exact .refl

/-! ## Own frames -/

theorem Slc.sound.stopSending {x : Slc} {v : Bool} (now : Clocks) (dark : Nat) (h : x.sound v) :
    (x.stopSending now dark).sound v := by
  obtain ⟨hc, -, he⟩ := h
  exact ⟨hc, by simp, he⟩

theorem State.setCounts_keeps (src : Source) (l e : Nat) : Keeps m s (s.setSlc (s.slc.setCounts src l e)) :=
  .setSlc (Slc.sound.setCounts src l e)

theorem State.duplicateDetected_keeps (v : Int) : Keeps m s (s.duplicateDetected v) := by
  simp only [State.duplicateDetected]
  refine .then_footing ?_ (State.report_footing _ _)
  exact (s.flag_keeps .duplicateStation).trans (.setSlc id)

theorem State.abortSending_keeps (dark : Nat) :
    Keeps m s (s.setSlc ((s.slc.stopSending s.clock dark).flag .echoMismatch)) :=
  .setSlc fun h => Slc.sound.flag _ (Slc.sound.stopSending s.clock dark h)

theorem State.echoMismatch_keeps (bit : HeardBit) : Keeps m s (s.echoMismatch bit) := by
  simp only [State.echoMismatch]
  split
  · exact .refl
  · next f hf =>
    split
    · refine .of_runTo (d := s.slc.frameBit (bit.index + 1)) ?_
      refine .trans (State.abortSending_keeps _ (if bit.heard.lit then 0 else 1)) ?_
      refine .ite (State.setCounts_keeps _ _ _ _) ?_
      exact .trans (State.setCounts_keeps _ _ _ _) (State.duplicateDetected_keeps _ _)
    · exact .refl

/-- R34: clearing bits of the accumulator sets none. -/
theorem and_reserved {a : Half} (b : Half) (h : a &&& 0xF800#16 = 0) : (a &&& b) &&& 0xF800#16 = 0 := by
  rw [BitVec.and_assoc, BitVec.and_comm b, ← BitVec.and_assoc, h]
  exact BitVec.zero_and

theorem State.serve_keeps (f : Transmission) : Keeps m s (s.serve f) := by
  simp only [State.serve]
  split
  · split
    · exact s.setCounts_keeps _ _ _
    · exact .setSlc id
  · exact .setSlc fun ⟨hc, hs, he⟩ => ⟨hc, hs, and_reserved _ he⟩
  · exact .setSlc id
  · split
    · exact .refl
    · exact .trans (.of_footing (s.setFlm_footing _)) (.setSlc id)

theorem State.frameSent_keeps : Keeps m s s.frameSent := by
  simp only [State.frameSent]
  split
  · exact .refl
  · next f hf =>
    refine .of_runTo (d := s.slc.frameBit f.bits.length) ?_
    exact .trans (.setSlc fun h => Slc.sound.stopSending _ _ h) (State.serve_keeps _ _)

theorem State.frameTooLong_keeps : Keeps m s s.frameTooLong := by
  simp only [State.frameTooLong]
  split
  · next h =>
    refine .of_runTo (d := s.slc.frameBit (maxFrameBits + 1)) (.setSlc fun hl => Slc.sound.flag _ ?_)
    obtain ⟨hc, -, he⟩ := hl
    exact ⟨hc, by simp [h.2], he⟩
  · exact .refl

theorem State.statusTimer_keeps : Keeps m s s.statusTimer := by
  simp only [State.statusTimer]
  refine .of_runTo (d := s.slc.statusDue) (.setSlc fun hl => ?_)
  obtain ⟨hc, hs, he⟩ := hl
  exact ⟨hc, fun hx => hs (by simpa [Slc.fillStatus] using hx), he⟩

theorem State.duplicateTimer_keeps : Keeps m s s.duplicateTimer := by
  simp only [State.duplicateTimer]
  cases s.slc.duplicateDue with
  | none => exact .refl
  | some t =>
    refine .of_runTo (d := t) ?_
    exact .then_footing (t := (s.runTo t).setSlc { s.slc with duplicateDue := none }) (.setSlc id) (State.report_footing _ _)

/-! ## Received frames -/

theorem State.frameEnds_keeps {heard : List BitTime} (h : s.canEnd heard = true) : Keeps m s (s.frameEnds heard) := by
  simp only [State.canEnd, Bool.and_eq_true, beq_iff_eq] at h
  obtain ⟨⟨-, hq⟩, -⟩ := h
  simp only [State.frameEnds]
  refine .then_footing ?_ (State.setUnreceived_footing _ _)
  refine .of_runTo (d := s.slc.frameBit (heard.length + 1)) (.setSlc fun hl => ?_)
  obtain ⟨hc, -, he⟩ := hl
  exact ⟨hc, by simp [hq], he⟩

theorem State.whenFrame_keeps {heard : List BitTime} {row : RxFrame → Bool} {act : State → State}
    (ha : row (classify (heardBits heard)) = true → ∀ t, Keeps m t (act t)) : Keeps m s (s.whenFrame heard row act) := by
  simp only [State.whenFrame]
  split
  · next h => exact (s.frameEnds_keeps h.1).trans (ha h.2 _)
  · exact .refl

theorem State.senderChecks_keeps (h : Header) (corrected : Bool) {rest : State → State} (hr : ∀ t, Keeps m t (rest t)) :
    Keeps m s (s.senderChecks h corrected rest) := by
  simp only [State.senderChecks]
  refine (s.flagIf_keeps corrected .headerCorrected).trans ?_
  split
  · exact State.duplicateDetected_keeps _ _
  · split
    · exact (State.flag_keeps _ _).then_footing (State.foreignFrame_footing _ _)
    · exact hr _

theorem State.payloadChecks_keeps (h : Header) (bs : List Byte) {rest : State → State} (hr : ∀ t, Keeps m t (rest t)) :
    Keeps m s (s.payloadChecks h bs rest) := by
  simp only [State.payloadChecks]
  split
  · exact s.flag_keeps _
  · split
    · exact s.flag_keeps _
    · exact hr s

theorem State.longFrame_keeps (heard : List BitTime) (kinds : Nat → Bool)
    (act : List Byte → State → Fin 12 → PeerEntry → PeerEntry) : Keeps m s (s.longFrame heard kinds act) := by
  unfold State.longFrame
  refine s.whenFrame_keeps fun _ t => ?_
  split
  · exact t.senderChecks_keeps _ _ fun u => u.payloadChecks_keeps _ _ fun v => .of_footing (v.dispatch_footing _ _)
  all_goals exact .refl

theorem State.discardedFrame_keeps (heard : List BitTime) : Keeps m s (s.discardedFrame heard) := by
  unfold State.discardedFrame
  refine s.whenFrame_keeps fun _ t => ?_
  split
  case h_1 | h_2 => exact t.flag_keeps _
  case h_3 => exact (t.flagIf_keeps _ _).trans (State.flag_keeps _ _)
  case h_4 => exact .refl

/-! ## Commands -/

theorem State.fillReply_keeps (h : Header) (r : Result) (d : Half) : Keeps m s (s.fillReply h r d) := .setSlc id

/-- A command keeps what its owner keeps of an allowed argument. -/
theorem State.takeCommand_keeps (h : Header) {owner : BitVec 4 → State → Answer}
    (ho : s.argumentFault? h.commandCode h.argument = none → ∀ target, Keeps m s (owner target s).after) :
    Keeps m s (s.takeCommand h owner) := by
  simp only [State.takeCommand, State.broadcast, State.targeted]
  split
  · split
    · exact s.flag_keeps _
    · split
      · exact .refl
      · next hn =>
        split
        case h_1 => exact ho hn 15
        case h_2 => exact s.flag_keeps _
        all_goals exact .refl
  · split
    · split
      · exact s.flag_keeps _
      · split
        · exact (s.flag_keeps _).trans (State.fillReply_keeps _ _ _ _)
        · split
          · exact s.fillReply_keeps _ _ _
          · next hn => exact (ho hn h.sender).trans (State.fillReply_keeps _ _ _ _)
    · exact .refl

theorem State.commandFrame_keeps (heard : List BitTime) (codes : Nat → Bool) {owner : Nat → BitVec 4 → State → Answer}
    (ho : ∀ (t : State) (code arg : Nat), codes code = true → t.argumentFault? code arg = none → ∀ target,
      Keeps m t (owner arg target t).after) :
    Keeps m s (s.commandFrame heard codes owner) := by
  unfold State.commandFrame
  refine s.whenFrame_keeps fun hrow t => ?_
  split
  case h_1 hd c hcl =>
    simp only [hcl, Bool.and_eq_true] at hrow
    refine t.senderChecks_keeps _ _ fun u => .ite (u.flag_keeps _) ?_
    refine .trans (.of_footing (u.dispatch_footing _ _)) (State.takeCommand_keeps _ _ fun hn target => ?_)
    exact ho _ _ _ hrow.2 hn target
  all_goals exact .refl

/-- R42: RECORD REQUEST fills the RECORD slot at most. -/
theorem State.ownRecordRequest_keeps (target : BitVec 4) (slot : Nat) :
    Keeps m s (s.ownRecordRequest target slot).after := by
  simp only [State.ownRecordRequest]
  split
  · exact .refl
  · split
    · exact .refl
    · exact .setSlc id

/-- R186: a FAULT RESET moves the twist at most. -/
theorem State.ownFaultReset_keeps (zone : Option Int) : Keeps m s (State.ownFaultReset zone s).after := by
  simp only [State.ownFaultReset, State.faultReview]
  refine .then_footing ?_ (State.closeCleared_footing _)
  exact (s.rereadZone_keeps zone).then_footing (State.reviewCooling_footing _)

/-- R66: a cap of at most 100 percent. -/
theorem State.setCap_keeps {percent : Nat} (h : percent ≤ 100) : Keeps m s (s.setCap percent) := by
  refine ⟨id, id, fun _ hc => ?_⟩
  obtain ⟨h1, h2, h3, h4, h5, h6, h7, -, h9⟩ := hc
  exact ⟨h1, h2, h3, h4, h5, h6, h7, h, h9⟩

/-- R41: an argument of STRING CAP that is let through is at most 100. -/
theorem cap_of_argumentFault?_none {arg : Nat} (h : s.argumentFault? 8 arg = none) : arg ≤ 100 := by
  simpa [State.argumentFault?] using h

end
end Sys2Proof.Machine
end

section
/-! SUPPORT. What resets, the reading of the image and the load keep, and what a whole step keeps. -/

namespace Sys2Proof.Machine

/-! ## What an image must pass (R195, R196) -/

/-- A staging copy that is judged good has none of the failures of R195. -/
theorem Staging.check_good {st good : Staging} {own : Nat} (h : st.check own = .good good) :
    good = st ∧ ∀ q ∈ st.failures own, q.2 = false := by
  unfold Staging.check at h
  split at h
  · cases h
  · next hf =>
    cases h
    exact ⟨rfl, fun q hq => by simpa using List.find?_eq_none.mp hf q hq⟩

/-- A good image is settled and checked. -/
theorem judgeImage_good {header rest : List Byte} {own : Nat} {st : Staging} (h : judgeImage header rest own = .good st) :
    ∃ staged : Staging, st = staged.settle ∧ ∀ q ∈ st.failures own, q.2 = false := by
  simp only [judgeImage] at h
  split at h
  · cases h
  · split at h
    · cases h
    · next staged _ =>
      obtain ⟨rfl, hf⟩ := Staging.check_good h
      exact ⟨staged, rfl, hf⟩

theorem Staging.mem_peerList {st : Staging} {d : Descriptor} : d ∈ st.peerList ↔ ∃ j : Fin 12, st.peers[j] = some d := by
  simp only [Staging.peerList, List.mem_filterMap, id, exists_eq_right, Vector.mem_toList_iff, Vector.mem_iff_getElem]
  constructor
  · rintro ⟨i, hi, h⟩; exact ⟨⟨i, hi⟩, h⟩
  · rintro ⟨j, h⟩; exact ⟨j.val, j.isLt, h⟩

/-- Distinct stations tell the slots of a table apart. -/
theorem Staging.peers_injective {st : Staging} (h : st.peersDistinct = true) {i j : Fin 12} {d e : Descriptor}
    (hi : st.peers[i] = some d) (hj : st.peers[j] = some e) (hde : d.station = e.station) : i = j := by
  have hp : st.peers.toList.Pairwise fun a b => ∀ d, a = some d → ∀ e, b = some e → d.station ≠ e.station := by
    have h := of_decide_eq_true h
    rwa [List.Nodup, List.pairwise_map, Staging.peerList, List.pairwise_filterMap] at h
  rw [List.pairwise_iff_getElem] at hp
  have apart : ∀ (i j : Fin 12) (d e : Descriptor), i < j → st.peers[i] = some d → st.peers[j] = some e →
      d.station ≠ e.station := fun i j d e hlt hi hj =>
    hp i j (by simp) (by simp) hlt d (by simpa using hi) e (by simpa using hj)
  rcases lt_trichotomy i j with hlt | rfl | hlt
  · exact absurd hde (apart i j d e hlt hi hj)
  · rfl
  · exact absurd hde.symm (apart j i e d hlt hj hi)

/-! ## The load -/

section
variable {m : Prop} (s : State)

/-- A move of the OSC alone, which under `m` does not pass between a loaded and an unloaded state. -/
theorem State.setOsc_keeps {o : Osc} (hs : o.station = s.osc.station)
    (hu : m → o.state.isUnloaded = s.osc.state.isUnloaded) : Keeps m s (s.setOsc o) := by
  refine ⟨id, ?_, fun hm hc => ?_⟩
  · simp [State.linkSound, Osc.validStation, hs]
  · have hf : (s.setOsc o).footing = s.footing := by simp [hs, hu hm]
    exact (soundness_of_footing hf).2.2.mpr hc

theorem State.enterStandby_keeps (hu : m → s.osc.state.isUnloaded = false) : Keeps m s s.enterStandby :=
  .then_footing (s.setOsc_keeps (o := { s.osc with state := .standby, startDue := none, stopDue := none, restartDue := none })
    rfl fun hm => (hu hm).symm) (State.testStart_footing _)

theorem State.refuseImage_keeps (code : Nat) (hu : m → s.osc.state.isUnloaded = true) :
    Keeps m s (s.refuseImage code) :=
  .then_footing (s.setOsc_keeps (o := { s.osc with state := .unconfigured, loader := .idle }) rfl
    fun hm => (hu hm).symm) (by simp [State.refuseImage])

@[simp] theorem State.loadPeers_footing (st : Staging) :
    (s.loadPeers st).footing = { s.footing with loaded := true, slots := st.peers } := by simp [State.loadPeers]

@[simp] theorem State.loadShare_footing (r : StationRecord) :
    (s.loadShare r).footing = { s.footing with periodRuns := true, cCfg := r.cCfg, fCab := r.fCab, cap := r.cap } := rfl

@[simp] theorem State.loadConverter_footing (r : StationRecord) : (s.loadConverter r).footing = s.footing := rfl

/-- R111: the yaw parameters of a STATION record. -/
def StationRecord.yawParams (r : StationRecord) : YawParams :=
  { startThreshold := r.startThreshold, softLimit := r.softLimit, hardLimit := r.hardLimit, bandLower := r.bandLower
    bandUpper := r.bandUpper }

@[simp] theorem State.loadYaw_footing (st : Staging) (r : StationRecord) :
    (s.loadYaw st r).footing = { s.footing with yaw := r.yawParams } := by
  simp only [State.loadYaw, State.compareHardLimit_footing]
  rfl

@[simp] theorem State.loadCooling_footing (st : Staging) :
    (s.loadCooling st).footing = { s.footing with cooling := st.coolingParams } := by
  simp [State.loadCooling]

@[simp] theorem State.loadSensing_footing (st : Staging) : (s.loadSensing st).footing = s.footing := by
  simp [State.loadSensing]

@[simp] theorem State.loadPower_footing (st : Staging) : (s.loadPower st).footing = s.footing := by
  simp [State.loadPower]

@[simp] theorem State.loadModes_footing (r : StationRecord) :
    (s.loadModes r).footing = { s.footing with unloaded := false } := by
  simp only [State.loadModes, State.enterStandby]
  split
  · rfl
  · rw [State.testStart_footing]
    rfl

/-- R197: the footing that a load leaves. -/
theorem State.completeLoad_footing (st : Staging) (r : StationRecord) :
    (s.completeLoad st r).footing =
      { s.footing with
        unloaded := false, loaded := true, slots := st.peers, periodRuns := true, cCfg := r.cCfg, fCab := r.fCab
        cap := r.cap, cooling := st.coolingParams, yaw := r.yawParams } := by
  simp [State.completeLoad]

/-- R195, R196: the remap of a good image is in its ranges, names each station once, and names the own one. -/
theorem Staging.good_peers {st : Staging} {own : Nat} (h : ∀ q ∈ st.failures own, q.2 = false) :
    (∃ j : Fin 12, (st.peers[j]).map (·.station) = some own) ∧
      (∀ (j : Fin 12) (d : Descriptor), st.peers[j] = some d → 1 ≤ d.station ∧ d.station ≤ 12 ∧ d.rated ≤ 20000) ∧
      ∀ (i j : Fin 12) (d e : Descriptor), st.peers[i] = some d → st.peers[j] = some e → d.station = e.station → i = j := by
  simp only [Staging.failures, List.mem_cons, forall_eq_or_imp, Bool.not_eq_eq_eq_not, Bool.not_false] at h
  obtain ⟨-, -, h9, h10, h11, -⟩ := h
  refine ⟨?_, fun j d hd => ?_, fun i j d e hi hj => Staging.peers_injective h10 hi hj⟩
  · obtain ⟨d, hd, hs⟩ := List.any_eq_true.mp h9
    obtain ⟨j, hj⟩ := Staging.mem_peerList.mp hd
    exact ⟨j, by simpa [hj] using hs⟩
  · simp only [Staging.inRange, Bool.and_eq_true] at h11
    obtain ⟨⟨⟨⟨⟨-, hp⟩, -⟩, -⟩, -⟩, -⟩ := h11
    have hd := List.all_eq_true.mp hp d (Staging.mem_peerList.mpr ⟨j, hd⟩)
    simpa [Descriptor.inRange, and_assoc] using hd

/-- R66, R195: the figures of a good image's STATION record, and its cooling parameters. -/
theorem Staging.good_figures {st : Staging} {own : Nat} {r : StationRecord} (h : ∀ q ∈ st.failures own, q.2 = false)
    (hr : st.station = some r) :
    r.cCfg ≤ 240000 ∧ r.fCab ≤ 1000 ∧ r.softLimit + 1800 ≤ r.hardLimit ∧ r.hardLimit ≤ 10800 ∧
      st.coolingParams.knee < st.coolingParams.tripTemp := by
  simp only [Staging.failures, List.mem_cons, forall_eq_or_imp, Bool.not_eq_eq_eq_not, Bool.not_false] at h
  obtain ⟨-, -, -, -, h11, h12, h13, -⟩ := h
  simp only [Staging.inRange, hr, Option.all_some, Bool.and_eq_true, StationRecord.inRange, decide_eq_true_eq] at h11
  obtain ⟨⟨⟨⟨⟨⟨⟨hc, hf⟩, -⟩, -⟩, -⟩, -⟩, -⟩, -⟩ := h11
  simp only [hr, Option.all_some, StationRecord.goodTwist, Bool.and_eq_true, decide_eq_true_eq] at h12
  obtain ⟨⟨-, hs⟩, hh⟩ := h12
  exact ⟨hc, hf, hs, hh, by simpa using h13⟩

/-- R196: the cap of a settled STATION record. -/
theorem Staging.settled_cap {st : Staging} {r : StationRecord} (h : st.settle.station = some r) : r.cap ≤ 100 := by
  simp only [Staging.settle, Option.map_eq_some_iff] at h
  obtain ⟨q, -, rfl⟩ := h
  exact Nat.min_le_left _ _

/-- R197: a load keeps the twist and the transmitter, and leaves a sound configuration. -/
theorem State.completeLoad_keeps {st staged : Staging} {r : StationRecord} (hs : st = staged.settle)
    (hg : ∀ q ∈ st.failures s.osc.station, q.2 = false) (hr : st.station = some r) : Keeps m s (s.completeLoad st r) := by
  have hf := s.completeLoad_footing st r
  generalize s.completeLoad st r = t at hf ⊢
  simp only [State.footing, Footing.mk.injEq] at hf
  obtain ⟨htw, hslc, hn, hu, hld, hps, hd, hcc, hff, hcp, hkp, hyp⟩ := hf
  obtain ⟨⟨j, hj⟩, hrange, hone⟩ := Staging.good_peers hg
  obtain ⟨hc, hfc, hsl, hhl, hk⟩ := Staging.good_figures hg hr
  refine ⟨by simp [State.twistSound, htw], by simp [State.linkSound, Osc.validStation, hslc, hn], fun _ _ => ?_⟩
  have hvalid : t.osc.validStation = true := by
    obtain ⟨d, hd, hst⟩ := Option.map_eq_some_iff.mp hj
    obtain ⟨h1, h2, -⟩ := hrange j d hd
    simp [Osc.validStation, hn, ← hst, h1, h2]
  have hslot : (t.ptb.slotOf? t.osc.station).isSome = true := by
    rw [Ptb.slotOf?, Option.isSome_iff_ne_none, hps, hn]
    intro hnone
    have := lowest?_none.mp hnone j
    simp only [hj, beq_self_eq_true, Bool.true_eq_false] at this
  simp only [State.configSound, hld, hu, hd, hps, hcc, hff, hcp, hkp, hyp]
  exact ⟨rfl, trivial, fun _ => ⟨hvalid, hslot⟩, hrange, hone, hc, hfc, Staging.settled_cap (hs ▸ hr), hk, hsl, hhl⟩

/-! ## Reading the image -/

theorem isUnloaded_of_reading (h : s.modesSound) {bytes : List Byte} (hl : s.osc.loader = .reading bytes) :
    s.osc.state.isUnloaded = true := by
  obtain ⟨-, -, -, -, hload⟩ := h
  rw [hload (by simp [hl])]
  rfl

theorem State.configMarker_keeps (b : Byte) (hm : m → s.modesSound) : Keeps m s (s.configMarker b) := by
  simp only [State.configMarker]
  split
  · next h =>
    exact .ite (s.setOsc_keeps rfl fun _ => rfl) (s.refuseImage_keeps _ fun k => isUnloaded_of_reading s (hm k) h)
  all_goals exact .refl

theorem State.configHeader_keeps (b0 b1 b2 b3 : Byte) (hm : m → s.modesSound) :
    Keeps m s (s.configHeader b0 b1 b2 b3) := by
  simp only [State.configHeader]
  split
  · next h =>
    exact .ite (s.setOsc_keeps rfl fun _ => rfl) (s.refuseImage_keeps _ fun k => isUnloaded_of_reading s (hm k) h)
  all_goals exact .refl

theorem State.configRest_keeps (rest : List Byte) (hm : m → s.modesSound) : Keeps m s (s.configRest rest) := by
  simp only [State.configRest]
  split
  · next h =>
    have hu (k : m) := isUnloaded_of_reading s (hm k) h
    refine .ite ?_ .refl
    split
    · exact s.refuseImage_keeps _ hu
    · next st hj =>
      obtain ⟨staged, hs, hg⟩ := judgeImage_good hj
      split
      · next r hr => exact s.completeLoad_keeps hs hg hr
      · exact s.refuseImage_keeps _ hu
  all_goals exact .refl

/-! ## Resets -/

theorem State.resetBlocks_keeps (f : Flm) (n : Nat) : Keeps m s (s.resetBlocks f n) := by
  refine ⟨fun _ => by simp [State.twistSound, State.resetBlocks, ywcAfterReset],
    fun _ => Slc.sound_of_listening rfl rfl (show (0 : Half) &&& 0xF800#16 = 0 by decide), fun _ _ => ?_⟩
  simp [State.configSound, State.resetBlocks, ptbAfterReset, scuAfterReset, oscAfterReset, clcAfterReset, ywcAfterReset,
    OpState.isUnloaded, defaultCooling, defaultYawParams]

theorem State.endReset_keeps (hu : s.osc.state.isUnloaded = true) : Keeps m s s.endReset := by
  simp only [State.endReset]
  have hf := s.reportDrives_footing 6 s.ywc.usableCount
  refine .trans (.of_footing hf) (.ite .refl (State.refuseImage_keeps _ _ fun _ => ?_))
  exact (congrArg Footing.unloaded hf).trans hu

/-! ## Timers of the OSC -/

theorem State.endStopping_keeps (hu : m → s.osc.state.isUnloaded = false) : Keeps m s s.endStopping :=
  .trans (.of_footing s.enableOff_footing) (State.enterStandby_keeps _ fun k => by simpa using hu k)

/-- R203: the stop timer runs in STOPPING only. -/
theorem State.stopTimer_keeps (hm : m → s.modesSound) : Keeps m s s.stopTimer := by
  simp only [State.stopTimer]
  cases hd : s.osc.stopDue with
  | none => exact .refl
  | some t =>
    refine .of_runTo (d := t) (.trans (t := (s.runTo t).setOsc { s.osc with stopDue := none })
      (State.setOsc_keeps _ rfl fun _ => rfl) (State.endStopping_keeps _ fun k => ?_))
    obtain ⟨-, -, hstop, -⟩ := hm k
    simp [hstop (by simp [hd]), OpState.isUnloaded]

/-- R205: the restart delay runs in TRIPPED only. -/
theorem State.restartDelay_keeps (hm : m → s.modesSound) : Keeps m s s.restartDelay := by
  simp only [State.restartDelay]
  cases hd : s.osc.restartDue with
  | none => exact .refl
  | some t =>
    refine .of_runTo (d := t) (.trans (t := (s.runTo t).setOsc { s.osc with restartDue := none })
      (State.setOsc_keeps _ rfl fun _ => rfl) (State.enterStandby_keeps _ fun k => ?_))
    obtain ⟨-, -, -, hrest, -⟩ := hm k
    simp [hrest (by simp [hd]), OpState.isUnloaded]


/-! ## Every command -/

/-- What the commands keep: each command by what it does, most of them by leaving the footing. -/
theorem exec_keeps {c : Instr} {t : State} (h : exec c s = .next t) : Keeps s.modesSound s t := by
  have hm (dt : Clocks) : s.modesSound → (s.elapse dt).modesSound := id
  cases c <;> injection h with h <;> subst h
  case coldReset straps => exact (s.resetBlocks_keeps _ _).trans (State.endReset_keeps _ rfl)
  case warmReset dt straps =>
    exact .of_elapse (dt := dt) ((State.resetBlocks_keeps _ _ _).trans (State.endReset_keeps _ rfl))
  case idleGap => exact s.idleGap_keeps
  case boundary => exact s.boundary_keeps
  case arbitrationStart dt => exact .of_elapse (dt := dt) (State.arbitrationStart_keeps _)
  case pulsePosition b => exact s.pulsePosition_keeps b
  case survival b => exact s.survival_keeps b
  case echoMismatch b => exact s.echoMismatch_keeps b
  case frameSent => exact s.frameSent_keeps
  case frameTooLong => exact s.frameTooLong_keeps
  case frameDiscarded heard => exact s.discardedFrame_keeps heard
  case statusReceived heard => exact s.longFrame_keeps heard _ _
  case noticeReceived heard => exact s.longFrame_keeps heard _ _
  case replyOrRecordReceived heard => exact s.longFrame_keeps heard _ _
  case start heard => exact s.commandFrame_keeps heard _ fun t _ _ _ _ _ => .of_footing t.ownStart_footing
  case stop heard => exact s.commandFrame_keeps heard _ fun t _ _ _ _ _ => .of_footing t.ownStop_footing
  case yawHold heard => exact s.commandFrame_keeps heard _ fun t _ _ _ _ _ => .of_footing t.yawHold_footing
  case yawRelease heard => exact s.commandFrame_keeps heard _ fun t _ _ _ _ _ => .of_footing t.yawRelease_footing
  case untwist heard => exact s.commandFrame_keeps heard _ fun t _ _ _ _ _ => .of_footing t.ownUntwist_footing
  case faultReset heard zone => exact s.commandFrame_keeps heard _ fun t _ _ _ _ _ => t.ownFaultReset_keeps zone
  case recordRequest heard => exact s.commandFrame_keeps heard _ fun t _ _ _ _ _ => t.ownRecordRequest_keeps _ _
  case stringCap heard =>
    refine s.commandFrame_keeps heard _ fun t code arg hc ha _ => t.setCap_keeps ?_
    rw [beq_iff_eq] at hc
    exact cap_of_argumentFault?_none t (hc ▸ ha)
  case stringStop heard => exact s.commandFrame_keeps heard _ fun t _ _ _ _ _ => .of_footing t.stringStop_footing
  case unknownCommand heard => exact s.commandFrame_keeps heard _ fun _ _ _ _ _ _ => .refl
  case statusTimerExpiry => exact s.statusTimer_keeps
  case duplicateTimerExpiry => exact s.duplicateTimer_keeps
  case encoderReading dt angle zone => exact .of_elapse (dt := dt) (State.encoderReading_keeps _ _ _)
  case configMarkerReceived dt b => exact .of_elapse (dt := dt) (State.configMarker_keeps _ _ (hm dt))
  case configHeaderReceived dt b0 b1 b2 b3 => exact .of_elapse (dt := dt) (State.configHeader_keeps _ _ _ _ _ (hm dt))
  case configReadComplete dt rest => exact .of_elapse (dt := dt) (State.configRest_keeps _ _ (hm dt))
  case stopTimerExpiry => exact s.stopTimer_keeps id
  case restartDelayExpiry => exact s.restartDelay_keeps id
  case lightSeenInTrail dt => exact .of_elapse (dt := dt) (State.lightSeenInTrail_keeps _)
  all_goals exact .of_footing (by simp)

/-- A step keeps what the command at the front of the queue keeps. -/
theorem step_keeps {t : State} (h : step s = .next t) : Keeps s.modesSound s t := by
  rcases step_cases s with ⟨-, hs⟩ | ⟨c, rest, -, hs⟩
  · rw [hs] at h
    cases h
    exact .refl
  · rw [hs] at h
    exact .trans (t := { s with pending := rest }) (.of_footing rfl) (exec_keeps { s with pending := rest } h)

end

/-- Settles O60: each step moves the footing by the few moves that keep the three predicates, or not at all. -/
theorem stepsKeepTwistLinkAndConfigurationSound : Obligations.StepsKeepTwistLinkAndConfigurationSound :=
  ⟨fun s _ hs ht => (step_keeps s ht).twist hs, fun s _ hs ht => (step_keeps s ht).link hs,
    fun s _ hm hs ht => (step_keeps s ht).config hm hs⟩

end Sys2Proof.Machine
end

section
/-! SUPPORT. The line, the boundary, the rounds and the survival in the terms of the statements (chapter 1, R21). -/

namespace Sys2Proof.Machine

/-! ## The light that moves the line -/

/-- Settles O7: each of the three is the one arm of its command, and bit 8 is that of the length error. -/
theorem lightMovesTheLine : Obligations.LightMovesTheLine := by
  intro dt s
  refine ⟨fun h => ?_, fun h => ?_, fun h hq => ?_⟩
  · simp only [exec, execArbitrationStart, State.arbitrationStart, State.elapse_slc, h]
    rfl
  · rcases h with h | h <;> simp only [exec, execLightSeenInTrail, State.lightSeenInTrail, State.elapse_slc, h] <;> rfl
  · have hf : s.frameTooLong = _ := if_pos ⟨h, hq⟩
    exact congrArg Host.Outcome.next hf

/-! ## The first of the best -/

/-- The better of the best so far and a newcomer, who must exceed it. -/
def keepBest {α : Type} (key : α → Nat) (best : Option α) (a : α) : Option α :=
  match best with
  | none => some a
  | some b => if key b < key a then some a else some b

/-- `c` is the first of the best of a list: no key exceeds its key, and among equals it stands first in the order `R`. -/
def firstBest {α : Type} (key : α → Nat) (R : α → α → Prop) (l : List α) (c : α) : Prop :=
  c ∈ l ∧ ∀ a ∈ l, key a < key c ∨ (key a = key c ∧ R c a)

theorem foldl_keepBest_some {α : Type} (key : α → Nat) {R : α → α → Prop} (hrefl : ∀ a, R a a)
    (htrans : ∀ a b c, R a b → R b c → R a c) (l : List α) (b : α) (hl : (b :: l).Pairwise R) :
    ∃ c, l.foldl (keepBest key) (some b) = some c ∧ firstBest key R (b :: l) c := by
  induction l generalizing b with
  | nil => exact ⟨b, rfl, by simp, by simp [hrefl]⟩
  | cons a l ih =>
    obtain ⟨hb, ha⟩ := List.pairwise_cons.mp hl
    by_cases hlt : key b < key a
    · obtain ⟨c, hf, hc, hmax⟩ := ih a ha
      refine ⟨c, by simpa [keepBest, hlt] using hf, List.mem_cons_of_mem _ hc, fun d hd => ?_⟩
      rcases List.mem_cons.mp hd with rfl | hd
      · have := hmax a (by simp)
        omega
      · exact hmax d hd
    · obtain ⟨c, hf, hc, hmax⟩ := ih b (hl.sublist (by simp))
      refine ⟨c, by simpa [keepBest, hlt] using hf, by grind, fun d hd => ?_⟩
      have hbc := hmax b (by simp)
      rcases List.mem_cons.mp hd with rfl | hd
      · exact hbc
      · rcases List.mem_cons.mp hd with rfl | hd
        · rcases hbc with h | ⟨h, hr⟩
          · omega
          · rcases Nat.lt_or_ge (key d) (key c) with hd | hd
            · exact .inl hd
            · exact .inr ⟨by omega, htrans _ _ _ hr (hb d (by simp))⟩
        · exact hmax d (by simp [hd])

/-- The fold takes none from the empty list only, else the first of the best. -/
theorem foldl_keepBest {α : Type} (key : α → Nat) {R : α → α → Prop} (hrefl : ∀ a, R a a)
    (htrans : ∀ a b c, R a b → R b c → R a c) (l : List α) (hl : l.Pairwise R) :
    match l.foldl (keepBest key) none with
    | none => l = []
    | some c => firstBest key R l c := by
  cases l with
  | nil => rfl
  | cons b l =>
    obtain ⟨c, hf, hc⟩ := foldl_keepBest_some key hrefl htrans l b hl
    have : (b :: l).foldl (keepBest key) none = some c := hf
    rw [this]
    exact hc

/-! ## The boundary -/

theorem Slc.takeOffer_notice (x : Slc) (best : Option (Record × Transition)) :
    (x.takeOffer best).notice = noticeAfter x.notice best := by
  cases best with
  | none => rfl
  | some b =>
    cases hn : x.notice with
    | none => simp [Slc.takeOffer, noticeAfter, hn]
    | some n =>
      by_cases h : n.slot = b.1.slot ∧ n.transition = b.2
      · simp [Slc.takeOffer, noticeAfter, hn, h, Option.filter]
      · simp [Slc.takeOffer, noticeAfter, hn, h, Option.filter]

theorem mem_sourceOrder (src : Source) : src ∈ sourceOrder := by cases src <;> decide

/-- R19: the choice is the first of the best among the full sources. -/
theorem Slc.choose_eq (x : Slc) : x.choose = (sourceOrder.filter x.full).foldl (keepBest x.priority) none := by
  simp only [Slc.choose]
  congr 1
  funext best src
  cases best <;> rfl

theorem Slc.choose_spec (x : Slc) :
    match x.choose with
    | none => ∀ src, x.full src = false
    | some c => x.full c = true ∧ ∀ src, x.full src = true →
        x.priority src < x.priority c ∨ (x.priority src = x.priority c ∧ c.place ≤ src.place) := by
  have horder : sourceOrder.Pairwise fun a b => a.place ≤ b.place := by decide
  have hbest := foldl_keepBest x.priority (R := fun a b => a.place ≤ b.place) (fun _ => Nat.le_refl _)
    (fun _ _ _ => Nat.le_trans) (sourceOrder.filter x.full) (horder.filter _)
  rw [← Slc.choose_eq] at hbest
  cases hc : x.choose with
  | none =>
    simp only [hc, List.filter_eq_nil_iff] at hbest
    exact fun src => by simpa using hbest src (mem_sourceOrder src)
  | some c =>
    simp only [hc, firstBest, List.mem_filter, mem_sourceOrder, true_and] at hbest
    exact hbest

/-- The SLC at a boundary before the choice: the notice question is answered and the line is IDLE. -/
def State.offered (s : State) : Slc :=
  { s.slc.takeOffer s.flm.bestNotice? with lastBoundary := s.clock, lineState := .idle }

theorem State.atBoundary_eq (s : State) :
    s.atBoundary = s.setSlc { s.offered with
      contender := if s.osc.validStation then s.offered.choose.map (s.offered.contenderFor s.osc.station) else none
      pulseFrom := none } := rfl

/-- R2, R18, R19, R20: what the boundary now leaves. -/
theorem State.atBoundary_spec (s : State) : ∃ x, s.atBoundary = s.setSlc x ∧ s.boundaryAt s.clock x := by
  refine ⟨_, s.atBoundary_eq, ?_, ?_⟩
  · simp only [State.offered]
    rw [Slc.takeOffer_eq, Slc.takeOffer_notice]
  · have hbest := s.offered.choose_spec
    cases hv : s.osc.validStation with
    | false => exact .inl rfl
    | true =>
      cases hc : s.offered.choose with
      | none =>
        rw [hc] at hbest
        exact .inr hbest
      | some c =>
        rw [hc] at hbest
        exact ⟨rfl, hbest.1, rfl, rfl, rfl, hbest.2⟩

/-- A boundary at a due time. -/
theorem State.atBoundary_runTo (s : State) (t : Clocks) :
    ∃ x, (s.runTo t).atBoundary = { s with clock := max s.clock t, slc := x } ∧ s.boundaryAt (max s.clock t) x :=
  (s.runTo t).atBoundary_spec

theorem noticeBase_eq (c : FaultCode) :
    c.noticeBase = if c.severity = .trip ∨ c.severity = .safeStop ∨ c = .stringCableHot then 13 else 7 := by
  cases c <;> rfl

/-- Settles O6: the choice is the fold of the better of two candidates over the sources, in the order of ties. -/
theorem boundaryChoosesAFrame : Obligations.BoundaryChoosesAFrame := by
  refine ⟨fun s => ⟨fun h => ?_, fun h => ?_⟩, fun x => ⟨rfl, rfl, rfl⟩, fun x n hn => ?_, fun x src => ⟨rfl, ?_⟩⟩
  · obtain ⟨x, hx, hb⟩ := s.atBoundary_runTo s.slc.gapDue
    refine ⟨x, ?_, hb⟩
    rcases h with h | h <;> simp only [exec, execIdleGap, State.idleGap, h, hx]
  · obtain ⟨x, hx, hb⟩ := s.atBoundary_runTo (s.slc.lastBoundary + bitTimes 16)
    exact ⟨x, by simp only [exec, execBoundary, State.boundary, h, hx], hb⟩
  · simp [Slc.base, hn, noticeBase_eq]
  · exact Nat.lt_of_le_of_lt (Nat.min_le_left _ _) (by decide)

/-! ## The rounds -/

section
variable (x : Slc)

theorem Slc.loss_setCounts (src : Source) (l e : Nat) (o : Source) :
    (x.setCounts src l e).loss o = if o = src ∧ x.full src = true then l else x.loss o := by
  cases src <;> cases o <;> simp [Slc.setCounts, Slc.loss, Slc.full]
  case status.status => cases x.statusSlot <;> simp
  case reply.reply => cases x.replySlot <;> simp
  case record.record => cases x.recordSlot <;> simp
  case notice.notice => cases x.notice <;> simp

theorem Slc.echo_setCounts (src : Source) (l e : Nat) (o : Source) :
    (x.setCounts src l e).echo o = if o = src ∧ x.full src = true then e else x.echo o := by
  cases src <;> cases o <;> simp [Slc.setCounts, Slc.echo, Slc.full]
  case status.status => cases x.statusSlot <;> simp
  case reply.reply => cases x.replySlot <;> simp
  case record.record => cases x.recordSlot <;> simp
  case notice.notice => cases x.notice <;> simp

@[simp] theorem Slc.full_setCounts (src : Source) (l e : Nat) (o : Source) : (x.setCounts src l e).full o = x.full o := by
  cases src <;> cases o <;> simp [Slc.setCounts, Slc.full]

/-! The counts are beside the contents. -/

@[simp] theorem Slc.statusContent_setCounts (src : Source) (l e : Nat) :
    (x.setCounts src l e).statusSlot.map (·.content) = x.statusSlot.map (·.content) := by
  cases src <;> simp [Slc.setCounts, Function.comp_def]
@[simp] theorem Slc.replyContent_setCounts (src : Source) (l e : Nat) :
    (x.setCounts src l e).replySlot.map (·.content) = x.replySlot.map (·.content) := by
  cases src <;> simp [Slc.setCounts, Function.comp_def]
@[simp] theorem Slc.recordContent_setCounts (src : Source) (l e : Nat) :
    (x.setCounts src l e).recordSlot.map (·.content) = x.recordSlot.map (·.content) := by
  cases src <;> simp [Slc.setCounts, Function.comp_def]
@[simp] theorem Slc.noticeIdentity_setCounts (src : Source) (l e : Nat) :
    (x.setCounts src l e).notice.map (fun n => (n.slot, n.transition, n.code)) =
      x.notice.map fun n => (n.slot, n.transition, n.code) := by
  cases src <;> simp [Slc.setCounts, Function.comp_def]

/-- R5, R7: the SLC of a loser, whose frame has one loss more. -/
theorem Slc.lose_eq (src : Source) :
    let y := x.setCounts src (satSucc (x.loss src)) (x.echo src)
    let aged := x.priority src < 14 ∧ y.priority src = 14
    x.lose src = { y with
      contender := none, pulseFrom := none
      errors := if aged then x.errors ||| 0x400#16 else x.errors
      errorsSinceCopy := if aged then y.errorsSinceCopy ||| 0x400#16 else y.errorsSinceCopy } := by
  have hmask : LinkError.agedToCap.mask = 0x400#16 := by decide
  simp only [Slc.lose]
  split <;> simp [Slc.flag, hmask]

end

/-- The contender's pulse position, where it is reached now. -/
theorem State.pulsePosition_eq {s : State} {c : Contender} (hc : s.slc.contender = some c)
    (hl : s.slc.lineState = .idle ∨ s.slc.lineState = .arbitration) (hr : c.round ≤ 4) (heard : Bool) :
    s.pulsePosition heard =
      let t := s.runTo (s.slc.lastBoundary + bitTimes c.pulseAt)
      if heard then t.setSlc { s.slc.lose c.source with lineState := .arbitration }
      else t.setSlc { s.slc with
        lineState := .arbitration, pulseFrom := some t.clock, contender := some { c with round := c.round + 1 } } := by
  simp only [State.pulsePosition, hc]
  exact if_pos ⟨hl, hr⟩

/-- Settles O8: the loser changes the counts of its own source alone, and the aged bit beside them. -/
theorem pulseKeepsOrLosesTheRound : Obligations.PulseKeepsOrLosesTheRound := by
  intro c s hc hl hr hfull now
  refine ⟨congrArg Host.Outcome.next (State.pulsePosition_eq hc hl hr false), { s.slc.lose c.source with lineState := .arbitration },
    congrArg Host.Outcome.next (State.pulsePosition_eq hc hl hr true), ?_⟩
  rw [Slc.lose_eq]
  generalize hy : s.slc.setCounts c.source (satSucc (s.slc.loss c.source)) (s.slc.echo c.source) = y
  have hloss (o : Source) : y.loss o = if o = c.source then satSucc (s.slc.loss c.source) else s.slc.loss o := by
    rw [← hy, Slc.loss_setCounts, hfull]
    simp
  have hecho (o : Source) : y.echo o = s.slc.echo o := by
    rw [← hy, Slc.echo_setCounts]
    split
    · next h => rw [h.1]
    · rfl
  refine ⟨rfl, rfl, rfl, (hloss _).trans (if_pos rfl), fun o ho => (hloss o).trans (if_neg ho), fun o => ⟨hecho o, ?_⟩, rfl, ?_⟩
  all_goals subst hy
  · exact s.slc.full_setCounts _ _ _ o
  · exact ⟨s.slc.statusContent_setCounts _ _ _, s.slc.replyContent_setCounts _ _ _, s.slc.recordContent_setCounts _ _ _,
      s.slc.noticeIdentity_setCounts _ _ _, s.slc.setCounts_sending _ _ _, s.slc.setCounts_gapDue _ _ _,
      s.slc.setCounts_lastBoundary _ _ _, s.slc.setCounts_statusDue _ _ _, s.slc.setCounts_duplicateDue _ _ _⟩

/-! ## The survival -/

/-- A contender without content goes on as a listener (R9). -/
theorem State.survival_silent {s : State} (hl : s.slc.lineState = .arbitration)
    (hc : s.slc.contender = none ∨ ∃ c, s.slc.contender = some c ∧ s.copyContent c.source = none) (lit : Bool) :
    s.survival lit =
      let t := s.runTo (s.slc.lastBoundary + bitTimes 64)
      t.setSlc (s.slc.survivorSilent t.clock lit) := by
  have hcopy (t : Clocks) (src : Source) : (s.runTo t).copyContent src = s.copyContent src := by cases src <;> rfl
  rcases hc with hc | ⟨c, hc, hn⟩
  · simp only [State.survival, hl, State.runTo_slc, hc]
  · simp only [State.survival, hl, State.runTo_slc, hc, hcopy, hn]

/-- A contender whose source holds its frame sends it. -/
theorem State.survival_sends {s : State} {c : Contender} {target : BitVec 4} {payload : List Byte}
    (hl : s.slc.lineState = .arbitration) (hc : s.slc.contender = some c)
    (hp : s.copyContent c.source = some (target, payload)) (lit : Bool) :
    s.survival lit = (s.runTo (s.slc.lastBoundary + bitTimes 64)).setSlc
      (s.slc.survive c (sentBits c.source s.osc.station c.priority target payload) (s.copyOpening c.source)) := by
  have hcopy (t : Clocks) (src : Source) : (s.runTo t).copyContent src = s.copyContent src := by cases src <;> rfl
  have hopen (t : Clocks) (src : Source) : (s.runTo t).copyOpening src = s.copyOpening src := by cases src <;> rfl
  simp only [State.survival, hl, State.runTo_slc, hc, hcopy, hp, hopen, State.runTo_osc]

/-- Settles O9: by whether the contender still has content to copy. -/
theorem survivorSendsItsFrame : Obligations.SurvivorSendsItsFrame := by
  intro lit s hl now
  refine ⟨fun c target payload hc hp => congrArg Host.Outcome.next (State.survival_sends hl hc hp lit), fun hc => ?_⟩
  refine congrArg Host.Outcome.next ((State.survival_silent hl hc lit).trans ?_)
  cases lit <;> rfl

end Sys2Proof.Machine
end

section
/-! SUPPORT. The end of own frames in the terms of the statements (R10, R11, R13, R34). -/

namespace Sys2Proof.Machine

/-! ## Mismatch -/

/-- An error bit is beside the counts. -/
theorem Slc.setCounts_flag (x : Slc) (e : LinkError) (src : Source) (l c : Nat) :
    (x.flag e).setCounts src l c = (x.setCounts src l c).flag e := by cases src <;> rfl

@[simp] theorem Slc.loss_flag (x : Slc) (e : LinkError) (src : Source) : (x.flag e).loss src = x.loss src := by
  cases src <;> rfl
@[simp] theorem Slc.echo_flag (x : Slc) (e : LinkError) (src : Source) : (x.flag e).echo src = x.echo src := by
  cases src <;> rfl
@[simp] theorem Slc.loss_stopSending (x : Slc) (now : Clocks) (d : Nat) (src : Source) :
    (x.stopSending now d).loss src = x.loss src := by cases src <;> rfl
@[simp] theorem Slc.echo_stopSending (x : Slc) (now : Clocks) (d : Nat) (src : Source) :
    (x.stopSending now d).echo src = x.echo src := by cases src <;> rfl

/-- R13, R14: DUPLICATE_STATION derates, so its report reaches the fault manager only. -/
theorem State.duplicateDetected_eq (s : State) (v : Int) :
    s.duplicateDetected v = ({ s with
      slc := { s.slc with duplicateDue := some (s.clock + ms 10000) }
      flm := s.flm.take s.stamp (.present .duplicateStation v) } : State).withError 5 := by
  simp only [State.duplicateDetected]
  rw [State.report_mild _ _ rfl]
  rfl

/-- R1: a bit time is heard as sent when its halves are the bit and its inverse. -/
theorem heard_ne_sentBit {heard : BitTime} {bits : List Bool} {n : Nat} {b : Bool} (hb : bits[n]? = some b)
    (hne : ¬ (heard.first = b ∧ heard.second = !b)) : n < bits.length ∧ heard ≠ sentBit (bits.getD n false) := by
  obtain ⟨hn, -⟩ := List.getElem?_eq_some_iff.mp hb
  refine ⟨hn, fun h => hne ?_⟩
  rw [List.getD_eq_getElem?_getD, hb] at h
  rw [h]
  exact ⟨rfl, rfl⟩

/-- R10: the state right after a mismatch, before the mismatch is counted. -/
def State.aborted (s : State) (bit : HeardBit) : State :=
  let t := s.runTo (s.slc.frameBit (bit.index + 1))
  t.setSlc ((s.slc.stopSending t.clock (if bit.heard.lit then 0 else 1)).flag .echoMismatch)

theorem State.echoMismatch_eq {s : State} {f : Transmission} {bit : HeardBit} (hf : s.slc.sending = some f)
    (h : bit.index < f.bits.length ∧ bit.heard ≠ sentBit (f.bits.getD bit.index false)) :
    s.echoMismatch bit =
      let t := s.aborted bit
      if s.slc.echo f.source + 1 < 3 then
        t.setSlc (t.slc.setCounts f.source (s.slc.loss f.source) (s.slc.echo f.source + 1))
      else (t.setSlc (t.slc.setCounts f.source (s.slc.loss f.source) 0)).duplicateDetected 1 := by
  simp only [State.echoMismatch, hf, if_pos h]
  simp [State.aborted]

/-- R2: a bit time dark in both halves is the first of the dark count. -/
theorem gap_after_mismatch (heard : BitTime) :
    16 - (if heard.lit then 0 else 1) = if heard.first = false ∧ heard.second = false then 15 else 16 := by
  obtain ⟨a, b⟩ := heard
  cases a <;> cases b <;> rfl

/-- The SLC of the statement, once the counts have been changed. -/
theorem State.aborted_setCounts (s : State) (bit : HeardBit) (src : Source) (l e : Nat) :
    let now := max s.clock (s.slc.lastBoundary + bitTimes (64 + (bit.index + 1)))
    let x := { s.slc with
      sending := none, lineState := .trail
      gapDue := now + bitTimes (if bit.heard.first = false ∧ bit.heard.second = false then 15 else 16) }
    (s.aborted bit).setSlc ((s.aborted bit).slc.setCounts src l e) =
      ({ s with clock := now, slc := x.setCounts src l e } : State).withError 9 := by
  simp only [State.aborted, ← gap_after_mismatch]
  simp only [State.setSlc_slc, Slc.setCounts_flag]
  rfl

/-! ## Sent -/

/-- R183: a sent notice leaves the register, and the FLM hears of it. -/
theorem State.serve_notice (s : State) {f : Transmission} (hf : f.source = .notice) :
    s.serve f = { s with
      slc := { s.slc with notice := none }
      flm := (s.slc.notice.map fun n => s.flm.noticeSent n.slot n.transition f.opening).getD s.flm } := by
  simp only [State.serve, hf]
  cases hn : s.slc.notice with
  | none =>
    have hslc : { s.slc with notice := none } = s.slc := by rw [← hn]
    rw [hslc]
    rfl
  | some n => rfl

/-- Settles O10: the mismatch by the count it reaches, the frame sent by its source. -/
theorem ownFramesEnd : Obligations.OwnFramesEnd := by
  constructor
  · rintro bit heard f s hf ⟨b, hb, hne⟩ now x
    have he := State.echoMismatch_eq (bit := { index := bit, heard := heard }) hf (heard_ne_sentBit hb hne)
    have hx (src : Source) : x.loss src = s.slc.loss src ∧ x.echo src = s.slc.echo src := by cases src <;> exact ⟨rfl, rfl⟩
    simp only [exec, execEchoMismatch, he, (hx f.source).1, (hx f.source).2, State.aborted_setCounts]
    split
    · rw [if_pos (by omega)]
    · rw [if_neg (by omega), State.duplicateDetected_eq]
      rfl
  · intro f s hf now x
    have he : s.frameSent = ((s.runTo (s.slc.frameBit f.bits.length)).setSlc (s.slc.stopSending now 0)).serve f := by
      simp only [State.frameSent, hf]
      rfl
    simp only [exec, execFrameSent, he]
    congr 1
    cases hsrc : f.source with
    | status =>
      simp only [State.serve, hsrc]
      cases f.refilled <;> rfl
    | reply =>
      simp only [State.serve, hsrc]
      rfl
    | record =>
      simp only [State.serve, hsrc]
      rfl
    | notice =>
      rw [State.serve_notice _ hsrc]
      rfl

end Sys2Proof.Machine
end

section
/-! SUPPORT. The STATUS snapshot and the summary of the OPEN list (R16, R35, R184). -/

namespace Sys2Proof.Machine

/-! ## Flags -/

theorem statusFlags_bits (a b c d e : Bool) :
    (statusFlags a b c d e).getLsbD 0 = a ∧ (statusFlags a b c d e).getLsbD 1 = b ∧
      (statusFlags a b c d e).getLsbD 2 = c ∧ (statusFlags a b c d e).getLsbD 3 = d ∧
      (statusFlags a b c d e).getLsbD 4 = e ∧ (statusFlags a b c d e).toNat < 32 := by
  revert a b c d e; decide

theorem summaryFlags_bits (a b : Bool) :
    (summaryFlags a b).getLsbD 0 = a ∧ (summaryFlags a b).getLsbD 1 = b ∧ (summaryFlags a b).toNat < 4 := by
  revert a b; decide

/-! ## The summary (R184) -/

theorem openRecord?_isSome (f : Flm) (c : FaultCode) : (f.openRecord? c).isSome = true ↔ ∃ r ∈ f.opens, r.code = c := by
  simp [Flm.openRecord?, List.find?_isSome]

/-- The OPEN list falls in severity, so its head is of the highest. -/
theorem highestSeverity_spec {f : Flm} (hs : f.sound) (hne : f.opens ≠ []) :
    ∃ r ∈ f.opens, f.highestSeverity = r.severity.rank ∧ ∀ x ∈ f.opens, x.severity.rank ≤ r.severity.rank := by
  obtain ⟨-, -, hfall, -⟩ := hs
  obtain ⟨r, l, hl⟩ := List.exists_cons_of_ne_nil hne
  rw [hl] at hfall
  refine ⟨r, by simp [hl], by simp [Flm.highestSeverity, hl], fun x hx => ?_⟩
  rw [hl, List.mem_cons] at hx
  rcases hx with rfl | hx
  · exact Nat.le_refl _
  · exact (List.pairwise_cons.mp hfall).1 x hx

/-- The newest record is that of the highest opening number. -/
theorem newestCode_eq (f : Flm) :
    f.newestCode = ((f.opens.foldl (keepBest (·.seq)) none).map (·.code.number)).getD 0 := by
  simp only [Flm.newestCode]
  congr 3
  funext best r
  cases best <;> rfl

theorem newestCode_spec {f : Flm} (hne : f.opens ≠ []) :
    ∃ r ∈ f.opens, f.newestCode = r.code.number ∧ ∀ x ∈ f.opens, x.seq ≤ r.seq := by
  have hbest := foldl_keepBest (fun r : Record => r.seq) (R := fun _ _ => True) (fun _ => trivial) (fun _ _ _ _ _ => trivial)
    f.opens (List.pairwise_of_forall fun _ _ => trivial)
  rw [newestCode_eq]
  cases hc : f.opens.foldl (keepBest fun r : Record => r.seq) none with
  | none =>
    rw [hc] at hbest
    exact absurd hbest hne
  | some r =>
    rw [hc] at hbest
    obtain ⟨hr, hmax⟩ := hbest
    refine ⟨r, hr, rfl, fun x hx => ?_⟩
    exact (hmax x hx).elim Nat.le_of_lt fun h => Nat.le_of_eq h.1

/-! ## The snapshot (R16, R35) -/

/-- A REPLY, RECORD or NOTICE being sent is not touched by a new snapshot. -/
theorem refilled_eq (f : Transmission) :
    { f with refilled := f.refilled || f.source == .status } = if f.source = .status then { f with refilled := true } else f := by
  obtain ⟨src, bits, refilled, opening⟩ := f
  cases src <;> simp

theorem State.statusTimer_eq (s : State) :
    s.statusTimer = { s with
      clock := max s.clock s.slc.statusDue
      slc := { s.slc with
        statusDue := s.slc.statusDue + ms 100
        statusSlot := some { content := s.snapshot, loss := s.slc.loss .status, echo := s.slc.echo .status }
        sending := s.slc.sending.map fun f => if f.source = .status then { f with refilled := true } else f } } := by
  simp only [← refilled_eq]
  rfl

/-- The codes of the operating states (2.6.2). -/
theorem snapshot_opState (s : State) :
    s.snapshot.opState = (match s.osc.state with
      | .loading => 0 | .unconfigured => 1 | .standby => 2 | .starting => 3 | .producing => 4 | .rideThrough => 5
      | .stopping => 6 | .tripped => 7 | .safeStop => 8) := by
  simp only [State.snapshot]
  cases s.osc.state <;> rfl

/-- R35: the figures that are 0 until a load. -/
theorem snapshot_figures (s : State) :
    if s.osc.state = .loading ∨ s.osc.state = .unconfigured then
      s.snapshot.ratedPower = 0 ∧ s.snapshot.demand = 0 ∧ s.snapshot.appliedShare = 0 ∧ s.snapshot.thermalLimit = 0 ∧
        s.snapshot.dSeen = 0 ∧ s.snapshot.cLive = 0
    else
      s.snapshot.ratedPower = BitVec.ofNat 16 s.ratedOwn ∧
        s.snapshot.demand = BitVec.ofNat 16 (if s.scu.hold then s.scu.dHold else s.scu.dOwn) ∧
        s.snapshot.appliedShare = BitVec.ofNat 16 s.scu.sApp ∧ s.snapshot.thermalLimit = BitVec.ofNat 16 s.clc.tOwn ∧
        s.snapshot.dSeen = BitVec.ofNat 32 s.scu.dSeen ∧ s.snapshot.cLive = BitVec.ofNat 32 s.scu.cLive := by
  have hu : s.osc.state.isUnloaded = true ↔ s.osc.state = .loading ∨ s.osc.state = .unconfigured := by
    cases s.osc.state <;> simp [OpState.isUnloaded]
  split
  · next h => simp [State.snapshot, State.onceLoaded, hu.mpr h]
  · next h =>
    have hl : s.osc.state.isUnloaded = false := by simpa using mt hu.mp h
    simp [State.snapshot, State.onceLoaded, hl, Scu.announced]

/-- Settles O13: the snapshot is the one of the statement, its flag sums read bit by bit. -/
theorem statusTimerTakesTheSnapshot : Obligations.StatusTimerTakesTheSnapshot := by
  intro s
  obtain ⟨f0, f1, f2, f3, f4, f5⟩ := statusFlags_bits s.cvp.rideThrough s.ptb.isolated (s.ywc.state == .moving)
    (s.flm.reaction.fMin < 1000) s.ywc.steering
  obtain ⟨g0, g1, g2⟩ := summaryFlags_bits s.flm.reclaimedUnsent (s.flm.openRecord? .configInvalid).isSome
  refine ⟨s.snapshot, congrArg Host.Outcome.next s.statusTimer_eq, snapshot_opState s,
    ⟨f0, f1, ?_, ?_, f4, f5⟩, snapshot_figures s, rfl, rfl, rfl, rfl, rfl, rfl, rfl, rfl, g0, ?_, g2, fun h => ?_, fun h hs => ⟨?_, ?_⟩⟩
  · simp only [State.snapshot, f2, beq_iff_eq]
  · simp only [State.snapshot, f3, decide_eq_true_eq]
  · simp only [State.snapshot, g1, openRecord?_isSome]
  · simp [State.snapshot, Flm.highestSeverity, Flm.newestCode, h]
  · obtain ⟨r, hr, hrank, hmax⟩ := highestSeverity_spec hs h
    exact ⟨r, hr, by simp only [State.snapshot, hrank], hmax⟩
  · obtain ⟨r, hr, hcode, hmax⟩ := newestCode_spec h
    exact ⟨r, hr, by simp only [State.snapshot, hcode], hmax⟩

end Sys2Proof.Machine
end

section
/-! SUPPORT. Frames of the own number or of a foreign sender (R14, R27), and the timers of the link and of the peer entries
(R15, R49, R56, R58). -/

namespace Sys2Proof.Machine

/-! ## Own and foreign senders -/

/-- A frame of any known kind goes through the sender checks first, whatever its row does after them. -/
theorem exec_senderChecks {s : State} {heard : List BitTime} {h : Header} {corrected : Bool} {zone : Option Int} {c : Instr}
    (hcan : s.canEnd heard = true) (hcl : classify (heardBits heard) = .known h corrected)
    (hk : (h.kind = 0 ∧ c = .statusReceived heard) ∨ (h.kind = 1 ∧ c = .noticeReceived heard) ∨
      (h.kind = 2 ∧ c = commandRow heard zone h.commandCode) ∨ ((h.kind = 3 ∨ h.kind = 4) ∧ c = .replyOrRecordReceived heard)) :
    ∃ rest, exec c s = .next ((s.frameEnds heard).senderChecks h corrected rest) := by
  have long (hl : longRow heard h c) : ∃ rest, exec c s = .next ((s.frameEnds heard).senderChecks h corrected rest) := by
    obtain ⟨act, he⟩ := exec_longRow hcan hcl hl
    exact ⟨_, he⟩
  rcases hk with hk | hk | ⟨hk, rfl⟩ | hk
  · exact long (.inl hk)
  · exact long (.inr (.inl hk))
  · have command (codes : Nat → Bool) (owner : Nat → BitVec 4 → State → Answer) (hc : codes h.commandCode = true) :
        ∃ rest, (.next (s.commandFrame heard codes owner) : Host.Outcome State Fault Refusal) =
          .next ((s.frameEnds heard).senderChecks h corrected rest) := by
      simp only [State.commandFrame, State.whenFrame, hcan, hcl, hk, hc]
      exact ⟨_, congrArg Host.Outcome.next (if_pos ⟨trivial, rfl⟩)⟩
    unfold commandRow
    split
    case h_10 h1 h2 h3 h4 h5 h6 h7 h8 h9 =>
      rw [imp_false] at h1 h2 h3 h4 h5 h6 h7 h8 h9
      exact command _ _ (by simp; omega)
    all_goals
      next hcode => exact command _ _ (by rw [hcode]; rfl)
  · exact long (.inr (.inr hk))

/-- R13, R14: the state of a frame with the own number. -/
theorem senderChecks_own {s : State} {heard : List BitTime} {h : Header} {corrected : Bool} (rest : State → State)
    (hv : s.osc.validStation = true) (hs : h.sender.toNat = s.osc.station) :
    (s.frameEnds heard).senderChecks h corrected rest = (s.afterFrame heard corrected).duplicateDetected 2 := by
  simp only [State.senderChecks, flagIf_frameEnds, osc_afterFrame]
  exact if_pos ⟨hv, hs⟩

/-- R58: FOREIGN_TRAFFIC is a note, so its report reaches the fault manager only. -/
theorem foreignFrame_eq (s : State) (n : Nat) :
    s.foreignFrame n = { s with
      ptb := { s.ptb with foreignDue := some (s.clock + ms 10000) }
      flm := s.flm.take s.stamp (.present .foreignTraffic n) } := by
  simp only [State.foreignFrame]
  rw [State.report_mild _ _ rfl]
  rfl

/-- R27: the state of a frame from a foreign sender. -/
theorem senderChecks_foreign {s : State} {heard : List BitTime} {h : Header} {corrected : Bool} (rest : State → State)
    (hown : ¬ (s.osc.validStation = true ∧ h.sender.toNat = s.osc.station)) (hf : s.foreign h.sender.toNat = true) :
    (s.frameEnds heard).senderChecks h corrected rest =
      ((s.afterFrame heard corrected).flag .foreignSender).foreignFrame h.sender.toNat := by
  simp only [State.senderChecks, flagIf_frameEnds, osc_afterFrame, foreign_afterFrame, if_neg hown, hf, if_true]

/-- R27: which senders are foreign. -/
theorem foreign_iff (s : State) (n : Nat) :
    s.foreign n = true ↔ if s.ptb.loaded then n ≠ 13 ∧ n ≠ 14 ∧ s.ptb.slotOf? n = none else n = 0 ∨ n = 15 := by
  simp only [State.foreign]
  split <;> simp [and_assoc]

/-- Settles O15: every command for a long frame ends in the sender checks, which stop at their first finding. -/
theorem ownAndForeignSendersAreReported : Obligations.OwnAndForeignSendersAreReported := by
  constructor
  · intro heard h corrected zone c s hl hq hw hcl hv hs hk u
    obtain ⟨rest, he⟩ := exec_senderChecks (canEnd_of hl hq hw) hcl hk
    rw [he, senderChecks_own rest hv hs, State.duplicateDetected_eq]
    rfl
  · intro heard h corrected zone c s hl hq hw hcl hown hf hk u
    obtain ⟨rest, he⟩ := exec_senderChecks (canEnd_of hl hq hw) hcl hk
    rw [he, senderChecks_foreign rest hown ((foreign_iff s _).mpr hf), foreignFrame_eq]
    rfl

end Sys2Proof.Machine
end

section
/-! SUPPORT. The timers of the link and of the peer entries (R15, R49, R56 to R60). -/

namespace Sys2Proof.Machine

/-! ## The condition of a code under a report (R172) -/

@[simp] theorem Flm.takeSlot_present (f : Flm) : f.takeSlot.2.present = f.present := by
  simp only [Flm.takeSlot]; split <;> rfl

theorem Flm.takePresent_present (f : Flm) (now : Stamp) (c : FaultCode) (v : Int) :
    (f.takePresent now c v).present = f.present.set c.index true := by
  simp only [Flm.takePresent]
  split
  · rfl
  · simp [Flm.setPresent]

theorem Flm.takeGone_present (f : Flm) (now : Stamp) (c : FaultCode) :
    (f.takeGone now c).present = f.present.set c.index false := by
  simp only [Flm.takeGone]
  repeat' split
  all_goals rfl

theorem Flm.takePresent_holds (f : Flm) (now : Stamp) (c : FaultCode) (v : Int) :
    (f.take now (.present c v)).holds c = true := by
  simp [Flm.holds, Flm.take, Flm.takePresent_present]

theorem Flm.takeGone_holds (f : Flm) (now : Stamp) (c : FaultCode) : (f.take now (.gone c)).holds c = false := by
  simp [Flm.holds, Flm.take, Flm.takeGone_present]

/-- A bitmap of one code leaves the condition of every other code. -/
theorem Flm.bitmapMoved_holds_other (f : Flm) (now : Clocks) {c d : FaultCode} (h : c.index ≠ d.index) (a b : Nat) :
    (f.bitmapMoved now c a b).holds d = f.holds d := by
  have hne : c.index.val ≠ d.index.val := fun e => h (Fin.ext e)
  simp only [Flm.bitmapMoved]
  split
  · rfl
  · split <;> simp [Flm.holds, Flm.take, Flm.takeGone_present, Flm.takePresent_present, Vector.getElem_set_ne, hne]

@[simp] theorem Flm.bitmapMoved_same (f : Flm) (now : Clocks) (c : FaultCode) (a : Nat) : f.bitmapMoved now c a a = f :=
  if_pos rfl

theorem Flm.bitmapMoved_present (f : Flm) (now : Clocks) (c : FaultCode) {a b : Nat} (h : a < b) :
    (f.bitmapMoved now c a b).holds c = true := by
  rw [Flm.bitmapMoved, if_neg (by omega), if_neg (by omega)]
  exact f.takePresent_holds _ _ _

theorem Flm.bitmapMoved_gone (f : Flm) (now : Clocks) (c : FaultCode) {a : Nat} (h : a ≠ 0) :
    (f.bitmapMoved now c a 0).holds c = false := by
  rw [Flm.bitmapMoved, if_neg (Ne.symm h), if_pos rfl]
  exact f.takeGone_holds _ _

/-! ## Sums of powers of two -/

/-- The bits set where `p`. -/
def bitSum {n : Nat} (p : Fin n → Bool) : Nat := (((List.finRange n).filter p).map fun i => 2 ^ i.val).sum

theorem bitSum_eq_ite {n : Nat} (p : Fin n → Bool) :
    bitSum p = ((List.finRange n).map fun i => if p i then 2 ^ i.val else 0).sum := by
  unfold bitSum
  induction List.finRange n with
  | nil => rfl
  | cons i l ih => by_cases h : p i = true <;> simp [h, ih]

/-- One bit more makes a larger bitmap. -/
theorem bitSum_lt {n : Nat} {p q : Fin n → Bool} (hle : ∀ i, p i = true → q i = true) {j : Fin n} (hp : p j = false)
    (hq : q j = true) : bitSum p < bitSum q := by
  rw [bitSum_eq_ite, bitSum_eq_ite]
  refine List.sum_lt_sum _ _ (fun i _ => ?_) ⟨j, List.mem_finRange j, by simp [hp, hq]⟩
  by_cases h : p i = true
  · simp [h, hle i h]
  · simp [h]

theorem bitSum_eq_zero {n : Nat} {p : Fin n → Bool} (h : ∀ i, p i = false) : bitSum p = 0 := by
  rw [bitSum_eq_ite]
  simp [h]

theorem bitSum_ne_zero {n : Nat} {p : Fin n → Bool} {j : Fin n} (h : p j = true) : bitSum p ≠ 0 := by
  have := bitSum_lt (p := fun _ => false) (q := p) (by simp) rfl h
  omega

/-! ## The bitmaps under a change of one entry -/

/-- R57: the entry of a peer that is not heard. -/
def PeerEntry.silent (e : PeerEntry) : Bool := decide (e.freshness = .lost ∨ e.freshness = .neverHeard)

/-- R60: the entry of a peer that disagrees. -/
def PeerEntry.disagrees (e : PeerEntry) : Bool := decide (e.disagreement = 50)

theorem lostBits_eq (s : State) : s.lostBits = bitSum fun i => s.activePeer i && s.ptb.entries[i].silent := rfl
theorem disagreeBits_eq (s : State) : s.disagreeBits = bitSum fun i => s.ptb.entries[i].disagrees := rfl

section
variable (s : State) (j : Fin 12) (f : PeerEntry → PeerEntry)

theorem lostBits_setEntry : (s.setEntry j f).lostBits =
    bitSum fun i => s.activePeer i && (if j = i then f s.ptb.entries[i] else s.ptb.entries[i]).silent := by
  rw [lostBits_eq]
  congr 1
  funext i
  show (s.activePeer i && ((update s.ptb.entries j f)[i]).silent) = _
  rw [update_get]

theorem disagreeBits_setEntry : (s.setEntry j f).disagreeBits =
    bitSum fun i => (if j = i then f s.ptb.entries[i] else s.ptb.entries[i]).disagrees := by
  rw [disagreeBits_eq]
  congr 1
  funext i
  show ((update s.ptb.entries j f)[i]).disagrees = _
  rw [update_get]

/-- An entry that is heard as little or as much as before does not move the bitmap of R57. -/
theorem lostBits_setEntry_same (h : s.activePeer j = false ∨ (f s.ptb.entries[j]).silent = s.ptb.entries[j].silent) :
    (s.setEntry j f).lostBits = s.lostBits := by
  rw [lostBits_setEntry, lostBits_eq]
  congr 1
  funext i
  by_cases hij : j = i
  · subst hij
    rcases h with h | h <;> simp [-Fin.getElem_fin, h]
  · simp [hij]

theorem disagreeBits_setEntry_same (h : (f s.ptb.entries[j]).disagrees = s.ptb.entries[j].disagrees) :
    (s.setEntry j f).disagreeBits = s.disagreeBits := by
  rw [disagreeBits_setEntry, disagreeBits_eq]
  congr 1
  funext i
  by_cases hij : j = i
  · subst hij; simp [-Fin.getElem_fin, h]
  · simp [hij]

/-- R57: a peer that is lost adds its bit. -/
theorem lostBits_lt_setEntry (ha : s.activePeer j = true) (hold : s.ptb.entries[j].silent = false)
    (hnew : (f s.ptb.entries[j]).silent = true) : s.lostBits < (s.setEntry j f).lostBits := by
  rw [lostBits_setEntry, lostBits_eq]
  refine bitSum_lt (j := j) (fun i hi => ?_) (by simp [-Fin.getElem_fin, hold])
    (by simp [-Fin.getElem_fin, ha, hnew])
  by_cases hij : j = i
  · subst hij; simp [-Fin.getElem_fin, hold] at hi
  · simpa [hij] using hi

/-- R60: the last bit goes. -/
theorem disagreeBits_setEntry_zero (hnew : (f s.ptb.entries[j]).disagrees = false)
    (hothers : ∀ i, i ≠ j → s.ptb.entries[i].disagrees = false) : (s.setEntry j f).disagreeBits = 0 := by
  rw [disagreeBits_setEntry]
  refine bitSum_eq_zero fun i => ?_
  by_cases hij : j = i
  · subst hij; simp [-Fin.getElem_fin, hnew]
  · simp [-Fin.getElem_fin, hij, hothers i (Ne.symm hij)]

end

/-! ## The age timer (R49) -/

/-- R49: the entry of a peer that is lost. -/
def PeerEntry.lose (e : PeerEntry) : PeerEntry := { e with freshness := .lost, ageFrom := none, disagreement := 0 }

theorem ageTimerStale_eq {s : State} {j : Fin 12} {start : Clocks} (ha : s.ptb.entries[j].ageFrom = some start)
    (hf : s.ptb.entries[j].freshness = .fresh) :
    s.ageTimerStale j = (s.runTo (start + ms 350)).setEntry j fun e => { e with freshness := .stale } := by
  have hw : s.ageTimerStale j =
      (s.runTo (start + ms 350)).watchPeers fun t => t.setEntry j fun e => { e with freshness := .stale } := by
    simp only [State.ageTimerStale, ha, hf]
  rw [hw, watchPeers_eq]
  rw [lostBits_setEntry_same _ _ _ (.inr ?_), disagreeBits_setEntry_same _ _ _ rfl]
  · simp only [Flm.bitmapMoved_same]
  · show PeerEntry.silent _ = s.ptb.entries[j].silent
    simp [-Fin.getElem_fin, PeerEntry.silent, hf]

theorem ageTimerLost_eq {s : State} {j : Fin 12} {start : Clocks} (ha : s.ptb.entries[j].ageFrom = some start)
    (hf : s.ptb.entries[j].freshness = .stale) :
    s.ageTimerLost j = (s.runTo (start + ms 2000)).watchPeers fun t => t.setEntry j PeerEntry.lose := by
  simp only [State.ageTimerLost, ha, hf]
  rfl

/-- R57, R60: what losing a peer tells the fault manager. -/
theorem lose_reports {s : State} {j : Fin 12} (hf : s.ptb.entries[j].freshness = .stale) :
    ∃ f, (s.watchPeers fun t => t.setEntry j PeerEntry.lose) = { s.setEntry j PeerEntry.lose with flm := f } ∧
      (s.activePeer j = true → f.holds .peerLost = true) ∧
      (s.ptb.entries[j].disagreement = 50 → (∀ i, i ≠ j → s.ptb.entries[i].disagreement ≠ 50) →
        f.holds .shareViewDisagree = false) ∧
      (s.activePeer j = false → s.ptb.entries[j].disagreement ≠ 50 → f = s.flm) := by
  refine ⟨_, watchPeers_eq s _, fun hact => ?_, fun h50 hothers => ?_, fun hact h50 => ?_⟩
  · rw [Flm.bitmapMoved_holds_other _ _ (by decide)]
    exact Flm.bitmapMoved_present _ _ _ (lostBits_lt_setEntry s j _ hact (by simp [-Fin.getElem_fin, PeerEntry.silent, hf]) rfl)
  · rw [disagreeBits_setEntry_zero s j _ rfl fun i hi => by simpa [PeerEntry.disagrees] using hothers i hi]
    exact Flm.bitmapMoved_gone _ _ _ (bitSum_ne_zero (j := j) (by simpa [PeerEntry.disagrees] using h50))
  · rw [lostBits_setEntry_same s j _ (.inl hact), disagreeBits_setEntry_same s j _ ?_]
    · simp only [Flm.bitmapMoved_same]
      rfl
    · show false = _
      simp [-Fin.getElem_fin, PeerEntry.disagrees, h50]

/-- Settles O19: the lost and disagreement bitmaps move by the bit of the one entry that changes. -/
theorem linkAndPeerTimersExpire : Obligations.LinkAndPeerTimersExpire := by
  constructor
  · intro due s now
    refine ⟨fun h => ?_, fun h => ?_, fun h => ?_⟩
    · simp only [exec, execDuplicateTimerExpiry, State.duplicateTimer, h, atDue_some]
      rw [State.report_mild _ _ rfl]
      rfl
    · simp only [exec, execIsolationTimerExpiry, State.isolationTimer, h, atDue_some]
      rw [State.report_mild _ _ rfl]
      rfl
    · simp only [exec, execForeignTimerExpiry, State.foreignTimer, h, atDue_some]
      rw [State.report_mild _ _ rfl]
      rfl
  · intro start j s ha e
    refine ⟨fun hf => congrArg Host.Outcome.next (ageTimerStale_eq ha hf), fun hf => ?_⟩
    obtain ⟨f, he, hrest⟩ := lose_reports (s := s.runTo (start + ms 2000)) (j := j) hf
    exact ⟨f, congrArg Host.Outcome.next ((ageTimerLost_eq ha hf).trans he), hrest⟩

end Sys2Proof.Machine
end

section
/-! SUPPORT. The bits of a frame the part sends, read back by a receiver: the header code, the bytes, the length and the CRC
(R21 to R24, R28). -/

namespace Sys2Proof.Machine

/-! ## The bits of a field -/

@[simp] theorem bitsOf_length {n : Nat} (x : BitVec n) : (bitsOf x).length = n := by simp [bitsOf]

theorem ofBits_concat (bs : List Bool) (b : Bool) : ofBits (bs ++ [b]) = 2 * ofBits bs + b.toNat := by
  simp [ofBits]

/-- The first `k` bits stand for the number without its other bits. -/
theorem ofBits_msb {n : Nat} (x : BitVec n) (k : Nat) (hk : k ≤ n) :
    ofBits ((List.range k).map fun i => x.getMsbD i) = x.toNat / 2 ^ (n - k) := by
  induction k with
  | zero => simp [ofBits, Nat.div_eq_of_lt x.isLt]
  | succ k ih =>
    obtain ⟨m, hm⟩ : ∃ m, n = k + 1 + m := ⟨n - (k + 1), by omega⟩
    have hbit : (x.getMsbD k).toNat = x.toNat / 2 ^ m % 2 := by
      rw [BitVec.getMsbD_eq_getLsbD, ← BitVec.testBit_toNat, show n - 1 - k = m by omega]
      simp [show k < n by omega, Nat.toNat_testBit]
    rw [List.range_succ, List.map_append, List.map_singleton, ofBits_concat, ih (by omega), hbit,
      show n - k = m + 1 by omega, show n - (k + 1) = m by omega, Nat.pow_succ, ← Nat.div_div_eq_div_mul]
    omega

theorem ofNat_ofBits_bitsOf {n : Nat} (x : BitVec n) : BitVec.ofNat n (ofBits (bitsOf x)) = x := by
  rw [bitsOf, ofBits_msb x n (Nat.le_refl n)]
  simp

theorem bitsOf_append {m n : Nat} (x : BitVec m) (y : BitVec n) : bitsOf (x ++ y) = bitsOf x ++ bitsOf y := by
  refine List.ext_getElem (by simp) fun i h1 h2 => ?_
  simp only [bitsOf, List.getElem_map, List.getElem_range, List.getElem_append, List.length_map, List.length_range,
    BitVec.getMsbD_append]
  by_cases hi : i < m
  · rw [dif_pos hi, if_neg (Nat.not_le.mpr hi)]
  · rw [dif_neg hi, if_pos (Nat.not_lt.mp hi)]

/-! ## The header code (R22, R23) -/

theorem dataBits_eq (h : Header) :
    h.dataBits = bitsOf h.kind ++ (bitsOf h.sender ++ (bitsOf h.target ++ (bitsOf h.priority ++ bitsOf h.field))) := by
  simp only [Header.dataBits, bitsOf_append, List.append_assoc]

@[simp] theorem dataBits_length (h : Header) : h.dataBits.length = 32 := by simp [dataBits_eq]

theorem headerOf_dataBits (h : Header) : headerOf h.dataBits = h := by
  simp [headerOf, dataBits_eq, List.drop_append, List.take_of_length_le, List.drop_of_length_le,
    ofNat_ofBits_bitsOf]

theorem parity_append (as bs : List Bool) : parity (as ++ bs) = (parity as ^^ parity bs) := by
  have start (l : List Bool) (a : Bool) : l.foldl (· ^^ ·) a = (a ^^ parity l) := by
    induction l generalizing a with
    | nil => simp [parity]
    | cons b l ih => rw [parity, List.foldl_cons, List.foldl_cons, ih, ih (false ^^ b), Bool.false_xor, Bool.xor_assoc]
  rw [parity, List.foldl_append, start]
  rfl

/-- Bit `k` of the syndrome is the parity of the ones at the positions that have bit `k`. -/
theorem testBit_foldl_xor (l : List (Nat × Bool)) (a k : Nat) :
    (l.foldl (fun acc pb => if pb.2 then acc ^^^ pb.1 else acc) a).testBit k =
      (a.testBit k ^^ parity ((l.filter fun pb => pb.1.testBit k).map Prod.snd)) := by
  induction l generalizing a with
  | nil => simp [parity]
  | cons pb l ih =>
    obtain ⟨p, b⟩ := pb
    have hcons (c : Bool) (m : List Bool) : parity (c :: m) = (c ^^ parity m) := by
      rw [← List.singleton_append, parity_append]
      simp [parity]
    rw [List.foldl_cons, ih, List.filter_cons]
    cases hp : p.testBit k <;> cases b <;> simp [hp, hcons]

/-- No position of a header has a bit above the sixth. -/
theorem position_testBit {p k : Nat} (hp : p ∈ dataPositions ∨ p ∈ checkPositions) (hk : 6 ≤ k) : p.testBit k = false := by
  have hd : ∀ p ∈ dataPositions, p < 64 := by decide
  have hc : ∀ p ∈ checkPositions, p < 64 := by decide
  have h64 : p < 2 ^ 6 := hp.elim (hd p) (hc p)
  exact Nat.testBit_eq_false_of_lt (Nat.lt_of_lt_of_le h64 (Nat.pow_le_pow_right (by decide) hk))

/-- The check bits that cover the position with bit `k` alone: the k-th. -/
theorem parity_checkBits (d : List Bool) {k : Nat} (hk : k < 6) :
    parity (((checkPositions.zip (checkBits d)).filter fun pb => pb.1.testBit k).map Prod.snd) = checkBit d k := by
  have hc : checkBits d = [checkBit d 0, checkBit d 1, checkBit d 2, checkBit d 3, checkBit d 4, checkBit d 5] := rfl
  rw [hc]
  interval_cases k <;> simp [checkPositions, parity, Nat.testBit]

/-- R22, R23: an error-free header has syndrome 0. -/
theorem syndrome_checkBits (d : List Bool) : syndrome d (checkBits d) = 0 := by
  refine Nat.eq_of_testBit_eq fun k => ?_
  rw [syndrome, testBit_foldl_xor, List.filter_append, List.map_append, parity_append]
  rcases Nat.lt_or_ge k 6 with hk | hk
  · rw [parity_checkBits d hk]
    simp [checkBit]
  · have none (ps : List Nat) (bs : List Bool) (hps : ∀ p ∈ ps, p ∈ dataPositions ∨ p ∈ checkPositions) :
        (ps.zip bs).filter (fun pb => pb.1.testBit k) = [] := by
      refine List.filter_eq_nil_iff.mpr fun pb hpb => ?_
      simp [position_testBit (hps pb.1 (List.of_mem_zip hpb).1) hk]
    rw [none _ _ fun p hp => .inl hp, none _ _ fun p hp => .inr hp]
    simp [parity]

@[simp] theorem encodeHeader_length (h : Header) : (encodeHeader h).length = 40 := by
  simp [encodeHeader, checkBits]

/-- R22, R23: a header as it was sent decodes to itself. -/
theorem decodeHeader_encodeHeader (h : Header) : decodeHeader (encodeHeader h) = .clean h := by
  have hlen : (checkBits h.dataBits).length = 6 := by simp [checkBits]
  have hd : (encodeHeader h).take 32 = h.dataBits := by
    simp [encodeHeader]
  have hc : ((encodeHeader h).drop 32).take 6 = checkBits h.dataBits := by
    simp [encodeHeader, hlen]
  have ho : (encodeHeader h).getD 38 false = parity (h.dataBits ++ checkBits h.dataBits) := by
    simp [encodeHeader, List.getD_eq_getElem?_getD, hlen]
  simp only [decodeHeader, hd, hc, ho, syndrome_checkBits, if_true]
  rw [parity_append (_ ++ _)]
  simp [headerOf_dataBits, parity]

/-! ## The bytes (R3) -/

@[simp] theorem flatMap_bitsOf_length (bs : List Byte) : (bs.flatMap bitsOf).length = 8 * bs.length := by
  simp [List.length_flatMap, Nat.mul_comm]

theorem groupBytes_flatMap_bitsOf (fill : Byte) (bs : List Byte) : groupBytes fill (bs.flatMap bitsOf) = bs := by
  induction bs with
  | nil => rfl
  | cons b bs ih =>
    have hb : BitVec.ofNat 8 (ofBits (bitsOf b)) :: groupBytes fill (bs.flatMap bitsOf) = b :: bs := by
      rw [ofNat_ofBits_bitsOf, ih]
    exact hb

end Sys2Proof.Machine
end

section
/-! SUPPORT. The payloads the part sends and reads: every field at its offset, most significant byte first (0.7, 0.11, 2.6). -/

namespace Sys2Proof.Machine

/-! ## Fields of two and four bytes -/

theorem bytes16_parts (x : BitVec 16) : (x.extractLsb' 8 8 ++ x.extractLsb' 0 8 : BitVec 16) = x := by
  rw [BitVec.extractLsb'_append_extractLsb'_eq_extractLsb' (show 8 = 0 + 8 from rfl)]
  exact BitVec.extractLsb'_eq_self

theorem bytes32_parts (x : BitVec 32) :
    ((x.extractLsb' 24 8 ++ x.extractLsb' 16 8 : BitVec 16) ++ (x.extractLsb' 8 8 ++ x.extractLsb' 0 8 : BitVec 16) :
      BitVec 32) = x := by
  rw [BitVec.extractLsb'_append_extractLsb'_eq_extractLsb' (show 24 = 16 + 8 from rfl),
    BitVec.extractLsb'_append_extractLsb'_eq_extractLsb' (show 8 = 0 + 8 from rfl)]
  refine (BitVec.extractLsb'_append_extractLsb'_eq_extractLsb' (show 16 = 0 + (8 + 8) from rfl)).trans ?_
  exact BitVec.extractLsb'_eq_self

theorem u16At_append_bytes16 (bs : List Byte) (x : BitVec 16) : u16At (bs ++ bytes16 x) bs.length = x := by
  simp [u16At, u8At, bytes16, List.getD_eq_getElem?_getD, bytes16_parts]

theorem u16At_toNat (bs : List Byte) (k : Nat) :
    (u16At bs k).toNat = 256 * (u8At bs k).toNat + (u8At bs (k + 1)).toNat := by
  rw [u16At, BitVec.toNat_append, ← Nat.shiftLeft_add_eq_or_of_lt (u8At bs (k + 1)).isLt, Nat.shiftLeft_eq, Nat.mul_comm]

theorem u32At_toNat (bs : List Byte) (k : Nat) :
    (u32At bs k).toNat = 65536 * (u16At bs k).toNat + (u16At bs (k + 2)).toNat := by
  rw [u32At, BitVec.toNat_append, ← Nat.shiftLeft_add_eq_or_of_lt (u16At bs (k + 2)).isLt, Nat.shiftLeft_eq, Nat.mul_comm]

/-! ## The number at an offset is the field read there -/

theorem drop_eq_u8At_cons {bs : List Byte} {k : Nat} (h : k < bs.length) : bs.drop k = u8At bs k :: bs.drop (k + 1) := by
  rw [List.drop_eq_getElem_cons h, u8At, List.getD_eq_getElem _ _ h]

theorem numberAt_one {bs : List Byte} {k : Nat} (h : k < bs.length) : numberAt bs k 1 = (u8At bs k).toNat := by
  simp [numberAt, drop_eq_u8At_cons h]

theorem numberAt_two {bs : List Byte} {k : Nat} (h : k + 1 < bs.length) : numberAt bs k 2 = (u16At bs k).toNat := by
  simp [numberAt, drop_eq_u8At_cons (Nat.lt_of_succ_lt h), drop_eq_u8At_cons h, u16At_toNat]

theorem numberAt_four {bs : List Byte} {k : Nat} (h : k + 3 < bs.length) : numberAt bs k 4 = (u32At bs k).toNat := by
  have h0 : k < bs.length := by omega
  have h1 : k + 1 < bs.length := by omega
  have h2 : k + 2 < bs.length := by omega
  simp only [numberAt, drop_eq_u8At_cons h0, drop_eq_u8At_cons h1, drop_eq_u8At_cons h2, drop_eq_u8At_cons h,
    List.take_succ_cons, List.take_zero, List.foldl_cons, List.foldl_nil, u32At_toNat, u16At_toNat]
  rw [show k + 2 + 1 = k + 3 from rfl]
  omega

/-! ## STATUS (2.6.2) and NOTICE (2.6.3) -/

theorem laidOut_readStatus {bs : List Byte} (h : bs.length = 36) : laidOut bs 36 (readStatus bs).layout := by
  refine ⟨h, ?_⟩
  simp [StatusPayload.layout, readStatus, numberAt_one, numberAt_two, numberAt_four, h]

theorem laidOut_readNotice {bs : List Byte} (h : bs.length = 18) : laidOut bs 18 (readNotice bs).layout := by
  refine ⟨h, ?_⟩
  simp [NoticePayload.layout, readNotice, numberAt_one, numberAt_four, h]

@[simp] theorem StatusPayload.bytes_length (p : StatusPayload) : p.bytes.length = 36 := by
  simp [StatusPayload.bytes, bytes16, bytes32]

@[simp] theorem NoticePayload.bytes_length (p : NoticePayload) : p.bytes.length = 18 := by
  simp [NoticePayload.bytes, bytes32]

@[simp] theorem RecordPayload.bytes_length (p : RecordPayload) : p.bytes.length = 23 := by
  simp [RecordPayload.bytes, bytes32]

@[simp] theorem ReplyContent.bytes_length (r : ReplyContent) (errors : Half) : (r.bytes errors).length = 6 := by
  simp [ReplyContent.bytes, bytes16]

theorem readStatus_bytes (p : StatusPayload) : readStatus p.bytes = p := by
  obtain ⟨⟩ := p
  simp [StatusPayload.bytes, readStatus, u8At, u16At, u32At, bytes16, bytes32, bytes16_parts]
  exact ⟨bytes32_parts _, bytes32_parts _⟩

theorem readNotice_bytes (p : NoticePayload) : readNotice p.bytes = p := by
  obtain ⟨⟩ := p
  simp [NoticePayload.bytes, readNotice, u8At, u16At, u32At, bytes32]
  exact ⟨bytes32_parts _, bytes32_parts _, bytes32_parts _⟩

theorem StatusPayload.laidOut_bytes (p : StatusPayload) : laidOut p.bytes 36 p.layout := by
  simpa only [readStatus_bytes] using laidOut_readStatus p.bytes_length

theorem NoticePayload.laidOut_bytes (p : NoticePayload) : laidOut p.bytes 18 p.layout := by
  simpa only [readNotice_bytes] using laidOut_readNotice p.bytes_length

/-! ## RECORD (2.6.5) and REPLY (2.6.4) -/

theorem laidOut_append {as bs : List Byte} {m n : Nat} {l l' : Layout} (h : laidOut as m l)
    (hl : ∀ q ∈ l, q.1 + q.2.1 ≤ m) (hr : (as ++ bs).length = n ∧ ∀ q ∈ l', numberAt (as ++ bs) q.1 q.2.1 = q.2.2) :
    laidOut (as ++ bs) n (l ++ l') := by
  obtain ⟨hlen, hfields⟩ := h
  refine ⟨hr.1, fun q hq => ?_⟩
  rcases List.mem_append.mp hq with hq | hq
  · rw [numberAt_append_left as bs _ _ (hlen ▸ hl q hq), hfields q hq]
  · exact hr.2 q hq

theorem RecordPayload.laidOut_bytes (p : RecordPayload) : laidOut p.bytes 23 p.layout := by
  rw [RecordPayload.bytes, List.append_assoc]
  refine laidOut_append p.notice.laidOut_bytes (by simp [NoticePayload.layout]) ⟨by simp [bytes32], ?_⟩
  have hseen := numberAt_append_right p.notice.bytes ([p.recordState] ++ bytes32 p.lastSeen) 1 4
  have hlast := numberAt_append_right [p.recordState] (bytes32 p.lastSeen) 0 4
  have hstate := numberAt_append_right p.notice.bytes ([p.recordState] ++ bytes32 p.lastSeen) 0 1
  rw [NoticePayload.bytes_length] at hseen hstate
  refine (List.forall_mem_cons.trans (and_congr Iff.rfl List.forall_mem_singleton)).mpr ⟨hstate.trans (by simp [numberAt]), ?_⟩
  exact hseen.trans (hlast.trans (numberAt_bytes32 p.lastSeen))

theorem Result.number_lt (r : Result) : r.number < 256 := by cases r <;> decide

theorem ReplyContent.laidOut_bytes (r : ReplyContent) (errors : Half) : laidOut (r.bytes errors) 6 (r.layout errors) := by
  have hlen : (r.bytes errors).length = 6 := r.bytes_length errors
  have hcode : numberAt (r.bytes errors) 0 1 = r.code.toNat := numberAt_one (hlen ▸ by decide)
  have hresult : numberAt (r.bytes errors) 1 1 = r.result.number :=
    (numberAt_one (hlen ▸ by decide)).trans (Nat.mod_eq_of_lt r.result.number_lt)
  have hdata : numberAt (r.bytes errors) 2 2 = r.data.toNat :=
    (numberAt_two (hlen ▸ by decide)).trans (congrArg BitVec.toNat (bytes16_parts r.data))
  have herrors : numberAt (r.bytes errors) 4 2 = errors.toNat :=
    (numberAt_two (hlen ▸ by decide)).trans (congrArg BitVec.toNat (bytes16_parts errors))
  refine ⟨hlen, fun q hq => ?_⟩
  simp only [ReplyContent.layout, List.mem_cons, List.not_mem_nil, or_false] at hq
  rcases hq with rfl | rfl | rfl | rfl
  · exact hcode
  · exact hresult
  · exact hdata
  · exact herrors

end Sys2Proof.Machine
end

section
/-! SUPPORT. The fields of a record in a notice and in the copy of RECORD REQUEST, the record a notice is taken from, and the
checks of a receiver on a sent frame (R21, R25 to R28, R36, R38, R182). -/

namespace Sys2Proof.Machine

/-! ## A record's fields (R36, R38) -/

theorem FaultCode.number_lt (c : FaultCode) : c.number < 256 := by
  have := c.index.isLt
  simp only [FaultCode.number]
  omega

theorem Severity.rank_lt (v : Severity) : v.rank < 256 := by cases v <;> decide

theorem Record.payload_layout (r : Record) (t : Transition) : (r.payload t).layout = r.noticeLayout t := by
  have hslot : r.slot.val % 256 = r.slot.val := by omega
  have hcode : r.code.number % 256 = r.code.number := Nat.mod_eq_of_lt r.code.number_lt
  have hrank : r.severity.rank % 256 = r.severity.rank := Nat.mod_eq_of_lt r.severity.rank_lt
  have htransition : t.number % 256 = (match t with | .opened => 0 | .closed => 1 | .openedAndClosed => 2) := by
    cases t <;> rfl
  have hreason : (if r.state = .closed then r.closeReason.number else 0) % 256 =
      (match r.state, r.closeReason with
        | .closed, .conditionGone => 1 | .closed, .faultReset => 2 | .closed, .warmReset => 3 | _, _ => 0) := by
    cases r.state <;> cases r.closeReason <;> rfl
  have hclose : (if r.state = .closed then r.closeStamp else 0).toNat =
      if r.state = .closed then r.closeStamp.toNat else 0 := by
    split <;> rfl
  simp only [NoticePayload.layout, Record.payload, Record.noticeLayout, BitVec.toNat_ofNat, Nat.reducePow, hslot, hcode, hrank,
    htransition, hreason, hclose] <;> rfl

theorem Record.copy_layout (r : Record) {latest : Transition}
    (h : if r.state = .closed then r.closeTransition = some latest else latest = .opened) :
    r.copy.layout = r.copyLayout latest := by
  have hlatest : (if r.state = .closed then r.closeTransition.getD .closed else .opened) = latest := by
    split at h <;> simp_all
  have hstate : (BitVec.ofNat 8 r.state.number).toNat =
      (match r.state with | .opened => 0 | .openCleared => 1 | .closed => 2) := by
    cases r.state <;> rfl
  simp only [RecordPayload.layout, Record.copy, hlatest, Record.payload_layout, Record.copyLayout, hstate] <;> rfl

/-! ## The record of a notice (R182) -/

theorem Record.owes_iff (r : Record) (x : Transition) : r.owes x ↔ r.owed? = some x := by
  cases h : r.state <;> simp [Record.owes, Record.owed?, h, eq_comm (a := x)]

theorem Flm.mem_candidates (f : Flm) (r : Record) (x : Transition) :
    (r, x) ∈ f.candidates ↔ (r ∈ f.opens ∨ r ∈ f.history) ∧ r.owes x := by
  simp [Flm.candidates, Record.owes_iff, or_and_right]

/-- A slot holds one record, so the notice of an identity is taken from the one record that owes it. -/
theorem Flm.noticeContent?_of_owes {f : Flm} (hf : f.sound) {r : Record} {x : Transition} (hr : r ∈ f.opens ∨ r ∈ f.history)
    (ho : r.owes x) : f.noticeContent? r.slot x = some r := by
  have hmem : (r, x) ∈ f.candidates := (f.mem_candidates r x).mpr ⟨hr, ho⟩
  obtain ⟨c, hc⟩ : ∃ c, f.candidates.find? (fun c => c.1.slot == r.slot && c.2 == x) = some c :=
    Option.isSome_iff_exists.mp (List.find?_isSome.mpr ⟨_, hmem, by simp⟩)
  have hcm : (c.1 ∈ f.opens ∨ c.1 ∈ f.history) ∧ c.1.owes c.2 := (f.mem_candidates c.1 c.2).mp (List.mem_of_find?_eq_some hc)
  have hslot : c.1.slot = r.slot := by
    have hfound := List.find?_some hc
    exact eq_of_beq (Bool.and_eq_true_iff.mp hfound).1
  have hcr : c.1 = r :=
    List.inj_on_of_nodup_map hf.1 (List.mem_append.mpr hcm.1) (List.mem_append.mpr hr) hslot
  rw [Flm.noticeContent?, hc, Option.map_some, hcr]

theorem Flm.noticeContent?_eq_none {f : Flm} {slot : Fin 64} {x : Transition}
    (h : ∀ r, ¬ ((r ∈ f.opens ∨ r ∈ f.history) ∧ r.slot = slot ∧ r.owes x)) : f.noticeContent? slot x = none := by
  refine Option.map_eq_none_iff.mpr (List.find?_eq_none.mpr fun c hc hslot => ?_)
  obtain ⟨hmem, howes⟩ := (f.mem_candidates c.1 c.2).mp hc
  obtain ⟨hs, hx⟩ := Bool.and_eq_true_iff.mp hslot
  exact h c.1 ⟨hmem, by simpa using hs, by simpa [eq_of_beq hx] using howes⟩

/-! ## A sent frame at the receiver (R21, R25 to R28) -/

theorem copyContent_length {s : State} {src : Source} {target : BitVec 4} {payload : List Byte}
    (h : s.copyContent src = some (target, payload)) : payload.length = kindLength src.kind.toNat := by
  cases src with
  | status =>
    obtain ⟨p, -, hp⟩ := Option.map_eq_some_iff.mp h
    rw [← (Prod.mk.inj hp).2, StatusPayload.bytes_length]
    rfl
  | reply =>
    obtain ⟨p, -, hp⟩ := Option.map_eq_some_iff.mp h
    rw [← (Prod.mk.inj hp).2, ReplyContent.bytes_length]
    rfl
  | record =>
    obtain ⟨p, -, hp⟩ := Option.map_eq_some_iff.mp h
    rw [← (Prod.mk.inj hp).2, RecordPayload.bytes_length]
    rfl
  | notice =>
    simp only [State.copyContent] at h
    split at h
    · exact nomatch h
    · obtain ⟨r, -, hr⟩ := Option.map_eq_some_iff.mp h
      rw [← (Prod.mk.inj hr).2, NoticePayload.bytes_length]
      rfl

theorem frameBits_length (h : Header) (payload : List Byte) : (frameBits h payload).length = 40 + 8 * (payload.length + 2) := by
  simp [frameBits, bytes16]
  omega

theorem classify_frameBits {h : Header} (hk : h.kind.toNat ≤ 4) (payload : List Byte) :
    classify (frameBits h payload) = .known h false := by
  have hhead : headerBits (frameBits h payload) = encodeHeader h := by simp [headerBits, frameBits]
  rw [classify, if_neg (by rw [frameBits_length]; omega), hhead, decodeHeader_encodeHeader]
  exact if_pos hk

theorem trailingBits_frameBits (h : Header) (payload : List Byte) :
    trailingBits (frameBits h payload) = (payload ++ bytes16 (crc16 payload)).flatMap bitsOf := by
  simp [trailingBits, frameBits]

theorem crcGood_append {h : Header} {payload : List Byte} (hlen : h.field.toNat = payload.length) :
    crcGood h (payload ++ bytes16 (crc16 payload)) = true := by
  simp [crcGood, hlen, u16At_append_bytes16]

theorem Source.kind_le (src : Source) : src.kind.toNat ≤ 4 := by cases src <;> decide

theorem kindLength_range (kind : Nat) : 0 < kindLength kind ∧ kindLength kind ≤ 36 := by
  unfold kindLength
  split <;> decide

/-- R21, R25 to R28: a frame the part sends is accepted by the header check, the length check and the CRC check. -/
theorem sentBits_accepted {s : State} {src : Source} {target : BitVec 4} {payload : List Byte} (station priority : Nat)
    (fill : Byte) (hcopy : s.copyContent src = some (target, payload)) :
    let bits := sentBits src station priority target payload
    let h : Header :=
      { kind := src.kind, sender := BitVec.ofNat 4 station, target := target, priority := BitVec.ofNat 4 priority,
        field := BitVec.ofNat 16 payload.length }
    bits.length = 40 + 8 * (payload.length + 2) ∧ classify bits = .known h false ∧
      groupBytes fill (trailingBits bits) = payload ++ bytes16 (crc16 payload) ∧
      lengthGood h (payload.length + 2) = true ∧ crcGood h (payload ++ bytes16 (crc16 payload)) = true := by
  intro bits h
  have hkind : payload.length = kindLength src.kind.toNat := copyContent_length hcopy
  have hrange := kindLength_range src.kind.toNat
  have hfield : h.field.toNat = payload.length := Nat.mod_eq_of_lt (by omega)
  refine ⟨frameBits_length h payload, classify_frameBits src.kind_le payload, ?_, ?_, crcGood_append hfield⟩
  · exact (congrArg (groupBytes fill) (trailingBits_frameBits h payload)).trans (groupBytes_flatMap_bitsOf fill _)
  · have h0 : payload.length ≠ 0 := by omega
    have h192 : payload.length ≤ 192 := by omega
    simp only [lengthGood, hfield]
    simp [h0, h192, h, hkind.symm]

/-! ## The payloads a source copies -/

theorem notice_copyContent_layout {s : State} {n : NoticeReg} (hn : s.slc.notice = some n) (hf : s.flm.sound) {r : Record}
    (hr : r ∈ s.flm.opens ∨ r ∈ s.flm.history) (hslot : r.slot = n.slot) (ho : r.owes n.transition) :
    ∃ bs, s.copyContent .notice = some (15, bs) ∧ laidOut bs 18 (r.noticeLayout n.transition) := by
  refine ⟨(r.payload n.transition).bytes, ?_, r.payload_layout n.transition ▸ NoticePayload.laidOut_bytes _⟩
  simp only [State.copyContent, hn, ← hslot, Flm.noticeContent?_of_owes hf hr ho, Option.map_some]

/-- Settles O12: the header code, the bytes and the CRC are read back as they were made, and each payload is its table. -/
theorem sentFramesPassTheChecks : Obligations.SentFramesPassTheChecks := by
  unfold Obligations.SentFramesPassTheChecks
  refine ⟨fun s src station priority target payload fill hcopy => sentBits_accepted station priority fill hcopy, fun s => ?_,
    fun r latest h => r.copy_layout h ▸ r.copy.laidOut_bytes, fun bs => ⟨laidOut_readStatus, laidOut_readNotice⟩⟩
  refine ⟨fun p hp => ?_, fun p hp => ?_, fun p hp => ?_, fun n hn hf => ⟨fun r hr => ?_, fun hnone => ?_⟩⟩
  · exact ⟨p.content.bytes, by rw [State.copyContent, hp, Option.map_some], p.content.laidOut_bytes⟩
  · exact ⟨p.content.bytes s.slc.errors, by rw [State.copyContent, hp, Option.map_some], p.content.laidOut_bytes _⟩
  · exact ⟨p.content.payload.bytes, by rw [State.copyContent, hp, Option.map_some], p.content.payload.laidOut_bytes⟩
  · obtain ⟨hmem, hslot, ho⟩ := hr
    exact notice_copyContent_layout hn hf hmem hslot ho
  · simp only [State.copyContent, hn, Flm.noticeContent?_eq_none hnone, Option.map_none]

end Sys2Proof.Machine
end

section
/-! SUPPORT. The header code under inverted bits (R22, R23): one inverted bit leaves its own position as the syndrome and an
odd parity, two leave another syndrome than 0 and an even parity. -/

namespace Sys2Proof.Machine

/-! ## The code of a word of 40 bits -/

/-- The indices R22 gives the first 38 bits of a header in the order in which they are sent. -/
def wirePositions : List Nat := dataPositions ++ checkPositions

@[simp] theorem wirePositions_length : wirePositions.length = 38 := rfl

theorem wirePositions_nodup : wirePositions.Nodup := by decide

theorem wirePositions_range : ∀ p ∈ wirePositions, p ≠ 0 ∧ p ≤ 38 := by decide

/-- The exclusive-or of those of the indices `ps` whose bit in `bs` is a one. -/
def onesXor (ps : List Nat) (bs : List Bool) : Nat :=
  (ps.zip bs).foldl (fun acc pb => if pb.2 then acc ^^^ pb.1 else acc) 0

theorem onesXor_cons (p : Nat) (ps : List Nat) (b : Bool) (bs : List Bool) :
    onesXor (p :: ps) (b :: bs) = (if b then p else 0) ^^^ onesXor ps bs := by
  have start (l : List (Nat × Bool)) (a : Nat) :
      l.foldl (fun acc pb => if pb.2 then acc ^^^ pb.1 else acc) a =
        a ^^^ l.foldl (fun acc pb => if pb.2 then acc ^^^ pb.1 else acc) 0 := by
    induction l generalizing a with
    | nil => simp
    | cons x l ih =>
      rw [List.foldl_cons, List.foldl_cons, ih, ih (if x.2 = true then 0 ^^^ x.1 else 0)]
      split <;> simp [Nat.xor_assoc]
  rw [onesXor, List.zip_cons_cons, List.foldl_cons, start, Nat.zero_xor]
  rfl

/-- A bit inverted moves the exclusive-or by its index. -/
theorem onesXor_modify {ps : List Nat} {bs : List Bool} {i : Nat} (hp : i < ps.length) (hb : i < bs.length) :
    onesXor ps (bs.modify i not) = onesXor ps bs ^^^ ps[i] := by
  induction i generalizing ps bs with
  | zero =>
    obtain ⟨p, ps, rfl⟩ := List.exists_cons_of_length_pos hp
    obtain ⟨b, bs, rfl⟩ := List.exists_cons_of_length_pos hb
    cases b <;> simp [onesXor_cons, Nat.xor_comm]
  | succ i ih =>
    obtain ⟨p, ps, rfl⟩ := List.exists_cons_of_length_pos (Nat.zero_lt_of_lt hp)
    obtain ⟨b, bs, rfl⟩ := List.exists_cons_of_length_pos (Nat.zero_lt_of_lt hb)
    rw [List.modify_succ_cons, onesXor_cons, onesXor_cons, ih (Nat.lt_of_succ_lt_succ hp) (Nat.lt_of_succ_lt_succ hb),
      Nat.xor_assoc]
    rfl

theorem onesXor_modify_beyond {ps : List Nat} {i : Nat} (h : ps.length ≤ i) (bs : List Bool) :
    onesXor ps (bs.modify i not) = onesXor ps bs := by
  have htake (bs : List Bool) : ps.zip bs = ps.zip (bs.take ps.length) := by
    induction ps generalizing bs with
    | nil => rfl
    | cons p ps ih =>
      cases bs with
      | nil => rfl
      | cons b bs => exact congrArg ((p, b) :: ·) (ih (Nat.le_of_succ_le h) bs)
  rw [onesXor, onesXor, htake, htake bs, List.take_modify, List.modify_eq_self (Nat.le_trans (List.length_take_le ..) h)]

theorem parity_cons (b : Bool) (bs : List Bool) : parity (b :: bs) = (b ^^ parity bs) := by
  rw [← List.singleton_append, parity_append]
  simp [parity]

theorem parity_modify {bs : List Bool} {i : Nat} (h : i < bs.length) : parity (bs.modify i not) = !parity bs := by
  induction i generalizing bs with
  | zero =>
    obtain ⟨b, bs, rfl⟩ := List.exists_cons_of_length_pos h
    simp [parity_cons]
  | succ i ih =>
    obtain ⟨b, bs, rfl⟩ := List.exists_cons_of_length_pos (Nat.zero_lt_of_lt h)
    rw [List.modify_succ_cons, parity_cons, parity_cons, ih (Nat.lt_of_succ_lt_succ h), Bool.xor_not]

theorem parity_take_modify {bits : List Bool} (hl : bits.length = 40) {p : Nat} (hp : p < 39) :
    parity ((bits.modify p not).take 39) = !parity (bits.take 39) := by
  rw [List.take_modify]
  exact parity_modify (by simp [hl, hp])

theorem syndrome_take_drop {bits : List Bool} (hl : bits.length = 40) :
    syndrome (bits.take 32) ((bits.drop 32).take 6) = onesXor wirePositions bits := by
  have hzip : wirePositions.zip bits = dataPositions.zip (bits.take 32) ++ checkPositions.zip ((bits.drop 32).take 6) := by
    rw [List.zip_eq_zip_take_min, ← List.zip_append (by simp [hl]; rfl), ← List.take_add]
    simp [hl, wirePositions]
    rfl
  rw [syndrome, onesXor, hzip]

/-- R23 on a word of 40 bits: by the exclusive-or of its ones and the parity of its first 39 bits. -/
theorem decodeHeader_eq {bits : List Bool} (hl : bits.length = 40) :
    decodeHeader bits =
      if onesXor wirePositions bits = 0 then
        (if parity (bits.take 39) then .corrected (headerOf (bits.take 32)) else .clean (headerOf (bits.take 32)))
      else if parity (bits.take 39) ∧ onesXor wirePositions bits ≤ 38 then
        .corrected (headerOf (invertAt (onesXor wirePositions bits) (bits.take 32)))
      else .uncorrectable := by
  have hpar : bits.take 32 ++ (bits.drop 32).take 6 ++ [bits.getD 38 false] = bits.take 39 := by
    rw [← List.take_add, List.getD_eq_getElem _ _ (by omega)]
    exact List.take_concat_get' bits 38 (by omega)
  rw [decodeHeader, syndrome_take_drop hl, hpar]

/-- The inverted bit is put right by its index, and an inverted check bit leaves the data bits as they were. -/
theorem invertAt_modify {bits : List Bool} (hl : bits.length = 40) {p : Nat} (hp : p < wirePositions.length) :
    invertAt wirePositions[p] ((bits.modify p not).take 32) = bits.take 32 := by
  have hlen : dataPositions.length = 32 := rfl
  refine List.ext_getElem (by simp [invertAt, hl, hlen]) fun i h1 h2 => ?_
  have hi : i < dataPositions.length := by simp [hl] at h2; omega
  have hpos : dataPositions[i] = wirePositions[p] ↔ p = i := by
    have hwire : dataPositions[i] = wirePositions[i]'(by simp; omega) := (List.getElem_append_left hi).symm
    rw [hwire, wirePositions_nodup.getElem_inj_iff, eq_comm]
  simp only [invertAt, List.getElem_map, List.getElem_zip, List.getElem_take, List.getElem_modify, hpos]
  split <;> simp

/-! ## The word of a header -/

/-- R22: the ones of a sent header have even parity in every check. -/
theorem encodeHeader_code (h : Header) :
    onesXor wirePositions (encodeHeader h) = 0 ∧ parity ((encodeHeader h).take 39) = false ∧
      headerOf ((encodeHeader h).take 32) = h := by
  have hclean := decodeHeader_encodeHeader h
  rw [decodeHeader_eq (encodeHeader_length h)] at hclean
  split at hclean
  next hs =>
    split at hclean
    next => cases hclean
    next hp => exact ⟨hs, Bool.eq_false_iff.mpr hp, HeaderCheck.clean.inj hclean⟩
  next => split at hclean <;> cases hclean

/-- R22: the pad bit is in no check. -/
theorem decodeHeader_modify_pad (h : Header) : decodeHeader ((encodeHeader h).modify 39 not) = .clean h := by
  have htake {n : Nat} (hn : n ≤ 39) : ((encodeHeader h).modify 39 not).take n = (encodeHeader h).take n := by
    rw [List.take_modify, List.modify_eq_self (Nat.le_trans (List.length_take_le ..) hn)]
  rw [← decodeHeader_encodeHeader h, decodeHeader_eq (encodeHeader_length h), decodeHeader_eq (by simp),
    onesXor_modify_beyond (by decide), htake (by decide), htake (by decide)]

/-- The index of an inverted bit is the syndrome; the overall bit has none, and leaves the data bits as they were. -/
theorem decodeHeader_modify (h : Header) {p : Nat} (hp : p < 39) :
    decodeHeader ((encodeHeader h).modify p not) = .corrected h := by
  have hl := encodeHeader_length h
  obtain ⟨hsyn, hpar, hh⟩ := encodeHeader_code h
  rw [decodeHeader_eq (by simp), parity_take_modify hl hp, hpar]
  rcases Nat.lt_or_ge p 38 with hcode | hoverall
  · obtain ⟨hne, hle⟩ := wirePositions_range _ (List.getElem_mem (show p < wirePositions.length from hcode))
    rw [onesXor_modify (show p < wirePositions.length from hcode) (by omega), hsyn, Nat.zero_xor, if_neg hne,
      if_pos ⟨rfl, hle⟩, invertAt_modify hl, hh]
  · rw [onesXor_modify_beyond hoverall, hsyn, List.take_modify, List.modify_eq_self (by simp; omega), hh]
    rfl

/-- Two inverted bits keep the parity, and their indices, or the one of them, differ from 0. -/
theorem decodeHeader_modify_modify (h : Header) {p q : Nat} (hpq : p < q) (hq : q < 39) :
    decodeHeader (((encodeHeader h).modify p not).modify q not) = .uncorrectable := by
  have hl := encodeHeader_length h
  obtain ⟨hsyn, hpar, -⟩ := encodeHeader_code h
  have hp : p < wirePositions.length := Nat.lt_of_lt_of_le hpq (Nat.le_of_lt_succ hq)
  have hone : onesXor wirePositions ((encodeHeader h).modify p not) = wirePositions[p] := by
    rw [onesXor_modify hp (by omega), hsyn, Nat.zero_xor]
  have hne : onesXor wirePositions (((encodeHeader h).modify p not).modify q not) ≠ 0 := by
    rcases Nat.lt_or_ge q 38 with hcode | hoverall
    · rw [onesXor_modify (show q < wirePositions.length from hcode) (by simp; omega), hone, ne_eq, Nat.xor_eq_zero_iff]
      exact fun heq => Nat.ne_of_lt hpq (wirePositions_nodup.getElem_inj_iff.mp heq)
    · rw [onesXor_modify_beyond hoverall, hone]
      exact (wirePositions_range _ (List.getElem_mem hp)).1
  have heven : parity ((((encodeHeader h).modify p not).modify q not).take 39) = false := by
    rw [parity_take_modify (by simp) hq, parity_take_modify hl (Nat.lt_trans hpq hq), hpar]
    rfl
  rw [decodeHeader_eq (by simp), if_neg hne, heven, if_neg (by simp)]

/-- Settles O11: by the syndrome and the parity that an inverted bit leaves. -/
theorem headerCodeCorrectsOneError : Obligations.HeaderCodeCorrectsOneError := fun h =>
  ⟨encodeHeader_length h, decodeHeader_encodeHeader h, decodeHeader_modify_pad h, fun _ hp => decodeHeader_modify h hp,
    fun _ _ hpq hq => decodeHeader_modify_modify h hpq hq⟩

end Sys2Proof.Machine
end

section
/-! SUPPORT. Received frames that are discarded, that answer a command, or that are turned away, in the terms of the
statements (R25 to R32, R39 to R41, R47, R56). -/

namespace Sys2Proof.Machine

/-! ## Discarded frames (R3, R23, R26) -/

theorem exec_frameDiscarded_header {s : State} {heard : List BitTime} (hc : s.canEnd heard = true)
    (hcl : classify (heardBits heard) = .tooShort ∨ classify (heardBits heard) = .uncorrectable) :
    exec (.frameDiscarded heard) s = .next ((s.afterFrame heard false).withError 1) := by
  rw [← frameEnds_eq_afterFrame]
  rcases hcl with hcl | hcl <;>
    simp only [exec, execFrameDiscarded, State.discardedFrame, State.whenFrame, hc, hcl, true_and, if_true,
      flag_eq_withError, LinkError.bit]

theorem exec_frameDiscarded_kind {s : State} {heard : List BitTime} {corrected : Bool} (hc : s.canEnd heard = true)
    (hcl : classify (heardBits heard) = .unknownKind corrected) :
    exec (.frameDiscarded heard) s = .next ((s.afterFrame heard corrected).withError 3) := by
  simp only [exec, execFrameDiscarded, State.discardedFrame, State.whenFrame, hc, hcl, true_and, if_true, flagIf_frameEnds,
    flag_eq_withError, LinkError.bit]

theorem classify_short {bits : List Bool} (h : bits.length < 40) : classify bits = .tooShort := if_pos h

theorem classify_uncorrectable {bits : List Bool} (h40 : 40 ≤ bits.length)
    (hd : decodeHeader (headerBits bits) = .uncorrectable) : classify bits = .uncorrectable := by
  rw [classify, if_neg (Nat.not_lt.mpr h40), hd]

theorem classify_clean {bits : List Bool} {h : Header} (h40 : 40 ≤ bits.length)
    (hd : decodeHeader (headerBits bits) = .clean h) : classify bits = kindCheck h false := by
  rw [classify, if_neg (Nat.not_lt.mpr h40), hd]

theorem classify_corrected {bits : List Bool} {h : Header} (h40 : 40 ≤ bits.length)
    (hd : decodeHeader (headerBits bits) = .corrected h) : classify bits = kindCheck h true := by
  rw [classify, if_neg (Nat.not_lt.mpr h40), hd]

theorem kindCheck_unknown {h : Header} (corrected : Bool) (hk : 5 ≤ h.kind.toNat) :
    kindCheck h corrected = .unknownKind corrected := if_neg (by omega)

/-! ## Payload checks (R28, R30) -/

theorem lengthGood_eq_false {h : Header} {n : Nat}
    (hbad : h.field.toNat = 0 ∨ 192 < h.field.toNat ∨ n ≠ h.field.toNat + 2 ∨ h.field.toNat ≠ kindLength h.kind.toNat) :
    lengthGood h n = false := by
  simp [lengthGood]
  omega

/-- Settles O14: the first check that fails sets its bit and ends the handling of the frame. -/
theorem discardedFramesSetTheirBit : Obligations.DiscardedFramesSetTheirBit := by
  constructor
  · intro heard s hl hq hw
    have hcan := canEnd_of hl hq hw
    have hlen := heardBits_length heard
    refine ⟨fun h => exec_frameDiscarded_header hcan ?_, fun h h40 hd hk => exec_frameDiscarded_kind hcan ?_,
      fun h h40 hd hk => exec_frameDiscarded_kind hcan ?_⟩
    · rcases Nat.lt_or_ge (heardBits heard).length 40 with hshort | h40
      · exact .inl (classify_short hshort)
      · exact .inr (classify_uncorrectable h40 (h.resolve_left (by omega)))
    · rw [classify_clean (hlen ▸ h40) hd, kindCheck_unknown _ hk]
    · rw [classify_corrected (hlen ▸ h40) hd, kindCheck_unknown _ hk]
  · intro heard h corrected c s hh hk
    obtain ⟨act, hexec⟩ := exec_heard hh hk
    refine ⟨fun hbad => ?_, fun hlen hkind hcrc => ?_⟩
    · rw [hexec, State.payloadChecks, lengthGood_eq_false hbad]
      rfl
    · rw [hexec, State.payloadChecks, lengthGood_of hlen hkind, show crcGood h (s.trailing heard) = false from beq_false_of_ne hcrc]
      rfl

/-! ## Answers of peers, and EXCLUDED peers (R31, R47, R56) -/

/-- R31, R32: the payload of a REPLY or RECORD is not used, so the frame is only counted. -/
theorem exec_replyOrRecord {s : State} {heard : List BitTime} {h : Header} {corrected : Bool}
    (hh : s.hears heard h corrected) (hk : h.kind = 3 ∨ h.kind = 4) (hp : s.payloadGood heard h) :
    exec (.replyOrRecordReceived heard) s = .next ((s.afterFrame heard corrected).counted h.sender.toNat) := by
  obtain ⟨hl, hq, hw, hcl, hown, hforeign⟩ := hh
  obtain ⟨hlen, hkind, hcrc⟩ := hp
  have hgood : lengthGood h (s.trailing heard).length = true := lengthGood_of hlen hkind
  have hcrcGood : crcGood h (s.trailing heard) = true := beq_iff_eq.mpr hcrc
  have hrow : (h.kind.toNat == 3 || h.kind.toNat == 4) = true := by rcases hk with hk | hk <;> rw [hk] <;> rfl
  simp only [exec, execReplyOrRecordReceived, State.answerFrame, State.longFrame, State.whenFrame, canEnd_of hl hq hw, hcl,
    hrow, State.senderChecks, flagIf_frameEnds, osc_afterFrame, hown, foreign_afterFrame, hforeign, State.payloadChecks, hgood,
    hcrcGood, dispatch_eq_counted]
  rfl

theorem counted_fromPeer {s : State} {heard : List BitTime} {h : Header} {corrected : Bool} {j : Fin 12} (hf : s.fromPeer h j) :
    let u := s.afterFrame heard corrected
    u.counted h.sender.toNat = { u with
      ptb := { u.ptb with isolationDue := some (u.clock + ms 2000), isolated := false }
      flm := if s.ptb.isolated then u.flm.take (stampOf u.clock) (.gone .linkIsolated) else u.flm } := by
  obtain ⟨hloaded, hslot, hactive⟩ := hf
  exact if_pos ⟨hloaded, (congrArg (·.any s.activePeer) hslot).trans hactive⟩

theorem activePeer_excluded {s : State} {j : Fin 12} {d : Descriptor} (hd : s.ptb.slots[j] = some d) (he : d.excluded = true) :
    s.activePeer j = false := by
  rw [State.activePeer, State.slotPeer?, hd, Option.filter_some]
  split
  · simp [he]
  · rfl

/-- R47: nothing is made of a valid frame of an EXCLUDED peer. -/
theorem dispatch_excluded {s : State} {n : Nat} {j : Fin 12} (hj : s.ptb.slotOf? n = some j) (ha : s.activePeer j = false)
    (act : State → Fin 12 → PeerEntry → PeerEntry) : s.dispatch n act = s := by
  simp only [State.dispatch, State.dispatchSlot?]
  split
  next => rfl
  next i hi =>
    have hij : j = i := Option.some.inj (hj.symm.trans (Option.ite_none_right_eq_some.mp hi).2)
    subst hij
    exact if_neg (by rw [ha]; exact Bool.false_ne_true)

/-- Settles O18: by the one dispatch of long frames. -/
theorem answersCountAsHeardUnlessExcluded : Obligations.AnswersCountAsHeardUnlessExcluded := by
  constructor
  · intro heard h corrected j s hh hk hp hf u
    rw [exec_replyOrRecord hh hk hp, counted_fromPeer hf]
  · intro heard h corrected j d c s hh hp hloaded hj hd he hk
    obtain ⟨act, hexec⟩ := exec_good hh hp hk
    exact hexec.trans (congrArg _ (dispatch_excluded (s := s.afterFrame heard corrected) hj (activePeer_excluded hd he) act))

/-! ## Commands turned away (R29, R31, R39 to R41) -/

/-- R39 to R41: a targeted command that is not carried out. -/
theorem targeted_full {s : State} (h : Header) (owner : BitVec 4 → State → Answer) (hr : s.slc.replySlot.isSome = true) :
    s.targeted h owner = s.withError 6 := if_pos hr

theorem targeted_notPermitted {s : State} {h : Header} (owner : BitVec 4 → State → Answer) (hr : s.slc.replySlot = none)
    (hp : h.permitted = false) : s.targeted h owner = (s.withError 7).answered h .notPermitted 0 := by
  rw [State.targeted, hr, hp]
  rfl

theorem targeted_bad {s : State} {h : Header} (owner : BitVec 4 → State → Answer) (hr : s.slc.replySlot = none)
    (hp : h.permitted = true) {r : Result} (hb : s.badCommand h.commandCode h.argument = some r) :
    s.targeted h owner = s.answered h r 0 := by
  rw [State.targeted, hr, hp, argumentFault?_eq_badCommand, hb]
  rfl

theorem permitted_iff (h : Header) : h.permitted = true ↔ h.sender = 13 ∨ h.sender = 14 := by
  simp [Header.permitted]

theorem permitted_eq_false {h : Header} (h13 : h.sender ≠ 13) (h14 : h.sender ≠ 14) : h.permitted = false :=
  Bool.eq_false_iff.mpr fun hp => ((permitted_iff h).mp hp).elim h13 h14

/-- R39: a command for the own station goes to `State.targeted` once it has counted as heard. -/
theorem exec_targeted {s : State} {heard : List BitTime} {h : Header} {corrected : Bool} (zone : Option Int)
    (hh : s.hears heard h corrected) (hk : h.kind = 2) (hl : heard.length = 40) (hv : s.osc.validStation = true)
    (ht : h.target.toNat = s.osc.station) :
    exec (commandRow heard zone h.commandCode) s = .next (
      ((s.afterFrame heard corrected).counted h.sender.toNat).targeted h (commandOwner zone h.commandCode h.argument)) := by
  rw [exec_commandRow hh hk, if_neg (by omega), dispatch_eq_counted, State.takeCommand, if_neg (target_of_own hv ht),
    osc_counted, osc_afterFrame, if_pos ⟨hv, ht⟩]

/-- Settles O20: the length check, the target, the REPLY slot, the sender, the code and argument, in this order. -/
theorem commandsAreTurnedAway : Obligations.CommandsAreTurnedAway := by
  intro heard h corrected zone s hh hk row u v
  have hexec : exec row s = _ := exec_commandRow hh hk
  have hosc : v.osc = s.osc := osc_counted u _
  have hslot : v.slc.replySlot = s.slc.replySlot := by rw [slc_counted]; rfl
  refine ⟨fun hlong => ?_, fun hl h15 hother => ?_, fun hl hv ht => ?_⟩
  · rw [hexec, if_pos (by omega)]
  · rw [hexec, if_neg (by omega), dispatch_eq_counted, State.takeCommand, if_neg h15,
      if_neg]
    rw [hosc]
    rintro ⟨hv, ht⟩
    exact hother.elim (by simp [hv]) (· ht)
  · have htargeted : exec row s = .next (v.targeted h (commandOwner zone h.commandCode h.argument)) :=
      exec_targeted zone hh hk hl hv ht
    rw [htargeted]
    refine ⟨fun hr => ?_, fun hr h13 h14 => ?_, fun hr hs r hb => ?_⟩
    · rw [targeted_full h _ (hslot ▸ hr)]
    · rw [targeted_notPermitted _ (hslot.trans hr) (permitted_eq_false h13 h14)]
    · rw [targeted_bad _ (hslot.trans hr) ((permitted_iff h).mpr hs) hb]

end Sys2Proof.Machine
end

section
/-! SUPPORT. What the owners of START, STOP, RECORD REQUEST and STRING CAP make of a command, and the answers to it (R42, R66,
R185, R200, R201, R203). -/

namespace Sys2Proof.Machine

/-! ## Carrying a command out (R41, R42) -/

/-- R42: the state with the REPLY slot filled by what the owner answered. -/
def Answer.reply (h : Header) (a : Answer) : State := a.after.answered h a.result (if a.result = .accepted then a.data else 0)

/-- R42: a command whose code and argument pass is answered by its owner. -/
theorem exec_carriedOut {s : State} {heard : List BitTime} {h : Header} {corrected : Bool} (zone : Option Int)
    {code arg : Nat} (hc : s.commanded heard h corrected code arg) (hb : s.badCommand code arg = none) :
    exec (commandRow heard zone code) s =
      .next ((commandOwner zone code arg h.sender (s.afterFrame heard corrected)).reply h) := by
  rw [exec_commanded hc, hb]
  rfl

theorem targeted_carriedOut {s : State} {h : Header} (owner : BitVec 4 → State → Answer) (hr : s.slc.replySlot = none)
    (hp : h.permitted = true) (hb : s.badCommand h.commandCode h.argument = none) :
    s.targeted h owner = (owner h.sender s).reply h := by
  rw [State.targeted, hr, hp, argumentFault?_eq_badCommand, hb]
  rfl

theorem badCommand_unknown (s : State) {code : Nat} (arg : Nat) (hcode : code = 0 ∨ 9 < code) :
    s.badCommand code arg = some .unknownCommand := if_pos (by omega)

theorem badCommand_plain (s : State) {code : Nat} (hcode : 1 ≤ code ∧ code ≤ 6 ∨ code = 9) : s.badCommand code 0 = none := by
  rw [State.badCommand, if_neg (by omega), if_neg (by omega), if_neg (by omega), if_neg (by omega)]

theorem badCommand_recordRequest {s : State} {arg : Nat} {r : Record} (hr : s.flm.recordAt? arg = some r) :
    s.badCommand 7 arg = none := by
  have hused : ¬ ∀ i : Fin 64, s.flm.inUse i = true → i.val ≠ arg := fun h =>
    Option.some_ne_none r (hr.symm.trans ((recordAt?_eq_none s.flm arg).mpr h))
  rw [State.badCommand, if_neg (by decide), if_neg (by omega), if_neg (fun h => hused h.2), if_neg (by omega)]

theorem badCommand_stringCap (s : State) {arg : Nat} (ha : arg ≤ 100) : s.badCommand 8 arg = none := by
  rw [State.badCommand, if_neg (by decide), if_neg (by omega), if_neg (by omega), if_neg (by omega)]

/-! ## START and STOP (R200, R201, R203) -/

theorem ownStart_eq (s : State) :
    s.ownStart =
      if s.osc.state ≠ .standby then ⟨.refusedState, 0, s⟩
      else if s.flm.reaction.trip = false ∧ s.clc.delivering = true ∧ s.cvp.silenceDue.isSome ∧ s.osc.arrivalSeen then
        ⟨.accepted, 0, { s with osc := { s.osc with
          runCommand := true, state := .starting, enable := true, startDue := some (s.clock + ms 10000) } }⟩
      else ⟨.accepted, 0, { s with osc := { s.osc with runCommand := true } }⟩ := by
  unfold State.ownStart
  split
  case h_1 hstandby =>
    have htest : (s.setOsc { s.osc with runCommand := true }).testStart = _ := testStart_eq_tested hstandby
    rw [if_neg (not_not_intro hstandby), htest, State.tested]
    by_cases hcond : s.flm.reaction.trip = false ∧ s.clc.delivering = true ∧ s.cvp.silenceDue.isSome ∧ s.osc.arrivalSeen
    · rw [if_pos hcond, if_pos ⟨rfl, hcond⟩]
      rfl
    · rw [if_neg hcond, if_neg fun hmay => hcond hmay.2]
      rfl
  all_goals
    next hother => rw [if_pos (by rw [hother]; decide)]

theorem ownStop_eq (s : State) :
    s.ownStop =
      if s.osc.state = .producing ∨ s.osc.state = .rideThrough then
        ⟨.accepted, 0, { s with osc := { s.osc with
          state := .stopping, runCommand := false, stopDue := some (s.clock + ms 30000) } }⟩
      else ⟨.refusedState, 0, s⟩ := by
  unfold State.ownStop
  split <;> next hstate => rw [hstate]; rfl

/-- Settles O22: the answers of the two owners. -/
theorem startAndStopMoveTheOperatingState : Obligations.StartAndStopMoveTheOperatingState := by
  constructor
  · intro heard h corrected s hc u
    have hexec : exec (.start heard) s = .next (u.ownStart.reply h) := exec_carriedOut none hc (badCommand_plain s (by decide))
    rw [hexec, ownStart_eq, apply_ite (Answer.reply h), apply_ite (Answer.reply h)]
    rfl
  · intro heard h corrected s hc u
    have hexec : exec (.stop heard) s = .next (u.ownStop.reply h) := exec_carriedOut none hc (badCommand_plain s (by decide))
    rw [hexec, ownStop_eq, apply_ite (Answer.reply h)]
    rfl

/-! ## RECORD REQUEST, STRING CAP and unknown codes (R38, R41, R66, R185) -/

theorem ownRecordRequest_eq {s : State} {slot : Nat} {r : Record} (target : BitVec 4) (hr : s.flm.recordAt? slot = some r) :
    s.ownRecordRequest target slot =
      if s.slc.recordSlot.isSome then ⟨.busy, 0, s⟩
      else ⟨.accepted, 0, { s with slc := { s.slc with
        recordSlot := some { content := { target := target, payload := r.copy }, loss := 0, echo := 0 } } }⟩ := by
  rw [State.ownRecordRequest, hr]
  rfl

theorem commandRow_unknown (heard : List BitTime) (zone : Option Int) {code : Nat} (hcode : code = 0 ∨ 9 < code) :
    commandRow heard zone code = .unknownCommand heard := by
  rcases hcode with rfl | hcode
  · rfl
  · obtain ⟨k, rfl⟩ : ∃ k, code = k + 10 := ⟨code - 10, by omega⟩
    rfl

/-- Settles O28: the answers of the owners, and of R41 where the code has none. -/
theorem recordRequestStringCapAndUnknown : Obligations.RecordRequestStringCapAndUnknown := by
  constructor
  · intro heard h corrected arg r s hc _ hr u
    have hexec : exec (.recordRequest heard) s = .next ((u.ownRecordRequest h.sender arg).reply h) :=
      exec_carriedOut none hc (badCommand_recordRequest hr)
    rw [hexec, ownRecordRequest_eq h.sender (s := u) hr, apply_ite (Answer.reply h)]
    rfl
  · intro heard h corrected code arg s hc u
    refine ⟨fun hcode ha => ?_, fun hcode => ?_⟩
    · subst hcode
      exact exec_carriedOut none hc (badCommand_stringCap s ha)
    · rw [← commandRow_unknown heard none hcode, exec_commanded hc, badCommand_unknown s arg hcode]

end Sys2Proof.Machine
end

section
/-! SUPPORT. The link is apart from what a command does: an operation of the other blocks does the same whatever the SLC
holds, and leaves the SLC as it is. -/

namespace Sys2Proof.Machine

section
variable (s : State) (x : Slc)

/-! ## Updates of the other blocks -/

@[simp] theorem State.setYwc_setSlc (y : Ywc) : (s.setSlc x).setYwc y = (s.setYwc y).setSlc x := rfl
@[simp] theorem State.setClc_setSlc (y : Clc) : (s.setSlc x).setClc y = (s.setClc y).setSlc x := rfl
@[simp] theorem State.setApa_setSlc (y : Apa) : (s.setSlc x).setApa y = (s.setApa y).setSlc x := rfl
@[simp] theorem State.setFlm_setSlc (y : Flm) : (s.setSlc x).setFlm y = (s.setFlm y).setSlc x := rfl
@[simp] theorem State.setOsc_setSlc (y : Osc) : (s.setSlc x).setOsc y = (s.setOsc y).setSlc x := rfl

@[simp] theorem State.ite_setSlc (c : Prop) [Decidable c] (t : State) :
    (if c then s else t).setSlc x = if c then s.setSlc x else t.setSlc x := apply_ite (State.setSlc · x) c s t

/-! ## Readings -/

@[simp] theorem State.stamp_setSlc : (s.setSlc x).stamp = s.stamp := rfl
@[simp] theorem State.after_setSlc (p : Clocks) : (s.setSlc x).after p = s.after p := rfl
@[simp] theorem State.coolingOverride_setSlc : (s.setSlc x).coolingOverride = s.coolingOverride := rfl
@[simp] theorem State.yawPrecedes_setSlc : (s.setSlc x).yawPrecedes = s.yawPrecedes := rfl
@[simp] theorem State.yawOffer_setSlc : (s.setSlc x).yawOffer = s.yawOffer := rfl

/-! ## The arbiter and the yaw states -/

@[simp] theorem State.quiet_setSlc (r : Report) : (s.setSlc x).quiet r = (s.quiet r).setSlc x := rfl

@[simp] theorem State.quietGone_setSlc (c : FaultCode) : (s.setSlc x).quietGone c = (s.quietGone c).setSlc x := by
  rw [State.quietGone, State.quietGone, State.ite_setSlc]
  rfl

@[simp] theorem State.stopFan_setSlc : (s.setSlc x).stopFan = s.stopFan.setSlc x := by
  simp only [State.stopFan, State.setSlc_clc]
  split <;> rfl

@[simp] theorem State.grantFan_setSlc : (s.setSlc x).grantFan = s.grantFan.setSlc x := by
  simp only [State.grantFan, State.setApa_setSlc, State.setSlc_clc, State.setSlc_apa]
  split <;> rfl

@[simp] theorem State.tryFan_setSlc : (s.setSlc x).tryFan = s.tryFan.setSlc x := by simp [State.tryFan]

@[simp] theorem State.grantYaw_setSlc (k : Nat) : (s.setSlc x).grantYaw k = (s.grantYaw k).setSlc x := by simp [State.grantYaw]

@[simp] theorem State.tryYaw_setSlc : (s.setSlc x).tryYaw = s.tryYaw.setSlc x := by simp [State.tryYaw]

@[simp] theorem State.tryRequests_setSlc : (s.setSlc x).tryRequests = s.tryRequests.setSlc x := by simp [State.tryRequests]

@[simp] theorem State.takeBackFans_setSlc (n : Nat) : (s.setSlc x).takeBackFans n = (s.takeBackFans n).setSlc x := by
  induction n generalizing s with
  | zero => rfl
  | succ n ih => simp [State.takeBackFans, ih]

@[simp] theorem State.shed_setSlc : (s.setSlc x).shed = s.shed.setSlc x := by simp [State.shed]

@[simp] theorem State.yawToIdle_setSlc : (s.setSlc x).yawToIdle = s.yawToIdle.setSlc x := by simp [State.yawToIdle]

@[simp] theorem State.releaseYaw_setSlc : (s.setSlc x).releaseYaw = s.releaseYaw.setSlc x := by
  cases h : s.apa.shedPending <;> simp [State.releaseYaw, h]

@[simp] theorem State.endMove_setSlc : (s.setSlc x).endMove = s.endMove.setSlc x := by simp [State.endMove]

@[simp] theorem State.enterBrakeApply_setSlc : (s.setSlc x).enterBrakeApply = s.enterBrakeApply.setSlc x := by
  simp [State.enterBrakeApply]

@[simp] theorem State.withdrawYaw_setSlc : (s.setSlc x).withdrawYaw = s.withdrawYaw.setSlc x := by simp [State.withdrawYaw]

@[simp] theorem State.yawStopCause_setSlc (b : Bool) : (s.setSlc x).yawStopCause b = (s.yawStopCause b).setSlc x := by
  simp only [State.yawStopCause, State.setSlc_ywc]
  split <;> simp

@[simp] theorem State.overrideStop_setSlc : (s.setSlc x).overrideStop = s.overrideStop.setSlc x := by simp [State.overrideStop]

@[simp] theorem State.examine_setSlc : (s.setSlc x).examine = s.examine.setSlc x := by simp [State.examine]

/-! ## The moves of the OSC -/

@[simp] theorem State.extraBlock_setSlc : (s.setSlc x).extraBlock = s.extraBlock.setSlc x := rfl

@[simp] theorem State.enableOff_setSlc : (s.setSlc x).enableOff = s.enableOff.setSlc x := by
  rw [State.enableOff, State.enableOff, State.ite_setSlc]
  rfl

@[simp] theorem State.testStart_setSlc : (s.setSlc x).testStart = s.testStart.setSlc x := by
  rw [State.testStart, State.testStart, State.ite_setSlc]
  rfl

@[simp] theorem State.enterStandby_setSlc : (s.setSlc x).enterStandby = s.enterStandby.setSlc x := by simp [State.enterStandby]

@[simp] theorem State.noteTrip_setSlc : (s.setSlc x).noteTrip = s.noteTrip.setSlc x := by
  simp only [State.noteTrip, State.setOsc_setSlc, State.setSlc_osc, State.stamp_setSlc, State.setSlc_clock]
  split
  · rw [State.ite_setSlc]
    rfl
  · rfl

@[simp] theorem State.enterTripped_setSlc : (s.setSlc x).enterTripped = s.enterTripped.setSlc x := by simp [State.enterTripped]

@[simp] theorem State.oscTripHolds_setSlc : (s.setSlc x).oscTripHolds = s.oscTripHolds.setSlc x := by
  simp only [State.oscTripHolds, State.setSlc_osc]
  split <;> simp

@[simp] theorem State.oscTripCeases_setSlc : (s.setSlc x).oscTripCeases = s.oscTripCeases.setSlc x := by
  simp only [State.oscTripCeases, State.setSlc_osc]
  split <;> simp

@[simp] theorem State.oscSafeStopHolds_setSlc : (s.setSlc x).oscSafeStopHolds = s.oscSafeStopHolds.setSlc x := by
  simp only [State.oscSafeStopHolds, State.setSlc_osc]
  split <;> simp

/-! ## Reports and what they tell -/

@[simp] theorem State.tell_setSlc (b : Reaction) : (s.setSlc x).tell b = (s.tell b).setSlc x := by
  simp only [State.tell, State.setSlc_flm, State.setSlc_ywc, State.yawStopCause_setSlc, ← State.ite_setSlc,
    State.oscTripHolds_setSlc, State.oscSafeStopHolds_setSlc, State.oscTripCeases_setSlc]

@[simp] theorem State.report_setSlc (r : Report) : (s.setSlc x).report r = (s.report r).setSlc x := by simp [State.report]

@[simp] theorem State.reportGone_setSlc (c : FaultCode) : (s.setSlc x).reportGone c = (s.reportGone c).setSlc x := by
  simp [State.reportGone]

@[simp] theorem State.reportBitmap_setSlc (c : FaultCode) (a b : Nat) :
    (s.setSlc x).reportBitmap c a b = (s.reportBitmap c a b).setSlc x := by
  simp [State.reportBitmap]

/-! ## The parts of the owners -/

@[simp] theorem State.reportDrives_setSlc (a b : Nat) : (s.setSlc x).reportDrives a b = (s.reportDrives a b).setSlc x := by
  simp [State.reportDrives]

@[simp] theorem State.reselect_setSlc (a b : Nat) : (s.setSlc x).reselect a b = (s.reselect a b).setSlc x := by
  simp only [State.reselect, State.setSlc_ywc, State.setSlc_clock, State.setSlc_apa]
  split <;> split <;> simp

@[simp] theorem State.watchDrives_setSlc (act : Ywc → Ywc) : (s.setSlc x).watchDrives act = (s.watchDrives act).setSlc x := by
  simp only [State.watchDrives, State.setSlc_ywc, State.setYwc_setSlc, State.reportBitmap_setSlc, State.reportDrives_setSlc,
    State.reselect_setSlc, State.setSlc_apa, State.examine_setSlc, State.ite_setSlc]

@[simp] theorem State.enterRequestPower_setSlc (m : Move) :
    (s.setSlc x).enterRequestPower m = (s.enterRequestPower m).setSlc x := by
  simp [State.enterRequestPower]

@[simp] theorem State.untwist_setSlc : (s.setSlc x).untwist = s.untwist.setSlc x := by
  simp [State.untwist, State.untwistIdle, State.untwistMove]

@[simp] theorem State.yawHold_setSlc : (s.setSlc x).yawHold = s.yawHold.setSlc x := by simp [State.yawHold]

@[simp] theorem State.takeTwist_setSlc (t : Int) : (s.setSlc x).takeTwist t = (s.takeTwist t).setSlc x := by
  simp [State.takeTwist]

@[simp] theorem State.compareHardLimit_setSlc : (s.setSlc x).compareHardLimit = s.compareHardLimit.setSlc x := by
  simp [State.compareHardLimit]

@[simp] theorem State.rereadZone_setSlc (zone : Option Int) : (s.setSlc x).rereadZone zone = (s.rereadZone zone).setSlc x := by
  cases zone <;> simp [State.rereadZone]

@[simp] theorem State.resumeDuty_setSlc : (s.setSlc x).resumeDuty = s.resumeDuty.setSlc x := by
  cases h : s.clc.onDuty
  · cases hi : lowest? fun i : Fin 2 => s.clc.pumps[i].state == .standby <;>
      simp only [State.resumeDuty, State.setSlc_clc, State.setSlc_clock, State.setClc_setSlc, State.reportGone_setSlc, h, hi,
        Bool.false_eq_true, if_false]
  · simp [State.resumeDuty, h]

@[simp] theorem State.reviewCooling_setSlc : (s.setSlc x).reviewCooling = s.reviewCooling.setSlc x := by
  simp only [State.reviewCooling, State.setSlc_clc, State.setClc_setSlc, State.resumeDuty_setSlc]
  split <;> simp

@[simp] theorem State.faultReview_setSlc (zone : Option Int) : (s.setSlc x).faultReview zone = (s.faultReview zone).setSlc x := by
  simp [State.faultReview]

@[simp] theorem State.closeCleared_setSlc : (s.setSlc x).closeCleared = s.closeCleared.setSlc x := by
  simp [State.closeCleared, State.leaveSafeStop]

@[simp] theorem State.stringStop_setSlc : (s.setSlc x).stringStop = s.stringStop.setSlc x := by
  simp only [State.stringStop, State.setSlc_osc, State.setOsc_setSlc, State.enableOff_setSlc, State.enterStandby_setSlc,
    State.ite_setSlc]

end

/-! ## The owners -/

theorem ownStart_setSlc (s : State) (x : Slc) : (s.setSlc x).ownStart = { s.ownStart with after := s.ownStart.after.setSlc x } := by
  simp only [State.ownStart, State.setSlc_osc]
  split <;> simp

theorem ownStop_setSlc (s : State) (x : Slc) : (s.setSlc x).ownStop = { s.ownStop with after := s.ownStop.after.setSlc x } := by
  simp only [State.ownStop, State.setSlc_osc]
  split <;> rfl

theorem ownUntwist_setSlc (s : State) (x : Slc) :
    (s.setSlc x).ownUntwist = { s.ownUntwist with after := s.ownUntwist.after.setSlc x } := by
  have hdata : (s.setSlc x).untwistData = s.untwistData := rfl
  simp only [State.ownUntwist, State.setSlc_ywc, hdata]
  split <;> simp

theorem ownFaultReset_setSlc (zone : Option Int) (s : State) (x : Slc) :
    (s.setSlc x).ownFaultReset zone = { s.ownFaultReset zone with after := (s.ownFaultReset zone).after.setSlc x } := by
  simp [State.ownFaultReset]

/-- Every owner but that of RECORD REQUEST answers alike whoever sent the command and whatever the SLC holds, and leaves the
SLC as it is. -/
theorem commandOwner_setSlc (zone : Option Int) {code : Nat} (h7 : code ≠ 7) (arg : Nat) (target target' : BitVec 4) (s : State)
    (x : Slc) :
    commandOwner zone code arg target' (s.setSlc x) =
      { commandOwner zone code arg target s with after := (commandOwner zone code arg target s).after.setSlc x } := by
  unfold commandOwner
  split
  · exact ownStart_setSlc s x
  · exact ownStop_setSlc s x
  · simp
  · rfl
  · exact ownUntwist_setSlc s x
  · exact ownFaultReset_setSlc zone s x
  · exact absurd rfl h7
  · rfl
  · simp
  · rfl

theorem commandOwner_slc (zone : Option Int) {code : Nat} (h7 : code ≠ 7) (arg : Nat) (target : BitVec 4) (s : State) :
    (commandOwner zone code arg target s).after.slc = s.slc := by
  have h := commandOwner_setSlc zone h7 arg target target s s.slc
  exact congrArg (·.after.slc) h

end Sys2Proof.Machine
end

section
/-! SUPPORT. What YAW HOLD, FAULT RESET and STRING STOP leave, part by part (R80, R115, R119, R121, R129, R181, R186, R200). -/

namespace Sys2Proof.Machine

/-! ## The arbiter and the YWC (R115, R121) -/

section
variable (s : State)

@[simp] theorem State.tryFan_ywc : s.tryFan.ywc = s.ywc := by
  simp only [State.tryFan, State.grantFan]
  repeat' split
  all_goals rfl

@[simp] theorem State.tryFan_yawRequest : s.tryFan.apa.yawRequest = s.apa.yawRequest := by
  simp only [State.tryFan, State.grantFan]
  repeat' split
  all_goals rfl

@[simp] theorem State.takeBackFans_ywc (n : Nat) : (s.takeBackFans n).ywc = s.ywc := by
  induction n generalizing s with
  | zero => rfl
  | succ n ih =>
    simp only [State.takeBackFans]
    split <;> simp [ih]

@[simp] theorem State.takeBackFans_yawRequest (n : Nat) : (s.takeBackFans n).apa.yawRequest = s.apa.yawRequest := by
  induction n generalizing s with
  | zero => rfl
  | succ n ih =>
    simp only [State.takeBackFans]
    split <;> simp [ih]

@[simp] theorem State.shed_ywc : s.shed.ywc = s.ywc := by simp [State.shed]

@[simp] theorem State.shed_yawRequest : s.shed.apa.yawRequest = s.apa.yawRequest := by simp [State.shed]

/-- R162: with no yaw request waiting, an examination tries the fan request alone. -/
theorem tryRequests_of_none {s : State} (h : s.apa.yawRequest = none) : s.tryRequests = s.tryFan := by
  simp [State.tryRequests, State.yawPrecedes, State.tryYaw, h]

/-- R109, R121: what the return to IDLE leaves of the YWC. -/
theorem yawToIdle_ywc : ∃ retry, s.yawToIdle.ywc =
    { s.ywc.clearWindow with
      state := .idle, move := none, offsetInUse := 0, steering := false, waitDue := none, retryDue := retry } := by
  simp only [State.yawToIdle]
  split
  · exact ⟨some (s.after (ms 60000)), by simp [Ywc.clearWindow, State.after]⟩
  · exact ⟨s.ywc.retryDue, by simp [Ywc.clearWindow]⟩

@[simp] theorem State.yawToIdle_apa : s.yawToIdle.apa = s.apa := by
  simp only [State.yawToIdle]
  split <;> simp

/-- R165: with no yaw request waiting, a release of the yaw grant is nothing to the YWC. -/
theorem releaseYaw_ywc {s : State} (h : s.apa.yawRequest = none) : s.releaseYaw.ywc = s.ywc := by
  simp only [State.releaseYaw]
  split <;> rw [tryRequests_of_none (by simpa using h)] <;> simp

end

/-! ## The hold (R129) -/

section
variable (s : State)

@[simp] theorem State.grantYaw_hold (k : Nat) : (s.grantYaw k).ywc.hold = s.ywc.hold := by
  simp only [State.grantYaw, State.setYwc_ywc, Ywc.enterBrakeRelease]
  split <;> simp [Ywc.enterMoving, Ywc.selectUnder, Ywc.setDrives, Ywc.setBrake]

@[simp] theorem State.tryYaw_hold : s.tryYaw.ywc.hold = s.ywc.hold := by
  simp only [State.tryYaw]
  split <;> simp

@[simp] theorem State.tryRequests_hold : s.tryRequests.ywc.hold = s.ywc.hold := by
  simp only [State.tryRequests]
  split <;> simp

@[simp] theorem State.yawToIdle_hold : s.yawToIdle.ywc.hold = s.ywc.hold := by
  obtain ⟨retry, h⟩ := yawToIdle_ywc s
  rw [h]
  rfl

@[simp] theorem State.releaseYaw_hold : s.releaseYaw.ywc.hold = s.ywc.hold := by
  simp only [State.releaseYaw]
  split <;> simp

@[simp] theorem State.enterBrakeApply_hold : s.enterBrakeApply.ywc.hold = s.ywc.hold := by
  simp only [State.enterBrakeApply]
  split <;> simp [State.endMove, Ywc.setDrives, Ywc.setBrake]

@[simp] theorem State.yawStopCause_hold (b : Bool) : (s.yawStopCause b).ywc.hold = s.ywc.hold := by
  simp only [State.yawStopCause]
  split
  case h_1 => split <;> simp [State.withdrawYaw]
  all_goals simp

end

/-! ## YAW HOLD by the yaw state (R115, R119, R121, R129) -/

theorem yawHold_hold (s : State) : s.yawHold.ywc.hold = true := by simp [State.yawHold]

theorem yawHold_still {s : State} (h : s.ywc.state = .idle ∨ s.ywc.state = .brakeApply) :
    s.yawHold = { s with ywc := { s.ywc with hold := true } } := by
  have hstill : (s.setYwc { s.ywc with hold := true }).yawStopCause true = s.setYwc { s.ywc with hold := true } := by
    rcases h with h | h <;> simp [State.yawStopCause, h]
  exact hstill

/-- R115: a waiting request is withdrawn. -/
theorem yawHold_requestPower {s : State} (h : s.ywc.state = .requestPower) :
    s.yawHold.ywc.state = .idle ∧ s.yawHold.ywc.move = none ∧ s.yawHold.apa.yawRequest = none := by
  have hw : s.yawHold = (s.setYwc { s.ywc with hold := true }).withdrawYaw := by simp [State.yawHold, State.yawStopCause, h]
  rw [hw, State.withdrawYaw, tryRequests_of_none rfl]
  obtain ⟨retry, hy⟩ := yawToIdle_ywc (State.quietGone _ .yawWaitPower)
  exact ⟨by rw [hy], by rw [hy], by simp⟩

/-- R119, R121: the outputs go off, and the brake decides between BRAKE_APPLY and IDLE. -/
theorem enterBrakeApply_ywc {s : State} (h : s.apa.yawRequest = none) :
    s.enterBrakeApply.ywc.releaseOut = false ∧ s.enterBrakeApply.ywc.enables = Vector.replicate 6 false ∧
      s.enterBrakeApply.ywc.state = if s.ywc.brakeIn then .brakeApply else .idle := by
  let y := Ywc.setBrake s.clock
    (Ywc.setDrives s.clock { s.ywc with state := .brakeApply } (Vector.replicate 6 false) s.ywc.running) false s.ywc.brakeIn
  have happly : s.enterBrakeApply = if s.ywc.brakeIn then s.setYwc y else (s.setYwc y).endMove := rfl
  rw [happly]
  by_cases hb : s.ywc.brakeIn = true
  · rw [if_pos hb, if_pos hb]
    exact ⟨rfl, rfl, rfl⟩
  · obtain ⟨retry, hy⟩ := yawToIdle_ywc (s.setYwc y).releaseYaw
    rw [if_neg hb, if_neg hb, State.endMove, hy, releaseYaw_ywc (s := s.setYwc y) h]
    exact ⟨rfl, rfl, rfl⟩

theorem yawHold_turning {s : State} (h : s.ywc.state = .brakeRelease ∨ s.ywc.state = .moving) (hr : s.apa.yawRequest = none) :
    s.yawHold.ywc.releaseOut = false ∧ s.yawHold.ywc.enables = Vector.replicate 6 false ∧
      s.yawHold.ywc.state = if s.ywc.brakeIn then .brakeApply else .idle := by
  have hb : s.yawHold = (s.setYwc { s.ywc with hold := true }).enterBrakeApply := by
    rcases h with h | h <;> simp [State.yawHold, State.yawStopCause, h]
  rw [hb]
  exact enterBrakeApply_ywc (s := s.setYwc _) hr

/-- R115: a request waits only in REQUEST_POWER. -/
theorem yawRequest_of_turning {s : State} (hs : s.yawSound) (h : s.ywc.state = .brakeRelease ∨ s.ywc.state = .moving) :
    s.apa.yawRequest = none := by
  obtain ⟨-, -, -, -, -, hreq, -⟩ := hs
  have hstate : (s.ywc.state == .requestPower) = false := by rcases h with h | h <;> rw [h] <;> rfl
  exact Option.not_isSome_iff_eq_none.mp (Bool.eq_false_iff.mp (hreq.trans hstate))

/-! ## UNTWIST that makes no move (R130) -/

theorem ownUntwist_busy {s : State} (h : s.ywc.state ≠ .idle) : s.ownUntwist = ⟨.refusedState, 0, s⟩ := by
  unfold State.ownUntwist
  split
  case h_1 hidle => exact absurd hidle h
  all_goals rfl

theorem ownUntwist_unloaded {s : State} (h : s.osc.state.isUnloaded = true) : s.ownUntwist.after = s := by
  by_cases hidle : s.ywc.state = .idle
  · rw [State.ownUntwist, hidle]
    exact if_pos (by simp [State.untwistIdle, h])
  · rw [ownUntwist_busy hidle]

/-! ## FAULT RESET (R181, R186, R207) -/

theorem any_of_any_filter {α : Type} {p q : α → Bool} {l : List α} (h : (l.filter p).any q = true) : l.any q = true := by
  obtain ⟨a, ha, hq⟩ := List.any_eq_true.mp h
  exact List.any_eq_true.mpr ⟨a, (List.mem_filter.mp ha).1, hq⟩

/-- The parts of one reaction that another has too. -/
structure Reaction.Within (a b : Reaction) : Prop where
  trip : a.trip = true → b.trip = true
  yawStop : a.yawStop = true → b.yawStop = true
  untwistYawStop : a.untwistYawStop = true → b.untwistYawStop = true
  safeStop : a.safeStop = true → b.safeStop = true

theorem faultReset_within (f : Flm) (now : Stamp) : (f.faultReset now).reaction.Within f.reaction :=
  ⟨any_of_any_filter, any_of_any_filter, any_of_any_filter, any_of_any_filter⟩

theorem and_not_of_imp {a b : Bool} (h : a = true → b = true) : (a && !b) = false := by
  cases a
  · rfl
  · rw [h rfl]
    rfl

/-- R181: where no part of the reaction comes to hold, only the end of trip is told. -/
theorem tell_of_within {s : State} {before : Reaction} (h : s.flm.reaction.Within before) :
    s.tell before = if before.trip && !s.flm.reaction.trip then s.oscTripCeases else s := by
  have hstop : yawStopArises before s.flm.reaction s.ywc.move = false := by
    rw [yawStopArises, and_not_of_imp h.yawStop, and_not_of_imp h.untwistYawStop, ite_self]
  simp only [State.tell, hstop, and_not_of_imp h.trip, and_not_of_imp h.safeStop, Bool.false_eq_true, if_false]

theorem testStart_setOsc (s : State) : s.testStart = s.setOsc s.testStart.osc := by
  simp only [State.testStart]
  split <;> rfl

theorem oscTripCeases_setOsc (s : State) : s.oscTripCeases = s.setOsc s.oscTripCeases.osc := by
  unfold State.oscTripCeases
  split
  case h_1 => rfl
  case h_2 => exact testStart_setOsc s
  all_goals rfl

theorem leaveSafeStop_setOsc (s : State) : s.leaveSafeStop = s.setOsc s.leaveSafeStop.osc := by
  simp only [State.leaveSafeStop]
  split
  · exact congrArg (State.setOsc · _) rfl |>.trans (testStart_setOsc _)
  · rfl

/-- R186: the records are closed in the FLM, and only the OSC moves by it. -/
theorem closeCleared_eq (s : State) :
    s.closeCleared = { s with flm := s.flm.faultReset s.stamp, osc := s.closeCleared.osc } := by
  have htell : ∀ t : State, t.flm.reaction.Within s.flm.reaction → ∃ o, t.tell s.flm.reaction = t.setOsc o := fun t ht => by
    rw [tell_of_within ht]
    split
    · exact ⟨_, oscTripCeases_setOsc t⟩
    · exact ⟨t.osc, rfl⟩
  obtain ⟨o, ho⟩ := htell (s.setFlm (s.flm.faultReset s.stamp)) (faultReset_within s.flm s.stamp)
  rw [State.closeCleared, ho, leaveSafeStop_setOsc]
  rfl

/-- R186, R207: what FAULT RESET moves after the reviews. -/
theorem closeCleared_parts (s : State) :
    let closing := fun r : Record => r.state == .openCleared && r.code != .configInvalid
    s.closeCleared = { s with flm := s.closeCleared.flm, osc := s.closeCleared.osc } ∧
      s.closeCleared.flm.opens = s.flm.opens.filter (fun r => !closing r) ∧
      s.closeCleared.flm.history.length = s.flm.history.length + (s.flm.opens.filter closing).length ∧
      s.closeCleared.flm.reclaimedUnsent = false := by
  intro closing
  have hclosing : closing = Record.resettable := rfl
  have hflm : s.closeCleared.flm = s.flm.faultReset s.stamp := by rw [closeCleared_eq]
  rw [hflm, hclosing]
  exact ⟨closeCleared_eq s, rfl, by simp [Flm.faultReset], rfl⟩

/-! ## STRING STOP (R80, R200) -/

theorem enableOff_osc (s : State) : s.enableOff.osc = { s.osc with enable := false } := by
  simp only [State.enableOff]
  split
  next => rfl
  next h => rw [← Bool.eq_false_iff.mpr h]

theorem enableOff_scu {s : State} (h : s.osc.enable = true) : s.enableOff.scu = { s.scu with eLim := 0, enable := false } := by
  rw [State.enableOff, if_pos h]
  rfl

/-- R201: STANDBY is not left without the run command. -/
theorem enterStandby_of_stopped {s : State} (h : s.osc.runCommand = false) :
    s.enterStandby = s.setOsc { s.osc with state := .standby, startDue := none, stopDue := none, restartDue := none } := by
  refine if_neg fun hstart => ?_
  have hrun : s.osc.runCommand = true := hstart.2.1
  exact absurd (h.symm.trans hrun) Bool.false_ne_true

theorem stringStop_producing {s : State} (h : s.osc.state.isProducing = true) :
    s.stringStop.osc = { s.osc with
        runCommand := false, stringStopSeen := true, enable := false, state := .standby, startDue := none, stopDue := none
        restartDue := none } ∧
      (s.osc.enable = true → s.stringStop.scu.eLim = 0 ∧ s.stringStop.scu.enable = false) := by
  let stopped := s.setOsc { s.osc with runCommand := false, stringStopSeen := true }
  have hrun : stopped.enableOff.osc.runCommand = false := by rw [enableOff_osc]; rfl
  have heq : s.stringStop = stopped.enableOff.enterStandby := if_pos h
  rw [heq, enterStandby_of_stopped hrun]
  refine ⟨?_, fun he => ?_⟩
  · rw [State.setOsc_osc, enableOff_osc]
    rfl
  · rw [State.setOsc_scu, enableOff_scu (s := stopped) he]
    exact ⟨rfl, rfl⟩

theorem stringStop_idle {s : State} (h : ¬ s.osc.state.isProducing = true) :
    s.stringStop = { s with osc := { s.osc with runCommand := false, stringStopSeen := true } } := if_neg h

end Sys2Proof.Machine
end

section
/-! SUPPORT. A broadcast command: where it is turned away, what each code leaves, and that it leaves what the same command,
targeted at the own station, leaves (R38, R41, R43). -/

namespace Sys2Proof.Machine

/-! ## The count of a command (R56) -/

theorem ywc_counted (s : State) (n : Nat) : (s.counted n).ywc = s.ywc := by
  simp only [State.counted]
  split <;> rfl

theorem apa_counted (s : State) (n : Nat) : (s.counted n).apa = s.apa := by
  simp only [State.counted]
  split <;> rfl

theorem counted_setSlc (s : State) (x : Slc) (n : Nat) : (s.setSlc x).counted n = (s.counted n).setSlc x := by
  rw [State.counted, State.counted, State.ite_setSlc]
  rfl

theorem yawSound_of_parts {s t : State} (hy : t.ywc = s.ywc) (ha : t.apa = s.apa) (ho : t.osc = s.osc) (h : s.yawSound) :
    t.yawSound := by
  simpa only [State.yawSound, hy, ha, ho] using h

/-! ## Turned away (R41, R43) -/

theorem broadcast_notPermitted (s : State) {h : Header} (owner : BitVec 4 → State → Answer) (hp : h.permitted = false) :
    s.broadcast h owner = s.withError 7 := by
  rw [State.broadcast, hp]
  rfl

theorem broadcast_bad {s : State} {h : Header} (owner : BitVec 4 → State → Answer) (hp : h.permitted = true)
    (hb : (s.badCommand h.commandCode h.argument).isSome = true) : s.broadcast h owner = s := by
  obtain ⟨r, hr⟩ := Option.isSome_iff_exists.mp hb
  rw [State.broadcast, hp, argumentFault?_eq_badCommand, hr]
  rfl

theorem broadcast_busy {s : State} {h : Header} {owner : BitVec 4 → State → Answer} (hp : h.permitted = true)
    (hb : s.badCommand h.commandCode h.argument = none) (ho : (owner 15 s).result = .busy) :
    s.broadcast h owner = s.withError 6 := by
  simp only [State.broadcast, hp, argumentFault?_eq_badCommand, hb, ho]
  rfl

/-- An owner carries a command out, or refuses it and leaves the state as it is. -/
def Answer.CarriedOut (s : State) (a : Answer) : Prop := a.result = .accepted ∨ (a.result = .refusedState ∧ a.after = s)

theorem broadcast_carriedOut {s : State} {h : Header} {owner : BitVec 4 → State → Answer} (hp : h.permitted = true)
    (hb : s.badCommand h.commandCode h.argument = none) (ho : (owner 15 s).CarriedOut s) :
    s.broadcast h owner = (owner 15 s).after := by
  rcases ho with ho | ⟨ho, hs⟩
  · simp only [State.broadcast, hp, argumentFault?_eq_badCommand, hb, ho]
    rfl
  · simp only [State.broadcast, hp, argumentFault?_eq_badCommand, hb, ho, hs]
    rfl

/-! ## The owners' answers -/

theorem ownStart_carriedOut (s : State) : s.ownStart.CarriedOut s := by
  unfold State.ownStart
  split
  case h_1 => exact .inl rfl
  all_goals exact .inr ⟨rfl, rfl⟩

theorem ownStop_carriedOut (s : State) : s.ownStop.CarriedOut s := by
  rw [ownStop_eq]
  split
  · exact .inl rfl
  · exact .inr ⟨rfl, rfl⟩

theorem ownUntwist_carriedOut (s : State) : s.ownUntwist.CarriedOut s := by
  by_cases h : s.ywc.state = .idle
  · exact .inl (by rw [State.ownUntwist, h])
  · exact .inr (by rw [ownUntwist_busy h]; exact ⟨rfl, rfl⟩)

theorem badCommand_none_range {s : State} {code arg : Nat} (h : s.badCommand code arg = none) : 1 ≤ code ∧ code ≤ 9 := by
  by_contra hrange
  rw [State.badCommand, if_pos hrange] at h
  cases h

theorem commandOwner_carriedOut (zone : Option Int) {s : State} {code arg : Nat} (target : BitVec 4)
    (hb : s.badCommand code arg = none) (h7 : code ≠ 7) : (commandOwner zone code arg target s).CarriedOut s := by
  obtain ⟨hlow, hhigh⟩ := badCommand_none_range hb
  interval_cases code
  · exact ownStart_carriedOut s
  · exact ownStop_carriedOut s
  · exact .inl rfl
  · exact .inl rfl
  · exact ownUntwist_carriedOut s
  · exact .inl rfl
  · exact absurd rfl h7
  · exact .inl rfl
  · exact .inl rfl

theorem recordAt?_of_badCommand_none {s : State} {arg : Nat} (hb : s.badCommand 7 arg = none) :
    ∃ r, s.flm.recordAt? arg = some r := by
  refine Option.ne_none_iff_exists'.mp fun hnone => ?_
  have hunused := (recordAt?_eq_none s.flm arg).mp hnone
  rw [State.badCommand, if_neg (by decide), if_neg (by omega), if_pos ⟨rfl, hunused⟩] at hb
  cases hb

/-- R38, R43: the copy a broadcast RECORD REQUEST takes where the RECORD slot is empty. -/
theorem ownRecordRequest_free {s : State} {slot : Nat} {r : Record} (target : BitVec 4) (hr : s.flm.recordAt? slot = some r)
    (hfree : s.slc.recordSlot.isSome ≠ true) :
    s.ownRecordRequest target slot = ⟨.accepted, 0, { s with slc := { s.slc with
      recordSlot := some { content := { target := target, payload := r.copy }, loss := 0, echo := 0 } } }⟩ := by
  rw [ownRecordRequest_eq target hr, if_neg hfree]

/-! ## The same command, targeted -/

/-- R39: what the command does that is targeted at the own station, with the REPLY slot empty. -/
theorem exec_own {s : State} {heard own : List BitTime} {h : Header} {corrected : Bool} (zone : Option Int)
    (hh : s.hears heard h corrected) (hk : h.kind = 2) (hl : heard.length = 40) (hp : h.permitted = true)
    (hb : ((s.afterFrame heard corrected).counted h.sender.toNat).badCommand h.commandCode h.argument = none)
    (hv : s.osc.validStation = true) (hlen : own.length = 40) (hw : heardWellFormed own = true)
    (hcl : classify (heardBits own) = .known { h with target := BitVec.ofNat 4 s.osc.station } corrected) :
    let u := (s.afterFrame heard corrected).counted h.sender.toNat
    exec (commandRow own zone h.commandCode) { s with slc := { s.slc with replySlot := none } } =
      .next ((commandOwner zone h.commandCode h.argument h.sender (u.setSlc { u.slc with replySlot := none })).reply h) := by
  intro u
  obtain ⟨hline, hsending, -, -, hown, hforeign⟩ := hh
  have hears : ({ s with slc := { s.slc with replySlot := none } } : State).hears own
      { h with target := BitVec.ofNat 4 s.osc.station } corrected := ⟨hline, hsending, hw, hcl, hown, hforeign⟩
  have hstation : (BitVec.ofNat 4 s.osc.station).toNat = s.osc.station := by
    have hrange : 1 ≤ s.osc.station ∧ s.osc.station ≤ 12 := by simpa [Osc.validStation] using hv
    exact Nat.mod_eq_of_lt (by omega)
  have hafter : (({ s with slc := { s.slc with replySlot := none } } : State).afterFrame own corrected).counted h.sender.toNat =
      u.setSlc { u.slc with replySlot := none } := by
    have hline : ({ s with slc := { s.slc with replySlot := none } } : State).afterFrame own corrected =
        (s.afterFrame heard corrected).setSlc { (s.afterFrame heard corrected).slc with replySlot := none } := by
      rw [State.afterFrame, State.afterFrame, hlen, hl]
      rfl
    rw [hline, counted_setSlc, slc_counted]
  have hexec := exec_targeted zone hears hk hlen hv hstation
  refine hexec.trans (congrArg Host.Outcome.next ?_)
  rw [hafter]
  exact targeted_carriedOut _ rfl hp hb

end Sys2Proof.Machine
end

section
/-! SUPPORT. The statement about broadcast commands, put together from its parts (R38, R43, R129, R130, R186, R200). -/

namespace Sys2Proof.Machine

/-- R38, R43: an owner that carries a command out leaves the SLC as it is, but for the copy in the RECORD slot. -/
theorem commandOwner_link (zone : Option Int) {s : State} {code arg : Nat} (hb : s.badCommand code arg = none)
    (hfree : ¬ (code = 7 ∧ s.slc.recordSlot.isSome = true)) :
    (commandOwner zone code arg 15 s).CarriedOut s ∧
      (commandOwner zone code arg 15 s).after.slc.replySlot = s.slc.replySlot ∧
      (commandOwner zone code arg 15 s).after.slc.errors = s.slc.errors := by
  by_cases h7 : code = 7
  · subst h7
    obtain ⟨r, hr⟩ := recordAt?_of_badCommand_none hb
    have howner : commandOwner zone 7 arg 15 s = _ := ownRecordRequest_free 15 hr fun hfull => hfree ⟨rfl, hfull⟩
    rw [howner]
    exact ⟨.inl rfl, rfl, rfl⟩
  · rw [commandOwner_slc zone h7]
    exact ⟨commandOwner_carriedOut zone 15 hb h7, rfl, rfl⟩

/-- R43: the state after a broadcast is that after the targeted command, but for the REPLY slot and the copy's address. -/
theorem commandOwner_like_targeted (zone : Option Int) {s : State} {h : Header} {code arg : Nat}
    (hb : s.badCommand code arg = none) (hfree : ¬ (code = 7 ∧ s.slc.recordSlot.isSome = true)) :
    let t := (commandOwner zone code arg 15 s).after
    let x := (commandOwner zone code arg h.sender (s.setSlc { s.slc with replySlot := none })).reply h
    t = { x with slc := { x.slc with
      replySlot := s.slc.replySlot, recordSlot := if code = 7 then t.slc.recordSlot else x.slc.recordSlot } } := by
  by_cases h7 : code = 7
  · subst h7
    obtain ⟨r, hr⟩ := recordAt?_of_badCommand_none hb
    have hempty : s.slc.recordSlot.isSome ≠ true := fun hfull => hfree ⟨rfl, hfull⟩
    have hbroadcast : commandOwner zone 7 arg 15 s = _ := ownRecordRequest_free 15 hr hempty
    have htargeted : commandOwner zone 7 arg h.sender (s.setSlc { s.slc with replySlot := none }) = _ :=
      ownRecordRequest_free (s := s.setSlc _) h.sender hr hempty
    rw [hbroadcast, htargeted]
    rfl
  · have hslc := commandOwner_slc zone h7 arg 15 s
    intro t x
    have hx : x = (t.setSlc { s.slc with replySlot := none }).answered h _ _ :=
      congrArg (Answer.reply h) (commandOwner_setSlc zone h7 arg 15 h.sender s _)
    rw [if_neg h7, hx]
    exact congrArg t.setSlc hslc

/-- Settles O21: by the answer of the command's owner. -/
theorem broadcastIsNotAnswered : Obligations.BroadcastIsNotAnswered := by
  intro heard h corrected zone s hh hk hl ht u
  have hexec : exec (commandRow heard zone h.commandCode) s = .next (u.broadcast h _) := exec_broadcasted hh hk hl ht
  have hywc : u.ywc = s.ywc := ywc_counted _ _
  have hapa : u.apa = s.apa := apa_counted _ _
  have hosc : u.osc = s.osc := osc_counted _ _
  have hslc : u.slc = (s.afterFrame heard corrected).slc := slc_counted _ _
  have hrecord : u.slc.recordSlot = s.slc.recordSlot := by rw [hslc]; rfl
  have hreply : u.slc.replySlot = s.slc.replySlot := by rw [hslc]; rfl
  rw [hexec]
  split
  next hs => rw [broadcast_notPermitted u _ (permitted_eq_false hs.1 hs.2)]
  next hs =>
  have hp : h.permitted = true := (permitted_iff h).mpr (by tauto)
  split
  next hb => rw [broadcast_bad _ hp hb]
  next hb =>
  have hnone : u.badCommand h.commandCode h.argument = none := Option.not_isSome_iff_eq_none.mp hb
  split
  next hfull =>
    obtain ⟨h7, hsome⟩ := hfull
    have hbusy : (commandOwner zone h.commandCode h.argument 15 u).result = .busy := by
      rw [h7]
      exact congrArg Answer.result (if_pos (hrecord ▸ hsome))
    rw [broadcast_busy hp hnone hbusy]
  next hfree =>
  rw [← hrecord] at hfree
  obtain ⟨hcarried, hreplySlot, herrors⟩ := commandOwner_link zone hnone hfree
  refine ⟨_, congrArg _ (broadcast_carriedOut hp hnone hcarried), hreplySlot.trans hreply, herrors, fun hcode => ?_,
    fun hcode => ?_, fun hcode => ?_, fun hcode => ?_, fun hcode => ?_, fun hcode => ?_, fun hcode hstay => ?_, fun hcode => ?_,
    fun hcode => ?_, fun own x hv hlen hw hcl hx => ?_⟩
  case refine_1 =>
    rw [hcode] at hnone hfree ⊢
    obtain ⟨r, hr⟩ := recordAt?_of_badCommand_none hnone
    exact ⟨r, hr, congrArg Answer.after (ownRecordRequest_free 15 hr fun hfull => hfree ⟨rfl, hfull⟩)⟩
  case refine_2 =>
    rw [hcode]
    rfl
  case refine_3 =>
    rw [hcode]
    simp only [commandOwner, ownStart_eq, apply_ite Answer.after]
  case refine_4 =>
    rw [hcode]
    simp only [commandOwner, ownStop_eq, apply_ite Answer.after]
  case refine_5 =>
    rw [hcode, ← hywc]
    refine ⟨yawHold_hold u, yawHold_still, yawHold_requestPower, fun hturning hsound => ?_⟩
    exact yawHold_turning hturning (yawRequest_of_turning (yawSound_of_parts hywc hapa hosc hsound) hturning)
  case refine_6 =>
    rw [hcode]
    rfl
  case refine_7 =>
    rw [hcode]
    rcases hstay with hbusy | hunloaded
    · exact congrArg Answer.after (ownUntwist_busy (hywc ▸ hbusy))
    · exact ownUntwist_unloaded (hosc ▸ hunloaded)
  case refine_8 =>
    rw [hcode]
    have hafter : (commandOwner zone 6 h.argument 15 u).after = (u.faultReview zone).closeCleared := by
      simp only [commandOwner, State.ownFaultReset]
    rw [hafter]
    exact closeCleared_parts (u.faultReview zone)
  case refine_9 =>
    rw [hcode]
    by_cases hproducing : u.osc.state.isProducing = true
    · obtain ⟨hstopped, hlimit⟩ := stringStop_producing hproducing
      rw [if_pos hproducing]
      exact ⟨congrArg Osc.runCommand hstopped, congrArg Osc.stringStopSeen hstopped, congrArg Osc.state hstopped,
        congrArg Osc.enable hstopped, hlimit⟩
    · have hstopped : (commandOwner zone 9 h.argument 15 u).after = _ := stringStop_idle hproducing
      rw [if_neg hproducing, hstopped]
      exact ⟨rfl, rfl, rfl⟩
  case refine_10 =>
    have hx' := (exec_own zone hh hk hl hp hnone hv hlen hw hcl).symm.trans hx
    rw [← Host.Outcome.next.inj hx', ← hreply]
    exact commandOwner_like_targeted zone hnone hfree

end Sys2Proof.Machine
end

section
/-! SUPPORT. What the reset leaves, and that it is sound (R45, R61, R188). -/

namespace Sys2Proof.Machine

/-- R45, R61: no slot of the remap is used after a reset. -/
theorem reset_slots (j : Fin 12) : State.reset.ptb.slots[j] = none := by
  simp [State.reset, ptbAfterReset]

theorem reset_configSound : State.reset.configSound := by
  refine ⟨rfl, rfl, fun hloaded => absurd hloaded (by decide), fun j d hd => ?_, fun i j d e hi => ?_, by decide⟩
  · rw [reset_slots] at hd; cases hd
  · rw [reset_slots] at hi; cases hi

/-- Settles O56: each predicate is read off the values of the reset. -/
theorem resetIsSound : Obligations.ResetIsSound := by
  refine ⟨?_, ?_, ?_, ?_, ?_, ?_, ?_, ?_, reset_configSound⟩
  case refine_1 => unfold State.modesSound; decide
  case refine_2 => unfold State.limitsSound; decide
  case refine_3 => unfold State.rideThroughSound; decide
  case refine_4 => unfold State.yawSound; decide
  case refine_5 => unfold State.powerSound; decide
  case refine_6 => unfold Flm.sound; decide
  case refine_7 => unfold State.twistSound; decide
  case refine_8 => unfold State.linkSound; decide

end Sys2Proof.Machine
end

section
/-! SUPPORT. The split of the capacity among the participants of the share, and who they are (R54, R68 to R73). -/

namespace Sys2Proof.Machine

/-! ## Shares by station -/

/-- Among entries of distinct stations, a station's entry is the one found. -/
theorem find?_of_nodup_fst {l : List (Nat × Nat)} (hl : (l.map Prod.fst).Nodup) {q : Nat × Nat} (hq : q ∈ l) :
    l.find? (·.1 == q.1) = some q := by
  obtain ⟨as, bs, rfl⟩ := List.mem_iff_append.mp hq
  refine List.find?_eq_some_iff_append.mpr ⟨by simp, as, bs, rfl, fun a ha => ?_⟩
  have hne : a.1 ≠ q.1 := by
    rw [List.map_append, List.nodup_append] at hl
    exact hl.2.2 _ (List.mem_map_of_mem ha) _ (by simp)
  simpa using hne

/-! ## Floor shares (R72) -/

section
variable {avail total : Nat}

/-- R72: in shortage a floor share is below every demand but none. -/
theorem floorShare_lt_iff (h : avail < total) (d : Nat) : floorShare avail total d < d ↔ 0 < d := by
  constructor
  · exact Nat.zero_lt_of_lt
  · intro hd
    exact Nat.div_lt_of_lt_mul (by rw [Nat.mul_comm total d]; exact Nat.mul_lt_mul_of_pos_left h hd)

theorem floorShare_le (h : avail < total) (d : Nat) : floorShare avail total d ≤ d := by
  rcases Nat.eq_zero_or_pos d with rfl | hd
  · simp [floorShare]
  · exact ((floorShare_lt_iff h d).mpr hd).le

/-- R73: the participants whose floor share is below their demand. -/
def shortCount (avail total : Nat) (ps : List (Nat × Nat)) : Nat :=
  ps.countP fun p => decide (floorShare avail total p.2 < p.2)

/-- R72: the sum of the floor shares. -/
def floorSum (avail total : Nat) (ps : List (Nat × Nat)) : Nat := (ps.map fun p => floorShare avail total p.2).sum

theorem shortCount_cons (p : Nat × Nat) (ps : List (Nat × Nat)) :
    shortCount avail total (p :: ps) = shortCount avail total ps + if floorShare avail total p.2 < p.2 then 1 else 0 := by
  simp [shortCount, List.countP_cons]

theorem floorSum_cons (p : Nat × Nat) (ps : List (Nat × Nat)) :
    floorSum avail total (p :: ps) = floorShare avail total p.2 + floorSum avail total ps := by simp [floorSum]

theorem totalDemand_cons (p : Nat × Nat) (ps : List (Nat × Nat)) : totalDemand (p :: ps) = p.2 + totalDemand ps := by
  simp [totalDemand]

theorem floorSum_mul_le (ps : List (Nat × Nat)) : floorSum avail total ps * total ≤ totalDemand ps * avail := by
  induction ps with
  | nil => simp [floorSum]
  | cons p ps ih =>
    rw [floorSum_cons, totalDemand_cons, Nat.add_mul, Nat.add_mul]
    exact Nat.add_le_add (Nat.div_mul_le_self _ _) ih

/-- R73: what flooring takes off a demand is less than one kilowatt. -/
theorem mul_le_floorSum_add (h : avail < total) (ps : List (Nat × Nat)) :
    totalDemand ps * avail ≤ (floorSum avail total ps + shortCount avail total ps) * total := by
  induction ps with
  | nil => simp [totalDemand]
  | cons p ps ih =>
    have hp : p.2 * avail ≤ (floorShare avail total p.2 + if floorShare avail total p.2 < p.2 then 1 else 0) * total := by
      simp only [floorShare_lt_iff h]
      split
      · rw [floorShare, Nat.mul_comm _ total]
        exact (Nat.lt_mul_div_succ _ (Nat.zero_lt_of_lt h)).le
      · next hd => simp [Nat.eq_zero_of_not_pos hd]
    rw [floorSum_cons, totalDemand_cons, shortCount_cons, Nat.add_mul]
    calc p.2 * avail + totalDemand ps * avail ≤ _ + _ := Nat.add_le_add hp ih
      _ = _ := by rw [← Nat.add_mul]; congr 1; omega

end

/-- R72, R73: the kilowatts left over by the floor shares are no more than the participants that can take one. -/
theorem floorSum_range {avail : Nat} {ps : List (Nat × Nat)} (h : avail < totalDemand ps) :
    floorSum avail (totalDemand ps) ps ≤ avail ∧
      avail ≤ floorSum avail (totalDemand ps) ps + shortCount avail (totalDemand ps) ps := by
  have hpos : 0 < totalDemand ps := Nat.zero_lt_of_lt h
  have hlow := floorSum_mul_le (avail := avail) (total := totalDemand ps) ps
  have hhigh := mul_le_floorSum_add h ps
  rw [Nat.mul_comm (totalDemand ps)] at hlow hhigh
  exact ⟨Nat.le_of_mul_le_mul_right hlow hpos, Nat.le_of_mul_le_mul_right hhigh hpos⟩

/-! ## Placing the extra kilowatts (R73) -/

section
variable (avail total : Nat)

theorem placeExtra_cons (extra : Nat) (p : Nat × Nat) (ps : List (Nat × Nat)) :
    placeExtra avail total extra (p :: ps) =
      (p.1, floorShare avail total p.2 + if 0 < extra ∧ floorShare avail total p.2 < p.2 then 1 else 0) ::
        placeExtra avail total (extra - if floorShare avail total p.2 < p.2 then 1 else 0) ps := by
  obtain ⟨n, d⟩ := p
  simp only [placeExtra]
  by_cases hf : floorShare avail total d < d
  · rcases Nat.eq_zero_or_pos extra with rfl | he
    · simp
    · simp [hf, he]
  · simp [hf]

theorem placeExtra_append (extra : Nat) (as bs : List (Nat × Nat)) :
    placeExtra avail total extra (as ++ bs) =
      placeExtra avail total extra as ++ placeExtra avail total (extra - shortCount avail total as) bs := by
  induction as generalizing extra with
  | nil => rfl
  | cons p as ih =>
    rw [List.cons_append, placeExtra_cons, placeExtra_cons, ih, List.cons_append, shortCount_cons, Nat.sub_sub,
      Nat.add_comm (shortCount _ _ _)]

theorem placeExtra_fst (extra : Nat) (ps : List (Nat × Nat)) :
    (placeExtra avail total extra ps).map Prod.fst = ps.map Prod.fst := by
  induction ps generalizing extra with
  | nil => rfl
  | cons p ps ih => rw [placeExtra_cons, List.map_cons, ih, List.map_cons]

/-- R73: all the extra kilowatts are placed where there are enough participants to take them. -/
theorem placeExtra_sum {extra : Nat} {ps : List (Nat × Nat)} (h : extra ≤ shortCount avail total ps) :
    ((placeExtra avail total extra ps).map Prod.snd).sum = floorSum avail total ps + extra := by
  induction ps generalizing extra with
  | nil =>
    have : extra = 0 := Nat.le_zero.mp h
    simp [placeExtra, floorSum, this]
  | cons p ps ih =>
    rw [shortCount_cons] at h
    rw [placeExtra_cons, List.map_cons, List.sum_cons, floorSum_cons]
    split at h
    · next hf => rw [ih (by rw [if_pos hf]; omega)]; simp only [hf, and_true, if_true]; split <;> omega
    · next hf => rw [ih (by rw [if_neg hf]; omega)]; simp only [hf, and_false, if_false]; omega

end

/-! ## The split in shortage (R70, R72, R73) -/

section
variable {avail : Nat} {ps : List (Nat × Nat)} (hps : (ps.map Prod.fst).Nodup) (hshort : avail < totalDemand ps)

/-- R73: the kilowatts the floor shares leave over. -/
def leftOver (avail : Nat) (ps : List (Nat × Nat)) : Nat := avail - floorSum avail (totalDemand ps) ps

theorem shortageShares_eq (avail : Nat) (ps : List (Nat × Nat)) :
    shortageShares avail ps = placeExtra avail (totalDemand ps) (leftOver avail ps) ps := rfl

include hshort in
theorem rawShare_shortage (own dOwn reserve : Nat) :
    rawShare false own dOwn reserve avail ps = (((shortageShares avail ps).find? (·.1 == own)).map Prod.snd).getD 0 := by
  simp [rawShare, Nat.not_le.mpr hshort]

include hps hshort in
/-- R72, R73: a station in the split has the share placed for it. -/
theorem rawShare_of_mem {q : Nat × Nat} (hq : q ∈ shortageShares avail ps) (dOwn reserve : Nat) :
    rawShare false q.1 dOwn reserve avail ps = q.2 := by
  have hnodup : ((shortageShares avail ps).map Prod.fst).Nodup := by rwa [shortageShares_eq, placeExtra_fst]
  rw [rawShare_shortage hshort, find?_of_nodup_fst hnodup hq]
  rfl

include hps hshort in
/-- R72, R73: the share of a participant, by what those before it leave of the extra kilowatts. -/
theorem rawShare_at {as bs : List (Nat × Nat)} {p : Nat × Nat} (h : ps = as ++ p :: bs) (reserve : Nat) :
    rawShare false p.1 p.2 reserve avail ps = floorShare avail (totalDemand ps) p.2 +
      if shortCount avail (totalDemand ps) as < leftOver avail ps ∧ floorShare avail (totalDemand ps) p.2 < p.2 then 1
      else 0 := by
  refine rawShare_of_mem hps hshort
    (q := (p.1, floorShare avail (totalDemand ps) p.2 +
      if shortCount avail (totalDemand ps) as < leftOver avail ps ∧ floorShare avail (totalDemand ps) p.2 < p.2 then 1
      else 0)) ?_ _ _
  have hplaced : shortageShares avail ps = _ :=
    (congrArg (placeExtra avail (totalDemand ps) (leftOver avail ps)) h).trans (placeExtra_append _ _ _ as (p :: bs))
  rw [hplaced, placeExtra_cons]
  simp only [Nat.sub_pos_iff_lt]
  exact List.mem_append_right _ List.mem_cons_self

include hps hshort in
/-- R73: the shares add up to the capacity. -/
theorem rawShare_sum (reserve : Nat) : (ps.map fun p => rawShare false p.1 p.2 reserve avail ps).sum = avail := by
  have hmap : (ps.map fun p => rawShare false p.1 p.2 reserve avail ps) = (shortageShares avail ps).map Prod.snd := by
    let found := fun n => (((shortageShares avail ps).find? (·.1 == n)).map Prod.snd).getD 0
    calc (ps.map fun p => rawShare false p.1 p.2 reserve avail ps)
        = (ps.map Prod.fst).map found := by
          rw [List.map_map]; exact List.map_congr_left fun p _ => rawShare_shortage hshort _ _ _
      _ = (shortageShares avail ps).map (found ∘ Prod.fst) := by rw [← List.map_map, shortageShares_eq, placeExtra_fst]
      _ = (shortageShares avail ps).map Prod.snd := List.map_congr_left fun q hq =>
          (rawShare_shortage hshort q.1 0 0).symm.trans (rawShare_of_mem hps hshort hq 0 0)
  obtain ⟨hlow, hhigh⟩ := floorSum_range hshort
  rw [hmap, shortageShares_eq, placeExtra_sum _ _ (by unfold leftOver; omega), leftOver]
  omega

end

/-! ## The participants (R68) -/

/-- R45: the slot of a station, where no two slots name one station. -/
theorem slotOf?_iff {p : Ptb} (hone : ∀ (i j : Fin 12) (d e : Descriptor),
      p.slots[i] = some d → p.slots[j] = some e → d.station = e.station → i = j) (n : Nat) (j : Fin 12) :
    p.slotOf? n = some j ↔ ∃ d, p.slots[j] = some d ∧ d.station = n := by
  have hfound (i : Fin 12) : ((p.slots[i].map (·.station)) == some n) = true ↔ ∃ d, p.slots[i] = some d ∧ d.station = n := by
    rw [beq_iff_eq, Option.map_eq_some_iff]
  constructor
  · intro h
    exact (hfound j).mp (lowest?_some h)
  · intro h
    cases hs : p.slotOf? n with
    | none =>
      have hj := lowest?_none.mp hs j
      rw [(hfound j).mpr h] at hj
      cases hj
    | some i =>
      obtain ⟨d, hd, hdn⟩ := (hfound i).mp (lowest?_some hs)
      obtain ⟨e, he, hen⟩ := h
      rw [hone i j d e hd he (hdn.trans hen.symm)]

/-- R54, R68: the demand with which a used slot takes part. -/
theorem participation_demand (s : State) {j : Fin 12} {x : Descriptor} (hx : s.ptb.slots[j] = some x) (dOwn d : Nat) :
    (s.participation j).demand? dOwn = some d ↔
      (x.station = s.osc.station ∧ d = dOwn) ∨ (x.station ≠ s.osc.station ∧ x.excluded = false ∧
        ((s.ptb.entries[j].freshness = .fresh ∧ d = s.ptb.entries[j].demand) ∨
          (s.ptb.entries[j].freshness = .stale ∧ d = x.rated))) := by
  simp only [State.participation, hx]
  by_cases hown : x.station = s.osc.station
  · simp [hown, Participation.demand?, eq_comm (a := dOwn)]
  · cases hexcl : x.excluded
    · generalize s.ptb.entries[j] = e
      cases e.freshness <;> simp [hown, Participation.demand?, eq_comm (b := d)]
    · simp [hown, Participation.demand?]

theorem participants_fst (s : State) (dOwn : Nat) : ((s.participants dOwn).map Prod.fst).Pairwise (· < ·) := by
  rw [List.pairwise_map, State.participants, List.pairwise_filterMap]
  refine (List.pairwise_lt_range' (s := 1) (n := 12)).imp fun {m n} hmn p hp q hq => ?_
  have hfst (k : Nat) (p : Nat × Nat)
      (h : ((s.ptb.slotOf? k).bind fun j => ((s.participation j).demand? dOwn).map fun d => (k, d)) = some p) : p.1 = k := by
    obtain ⟨j, -, h⟩ := Option.bind_eq_some_iff.mp h
    obtain ⟨d, -, rfl⟩ := Option.map_eq_some_iff.mp h
    rfl
  rw [hfst m p hp, hfst n q hq]
  exact hmn

/-- R68: the participants of a sound configuration, slot by slot. -/
theorem mem_participants {s : State} (hs : s.configSound) (dOwn n d : Nat) :
    (n, d) ∈ s.participants dOwn ↔ ∃ (j : Fin 12) (x : Descriptor), s.ptb.slots[j] = some x ∧ x.station = n ∧
      ((n = s.osc.station ∧ d = dOwn) ∨ (n ≠ s.osc.station ∧ x.excluded = false ∧
        ((s.ptb.entries[j].freshness = .fresh ∧ d = s.ptb.entries[j].demand) ∨
          (s.ptb.entries[j].freshness = .stale ∧ d = x.rated)))) := by
  obtain ⟨-, -, -, hrange, hone, -⟩ := hs
  simp only [State.participants, List.mem_filterMap, Option.bind_eq_some_iff, Option.map_eq_some_iff, Prod.mk.injEq,
    slotOf?_iff hone]
  constructor
  · rintro ⟨m, -, j, ⟨x, hx, rfl⟩, d', hd, rfl, rfl⟩
    exact ⟨j, x, hx, rfl, (participation_demand s hx _ _).mp hd⟩
  · rintro ⟨j, x, hx, rfl, hd⟩
    obtain ⟨hlow, hhigh, -⟩ := hrange j x hx
    have hmem : x.station ∈ List.range' 1 12 := by simp; omega
    exact ⟨x.station, hmem, j, ⟨x, hx, rfl⟩, d, (participation_demand s hx _ _).mpr hd,
      rfl, rfl⟩

/-! ## The control period (R62, R63, R69) -/

/-- R63: the SCU that a control period leaves. -/
theorem exec_controlPeriod_scu {due : Clocks} {s t : State} (hdue : s.scu.periodDue = some due)
    (h : exec .controlPeriod s = .next t) : t.scu = { s.computeShare with periodDue := some (due + ms 20) } := by
  simp only [exec, execControlPeriod, State.controlPeriod, hdue, atDue_some, Host.Outcome.next.injEq] at h
  rw [← h]
  rfl

/-- R68: the slots that take a reserve. -/
theorem takesReserve_eq (p : Participation) : p.takesReserve = (p == .reserve || p == .excluded) := by
  cases p <;> rfl

/-- Settles O31: the kilowatts that flooring leaves over are placed one by one, and there are enough to take them. -/
theorem sharesAddUpToTheCapacity : Obligations.SharesAddUpToTheCapacity := by
  constructor
  · intro reserve avail ps hps hshort share floor
    refine ⟨rawShare_sum hps hshort reserve, fun p hp => ?_, fun as bs cs p q h hq hp => ?_⟩
    · obtain ⟨as, bs, h⟩ := List.mem_iff_append.mp hp
      have hshare : share p = _ := rawShare_at hps hshort h reserve
      have hfloor : floor p = floorShare avail (totalDemand ps) p.2 := rfl
      have hle : floorShare avail (totalDemand ps) p.2 ≤ p.2 := floorShare_le hshort p.2
      rw [← hfloor] at hshare hle
      split at hshare <;> omega
    · have hshareP : share p = _ :=
        rawShare_at hps hshort (as := as) (bs := bs ++ q :: cs) (by rw [h]; simp) reserve
      have hshareQ : share q = _ := rawShare_at hps hshort (as := as ++ p :: bs) h reserve
      have hfloorP : floor p = floorShare avail (totalDemand ps) p.2 := rfl
      have hfloorQ : floor q = floorShare avail (totalDemand ps) q.2 := rfl
      have hbefore : shortCount avail (totalDemand ps) as ≤ shortCount avail (totalDemand ps) (as ++ p :: bs) := by
        simp [shortCount, List.countP_append]
      rw [hshareQ, hfloorQ] at hq
      rw [hfloorP] at hp ⊢
      rw [hshareP, if_pos]
      refine ⟨lt_of_le_of_lt hbefore ?_, hp⟩
      split at hq
      · next hextra => exact hextra.1
      · omega
  · intro due s t hdue hs h ps r reserve
    have hscu := exec_controlPeriod_scu hdue h
    have hps : ps = s.participants s.ownDemand := by show s.participants t.scu.dOwn = _; rw [hscu]; rfl
    have hreserve : reserve = s.totalReserve := by
      show _ = s.stationReserve * _
      simp only [takesReserve_eq]
      rfl
    refine ⟨?_, ?_, ?_, ?_⟩
    · rw [hps, hreserve, hscu]; rfl
    · rw [hps, hscu]; rfl
    · exact participants_fst s _
    · exact mem_participants hs _

end Sys2Proof.Machine
end

section
/-! SUPPORT. What a valid STATUS or NOTICE of a peer makes of its entry and of the bitmaps (R48, R51 to R53, R56, R57, R59, R60). -/

namespace Sys2Proof.Machine

/-! ## A long frame with the row's own meaning (R25 to R30) -/

/-- R25, R28, R30: a long frame that passes every check goes on to what its row makes of the payload. -/
theorem longFrame_good {s : State} {heard : List BitTime} {h : Header} {corrected : Bool} {kinds : Nat → Bool}
    (hh : s.hears heard h corrected) (hk : kinds h.kind.toNat = true) (hp : s.payloadGood heard h)
    (act : List Byte → State → Fin 12 → PeerEntry → PeerEntry) :
    s.longFrame heard kinds act = (s.afterFrame heard corrected).dispatch h.sender.toNat (act (s.trailing heard)) := by
  obtain ⟨hl, hq, hw, hcl, hown, hforeign⟩ := hh
  obtain ⟨hlen, hkind, hcrc⟩ := hp
  have hgood : lengthGood h (s.trailing heard).length = true := lengthGood_of hlen hkind
  have hcrcGood : crcGood h (s.trailing heard) = true := beq_iff_eq.mpr hcrc
  simp only [State.longFrame, State.whenFrame, canEnd_of hl hq hw, hcl, hk, State.senderChecks, flagIf_frameEnds,
    osc_afterFrame, hown, foreign_afterFrame, hforeign, State.payloadChecks, hgood, hcrcGood]
  rfl

/-! ## A frame of a peer that is not EXCLUDED (R48, R51, R52, R56) -/

/-- R56: a frame that counts as heard. -/
theorem heard_eq (s : State) :
    s.heard = { s with
      ptb := { s.ptb with isolationDue := some (s.clock + ms 2000), isolated := false }
      flm := if s.ptb.isolated then s.flm.take (stampOf s.clock) (.gone .linkIsolated) else s.flm } := by
  simp only [State.heard, State.report_mild _ (.gone .linkIsolated) rfl]
  split <;> rfl

/-- R57, R60: the fault manager when an entry has changed and the bitmaps with it. -/
def State.bitmapsMoved (u v : State) : Flm :=
  (u.flm.bitmapMoved u.clock .peerLost u.lostBits v.lostBits).bitmapMoved u.clock .shareViewDisagree u.disagreeBits
    v.disagreeBits

/-- What a frame of the peer in slot `j` leaves that changes its entry by `f`. -/
theorem peerHeard_eq (u : State) (j : Fin 12) (f : PeerEntry → PeerEntry) :
    (u.watchPeers fun t => t.setEntry j f).heard = { u with
      ptb := { u.ptb with
        isolationDue := some (u.clock + ms 2000), isolated := false
        entries := u.ptb.entries.set j (f u.ptb.entries[j]) }
      flm := if u.ptb.isolated then (u.bitmapsMoved (u.setEntry j f)).take (stampOf u.clock) (.gone .linkIsolated)
        else u.bitmapsMoved (u.setEntry j f) } := by
  rw [watchPeers_eq, heard_eq]
  rfl

/-! ## The conditions the frame leaves (R57, R60) -/

@[simp] theorem Flm.takeEvent_present (f : Flm) (now : Stamp) (c : FaultCode) (v : Int) :
    (f.takeEvent now c v).present = f.present := by
  simp only [Flm.takeEvent]
  repeat' split
  all_goals simp

/-- R172: a report leaves the condition of every other code. -/
theorem Flm.take_holds_other (f : Flm) (now : Stamp) (r : Report) {d : FaultCode} (h : r.code.index ≠ d.index) :
    (f.take now r).holds d = f.holds d := by
  have hne : r.code.index.val ≠ d.index.val := fun e => h (Fin.ext e)
  cases r with
  | present c v =>
    simp only [Flm.holds, Flm.take, Flm.takePresent_present]
    exact Vector.getElem_set_ne _ _ hne
  | gone c =>
    simp only [Flm.holds, Flm.take, Flm.takeGone_present]
    exact Vector.getElem_set_ne _ _ hne
  | event c v => simp only [Flm.holds, Flm.take, Flm.takeEvent_present]

/-- R57, R60: a bitmap that changes is present where a bit is set. -/
theorem Flm.bitmapMoved_holds (f : Flm) (now : Clocks) (c : FaultCode) {a b : Nat} (h : a ≠ b) :
    (f.bitmapMoved now c a b).holds c = decide (b ≠ 0) := by
  rw [Flm.bitmapMoved, if_neg (Ne.symm h)]
  split
  · next h0 => rw [Flm.takeGone_holds]; simp [h0]
  · next h0 => rw [Flm.takePresent_holds]; simp [h0]

theorem bitmapsMoved_peerLost (u v : State) :
    (u.bitmapsMoved v).holds .peerLost = (u.flm.bitmapMoved u.clock .peerLost u.lostBits v.lostBits).holds .peerLost :=
  Flm.bitmapMoved_holds_other _ _ (by decide) _ _

/-- R60: the last bit stays where another entry disagrees. -/
theorem disagreeBits_setEntry_ne_zero_iff (s : State) (j : Fin 12) (f : PeerEntry → PeerEntry)
    (hnew : (f s.ptb.entries[j]).disagreement ≠ 50) :
    (s.setEntry j f).disagreeBits ≠ 0 ↔ ∃ i, i ≠ j ∧ s.ptb.entries[i].disagreement = 50 := by
  constructor
  · refine fun h => Classical.byContradiction fun hnone => h ?_
    exact disagreeBits_setEntry_zero s j f (by simpa [PeerEntry.disagrees] using hnew) fun i hi => by
      simpa [PeerEntry.disagrees] using fun h50 => hnone ⟨i, hi, h50⟩
  · rintro ⟨i, hi, h50⟩
    rw [disagreeBits_setEntry]
    refine bitSum_ne_zero (j := i) ?_
    simpa [PeerEntry.disagrees, Ne.symm hi] using h50

/-- R60: an entry that comes to disagree adds its bit. -/
theorem disagreeBits_lt_setEntry (s : State) (j : Fin 12) (f : PeerEntry → PeerEntry)
    (hold : s.ptb.entries[j].disagreement ≠ 50) (hnew : (f s.ptb.entries[j]).disagreement = 50) :
    s.disagreeBits < (s.setEntry j f).disagreeBits := by
  rw [disagreeBits_setEntry, disagreeBits_eq]
  refine bitSum_lt (j := j) (fun i hi => ?_) (by simpa [PeerEntry.disagrees] using hold)
    (by simpa [PeerEntry.disagrees] using hnew)
  by_cases hij : j = i
  · subst hij
    simp [-Fin.getElem_fin, PeerEntry.disagrees, hold] at hi
  · simpa [hij] using hi

/-- R60: an entry that ceases to disagree takes its bit away. -/
theorem setEntry_disagreeBits_lt (s : State) (j : Fin 12) (f : PeerEntry → PeerEntry)
    (hold : s.ptb.entries[j].disagreement = 50) (hnew : (f s.ptb.entries[j]).disagreement ≠ 50) :
    (s.setEntry j f).disagreeBits < s.disagreeBits := by
  rw [disagreeBits_setEntry, disagreeBits_eq]
  refine bitSum_lt (j := j) (fun i hi => ?_) (by simpa [PeerEntry.disagrees] using hnew)
    (by simpa [PeerEntry.disagrees] using hold)
  by_cases hij : j = i
  · subst hij
    simp [-Fin.getElem_fin, PeerEntry.disagrees, hnew] at hi
  · simpa [hij] using hi

/-! ## STATUS (R48, R53, R59) -/

/-- R59: the counter as the statement forms it. -/
theorem nextDisagreement_eq (counter : Nat) (opState : Byte) (dSeen dOwn cCfg : Nat) :
    nextDisagreement counter opState.toNat dSeen dOwn cCfg =
      if opState = 0 ∨ opState = 1 then counter
      else if cCfg / 20 < ((dSeen : Int) - dOwn).natAbs then min 50 (counter + 1)
      else 0 := by
  have hdist : (dSeen - dOwn) + (dOwn - dSeen) = ((dSeen : Int) - dOwn).natAbs := by omega
  simp only [nextDisagreement, hdist, ← BitVec.toNat_inj]
  rfl

/-- Settles O16: the frame changes the one entry, and the bitmaps move by its bits. -/
theorem validStatusMakesThePeerFresh : Obligations.ValidStatusMakesThePeerFresh := by
  intro heard h corrected j s hh hk hp hf u e p
  let f := fun e : PeerEntry => e.takeStatus p u.clock u.scu.dSeen u.scu.cCfg
  have hexec : exec (.statusReceived heard) s = .next ((u.watchPeers fun t => t.setEntry j f).heard) :=
    congrArg Host.Outcome.next ((longFrame_good hh (by rw [hk]; rfl) hp _).trans (dispatch_peer hf _))
  rw [peerHeard_eq] at hexec
  let v := u.setEntry j f
  have hother (d : FaultCode) (hd : FaultCode.linkIsolated.index ≠ d.index) (g : Flm) :
      (if u.ptb.isolated then g.take (stampOf u.clock) (.gone .linkIsolated) else g).holds d = g.holds d := by
    split
    · exact g.take_holds_other _ (.gone .linkIsolated) hd
    · rfl
  have hnew : v.ptb.entries[j] = f e := by
    show (update u.ptb.entries j f)[j] = _
    rw [update_get, if_pos rfl]
    rfl
  refine ⟨_, hexec, ?_, rfl, fun hlost hnone => ?_, fun hsame => ?_, fun hold h50 => ?_, fun hold h50 => ?_, fun hi => ?_⟩
  · simp only [f, PeerEntry.takeStatus, nextDisagreement_eq]
    rfl
  · have hv : v.lostBits = 0 := hnone
    refine (hother .peerLost (by decide) _).trans ((bitmapsMoved_peerLost u v).trans ?_)
    rw [hv]
    exact Flm.bitmapMoved_gone _ _ _ hlost
  · have hv : v.lostBits = u.lostBits := hsame.symm
    refine (hother .peerLost (by decide) _).trans ((bitmapsMoved_peerLost u v).trans ?_)
    rw [hv, Flm.bitmapMoved_same]
    rfl
  · have hv : v.ptb.entries[j].disagreement = 50 := h50
    refine (hother .shareViewDisagree (by decide) _).trans (Flm.bitmapMoved_present _ _ _ ?_)
    exact disagreeBits_lt_setEntry u j f hold (hnew ▸ hv)
  · have hv : v.ptb.entries[j].disagreement ≠ 50 := h50
    rw [hnew] at hv
    refine (hother .shareViewDisagree (by decide) _).trans
      ((Flm.bitmapMoved_holds _ _ _ (setEntry_disagreeBits_lt u j f hold hv).ne').trans ?_)
    exact decide_eq_decide.mpr (disagreeBits_setEntry_ne_zero_iff u j f hv)
  · have hu : u.ptb.isolated = true := hi
    simp only [hu, if_true]
    exact Flm.takeGone_holds _ _ _

/-! ## NOTICE (R51, R52) -/

section
variable (e : PeerEntry) (c : FaultCode) (n : Nat)

theorem takeTrip_frame : e.takeTrip c n = { e with
    tripCodes := (e.takeTrip c n).tripCodes, lastTripNotice := (e.takeTrip c n).lastTripNotice } := by
  unfold PeerEntry.takeTrip
  split <;> rfl

theorem takeTrip_beyond (h : 2 < n) : e.takeTrip c n = e := by
  unfold PeerEntry.takeTrip
  split
  case h_4 => rfl
  all_goals omega

theorem takeCableHot_eq : e.takeCableHot n =
    { e with cableHot := if n = 0 then true else if n ≤ 2 then false else e.cableHot } := by
  unfold PeerEntry.takeCableHot
  split
  · rfl
  · split <;> rfl

end

section
variable (e : PeerEntry) (monitor : Bool) (p : NoticePayload)

/-- R51, R52: a NOTICE of a code of the table moves the trip codes by its severity and the cable-hot flag by its code. -/
theorem takeNotice_of_code {c : FaultCode} (hc : FaultCode.ofNumber p.code.toNat = some c) :
    e.takeNotice monitor p = { e with
      tripCodes := if p.severity = 4 ∨ p.severity = 5 then (e.takeTrip c p.transition.toNat).tripCodes else e.tripCodes
      lastTripNotice :=
        if p.severity = 4 ∨ p.severity = 5 then (e.takeTrip c p.transition.toNat).lastTripNotice else e.lastTripNotice
      cableHot :=
        if c = .stringCableHot ∧ monitor then
          (if p.transition.toNat = 0 then true else if p.transition.toNat ≤ 2 then false else e.cableHot)
        else e.cableHot } := by
  simp only [PeerEntry.takeNotice, hc, takeCableHot_eq]
  by_cases htrips : p.severity = 4 ∨ p.severity = 5
  · simp only [htrips, if_true]
    rw [takeTrip_frame]
    split <;> rfl
  · simp only [htrips, if_false]
    split <;> rfl

theorem takeNotice_frame : ∃ codes last hot,
    e.takeNotice monitor p = { e with tripCodes := codes, lastTripNotice := last, cableHot := hot } := by
  cases hc : FaultCode.ofNumber p.code.toNat with
  | none => exact ⟨e.tripCodes, e.lastTripNotice, e.cableHot, by simp only [PeerEntry.takeNotice, hc]⟩
  | some c => exact ⟨_, _, _, takeNotice_of_code e monitor p hc⟩

/-- A NOTICE of no code of the table, or of no transition of the table, moves nothing. -/
theorem takeNotice_foreign (h : FaultCode.ofNumber p.code.toNat = none ∨ 2 < p.transition.toNat) :
    e.takeNotice monitor p = e := by
  cases hc : FaultCode.ofNumber p.code.toNat with
  | none => simp only [PeerEntry.takeNotice, hc]
  | some c =>
    have hn : 2 < p.transition.toNat := h.resolve_left (by simp [hc])
    have h0 : p.transition.toNat ≠ 0 := by omega
    rw [takeNotice_of_code e monitor p hc]
    simp [takeTrip_beyond e c _ hn, h0, Nat.not_le.mpr hn]

end

/-- Settles O17: the entry moves as the NOTICE says, and the frame counts as heard. -/
theorem validNoticeMovesTheFaultView : Obligations.ValidNoticeMovesTheFaultView := by
  intro heard h corrected j d s hh hk hp hf hd u e p trips
  let f := fun e : PeerEntry => e.takeNotice d.cableMonitor p
  have hpeer : u.slotPeer? j = some d := by
    obtain ⟨-, -, hactive⟩ := hf
    have hused : u.slotPeer? j = (some d).filter (·.station != s.osc.station) := by rw [← hd]; rfl
    have hactive : (u.slotPeer? j).elim false (!·.excluded) = true := hactive
    rw [hused, Option.filter_some] at hactive ⊢
    split at hactive
    · next hother => rw [if_pos hother]
    · cases hactive
  have hexec : exec (.noticeReceived heard) s = .next ((u.watchPeers fun t => t.setEntry j f).heard) := by
    refine congrArg Host.Outcome.next ((longFrame_good hh (by rw [hk]; rfl) hp _).trans ((dispatch_peer hf _).trans ?_))
    simp only [u, f, p] at hpeer ⊢
    rw [hpeer]
    rfl
  rw [peerHeard_eq] at hexec
  refine ⟨_, f e, hexec, rfl, ?_, takeNotice_foreign e _ p, fun c hc => ?_⟩
  · obtain ⟨codes, last, hot, he⟩ := takeNotice_frame e d.cableMonitor p
    simp only [f, he]
  · have he : f e = _ := takeNotice_of_code e d.cableMonitor p hc
    refine ⟨fun h0 => ?_, fun h1 => ?_, fun h2 => ?_⟩
    · have hn : p.transition.toNat = 0 := by rw [h0]; rfl
      rw [he, hn]
      refine ⟨fun x => ?_, rfl, rfl⟩
      by_cases htrips : p.severity = 4 ∨ p.severity = 5
      · simp only [trips, htrips, if_true, true_and, PeerEntry.takeTrip]
        split
        · next hmem =>
          have hc : c ∈ e.tripCodes := List.contains_iff_mem.mp hmem
          exact ⟨.inl, fun hx => hx.elim id fun hxc => hxc ▸ hc⟩
        · simp
      · simp only [trips, htrips, if_false, false_and, or_false]
    · have hn : p.transition.toNat = 1 := by rw [h1]; rfl
      rw [he, hn]
      refine ⟨rfl, ?_, rfl⟩
      by_cases htrips : p.severity = 4 ∨ p.severity = 5
      · simp only [trips, htrips, if_true, true_and]
        rfl
      · simp only [trips, htrips, if_false, false_and]
    · have hn : p.transition.toNat = 2 := by rw [h2]; rfl
      rw [he, hn]
      exact ⟨rfl, rfl, rfl⟩

end Sys2Proof.Machine
end

section
/-! SUPPORT. What both resets leave in every block (R61, R83, R104, R119, R132, R151, R158, R170, R192, R208). -/

namespace Sys2Proof.Machine

/-! ## Reports while no image is loaded (R181) -/

/-- R181: while no image is loaded, a change of the reaction is told to the YWC alone. -/
theorem tell_of_unloaded {s : State} (hu : s.osc.state.isUnloaded = true) (before : Reaction) :
    s.tell before = if yawStopArises before s.flm.reaction s.ywc.move then s.yawStopCause true else s := by
  have hosc : ∀ t : State, t.osc = s.osc →
      t.oscTripHolds = t ∧ t.oscSafeStopHolds = t ∧ t.oscTripCeases = t := by
    intro t ht
    have hstate : t.osc.state = .loading ∨ t.osc.state = .unconfigured := by
      rw [ht]
      cases h : s.osc.state <;> simp_all [OpState.isUnloaded]
    rcases hstate with h | h <;> simp only [State.oscTripHolds, State.oscSafeStopHolds, State.oscTripCeases, h, and_self]
  let u := if yawStopArises before s.flm.reaction s.ywc.move then s.yawStopCause true else s
  have hu : u.osc = s.osc := by simp only [u]; split <;> simp
  obtain ⟨htrip, hsafe, hceases⟩ := hosc u hu
  simp only [u] at htrip hsafe hceases
  simp only [State.tell, htrip, hsafe, hceases, ite_self]

/-- R181: with the YWC in IDLE too, nothing moves. -/
theorem tell_unloaded {s : State} (hu : s.osc.state.isUnloaded = true) (hy : s.ywc.state = .idle) (before : Reaction) :
    s.tell before = s := by
  rw [tell_of_unloaded hu]
  simp only [State.yawStopCause, hy, ite_self]

theorem report_unloaded {s : State} (hu : s.osc.state.isUnloaded = true) (hy : s.ywc.state = .idle) (r : Report) :
    s.report r = s.quiet r := tell_unloaded (s := s.quiet r) hu hy _

/-! ## The record a present report opens (R175) -/

theorem insertOpen_find? {c : FaultCode} {r : Record} {l : List Record} (hr : r.code = c)
    (hl : ∀ x ∈ l, x.code ≠ c) : (insertOpen r l).find? (·.code == c) = some r := by
  induction l with
  | nil => simp [insertOpen, hr]
  | cons x xs ih =>
    obtain ⟨hx, hxs⟩ := List.forall_mem_cons.mp hl
    simp only [insertOpen]
    split
    · rw [List.find?_cons_of_neg (by simpa using hx)]
      exact ih hxs
    · simp [hr]

theorem openRecord?_eq_none (f : Flm) (c : FaultCode) : f.openRecord? c = none ↔ ∀ r ∈ f.opens, r.code ≠ c := by
  simp [Flm.openRecord?]

/-- R175: the record that a present report opens bears its value. -/
theorem openRecord?_takePresent {f : Flm} {c : FaultCode} (h : f.openRecord? c = none) (now : Stamp) (v : Int) :
    ((f.take now (.present c v)).openRecord? c).map (·.value) = some (BitVec.ofInt 32 v) := by
  have hset : (f.setPresent c true).openRecord? c = none := h
  simp only [Flm.take, Flm.takePresent, hset]
  refine (congrArg (Option.map Record.value) (insertOpen_find? (c := c) (r := openedRecord _ c v now _) rfl ?_)).trans rfl
  simpa using (openRecord?_eq_none f c).mp h

/-- A report of another code opens no record of the code. -/
theorem openRecord?_take_other {f : Flm} {r : Report} {c : FaultCode} (hc : r.code ≠ c) (h : f.openRecord? c = none)
    (now : Stamp) : (f.take now r).openRecord? c = none := by
  rw [openRecord?_eq_none] at h ⊢
  have hany := Flm.take_any (· == c) f now r (by simpa using hc)
  have hold : f.opens.any (fun x => x.code == c) = false := by simpa using h
  rw [hold] at hany
  simpa using hany

/-! ## The state after a reset, before the blocks look at drives and straps -/

/-- R122, R124, R138, R143: the timer of an output against its input. -/
theorem monitor_eq_feedback (now : Clocks) (was is : Bool) (due : Option Clocks) :
    monitor now (ms 2000) was is due = feedback now was is due := by
  cases was <;> cases is <;> rfl

/-- R188, R189: both resets leave an empty OPEN list, and are alike in the other blocks. -/
theorem exec_reset {dt : Clocks} {straps : BitVec 4} {s t : State}
    (h : exec (.coldReset straps) s = .next t ∨ exec (.warmReset dt straps) s = .next t) :
    ∃ f : Flm, f.opens = [] ∧ t = (s.resetBlocks f straps.toNat).endReset := by
  rcases h with h | h
  · exact ⟨flmAfterColdReset, rfl, (Host.Outcome.next.inj h).symm⟩
  · exact ⟨(s.elapse dt).flm.warmReset (s.elapse dt).stamp, rfl, (Host.Outcome.next.inj h).symm⟩

section
variable (s : State) (f : Flm) (n : Nat)

/-- R124: after a reset no drive is marked. -/
theorem resetBlocks_usableCount : (s.resetBlocks f n).ywc.usableCount = countSet s.ywc.ready := by
  have husable : (s.resetBlocks f n).ywc.usable = s.ywc.ready := by
    ext i hi
    simp [Ywc.usable, State.resetBlocks, ywcAfterReset]
  rw [Ywc.usableCount, husable]

theorem resetBlocks_validStation : (s.resetBlocks f n).osc.validStation = (decide (1 ≤ n) && decide (n ≤ 12)) := rfl

theorem resetBlocks_valid (hlow : 1 ≤ n) (hhigh : n ≤ 12) : (s.resetBlocks f n).osc.validStation = true := by
  rw [resetBlocks_validStation]; simp [hlow, hhigh]

/-- R119: the report of the drives moves only the fault manager. -/
theorem reportDrives_six (s : State) (k : Nat) :
    s.reportDrives 6 k =
      if k < 4 then s.setFlm (s.flm.take s.stamp (.present .yawDrivesInsufficient k)) else s := by
  simp only [State.reportDrives, State.report_mild _ (.present .yawDrivesInsufficient k) rfl]
  by_cases hk : k < 4
  · rw [if_pos ⟨by decide, hk⟩, if_pos hk]
    rfl
  · rw [if_neg fun h => hk h.2, if_neg fun h => absurd h.1 (by decide), if_neg hk]

/-- R157: a change of the CTS that moves no bitmap is not reported. -/
theorem watchSense_same {s : State} {act : Cts → Cts} (hleak : (act s.cts).leakBitmap = s.cts.leakBitmap)
    (hcond : (act s.cts).condensationBitmap = s.cts.condensationBitmap) (hlow : (act s.cts).lowBitmap = s.cts.lowBitmap)
    (hfault : (act s.cts).faultBitmap = s.cts.faultBitmap) : s.watchSense act = s.setCts (act s.cts) := by
  simp only [State.watchSense, hleak, hcond, hlow, hfault, reportBitmap_same]

/-- R158: a CTS that has reported nothing has nothing to take back. -/
theorem stopSensing_afterReset {s : State} (h : s.cts = ctsAfterReset) :
    s.stopSensing = s.setCts { ctsAfterReset with
      scan := none, scanDue := none, channels := mapTable ctsAfterReset.channels SenseChannel.forget } := by
  refine (watchSense_same ?_ ?_ ?_ ?_).trans (by rw [h])
  all_goals rw [h]; decide

end

/-- R192, R198: a strap value outside 1..12 leaves the part UNCONFIGURED, with the report of the drives before. -/
theorem endReset_invalid (s : State) {f : Flm} {n : Nat} (hn : n = 0 ∨ 12 < n) (hf : f.openRecord? .configInvalid = none) :
    let t := (s.resetBlocks f n).endReset
    t.osc = { oscAfterReset n with state := .unconfigured, loader := .idle } ∧
      (t.flm.openRecord? .configInvalid).map (·.value) = some 16 ∧ t.cts.scan = none ∧ t.cts.scanDue = none := by
  have hinvalid : (decide (1 ≤ n) && decide (n ≤ 12)) = false := by simp; omega
  obtain ⟨g, hg, hdrives⟩ : ∃ g : Flm, g.openRecord? .configInvalid = none ∧
      (s.resetBlocks f n).reportDrives 6 (s.resetBlocks f n).ywc.usableCount = (s.resetBlocks f n).setFlm g := by
    rw [reportDrives_six]
    split
    · exact ⟨_, openRecord?_take_other (r := .present .yawDrivesInsufficient _)
        (show FaultCode.yawDrivesInsufficient ≠ .configInvalid by decide) hf _, rfl⟩
    · exact ⟨f, hf, rfl⟩
  have hrefused : (s.resetBlocks f n).endReset = ((s.resetBlocks f n).setFlm g).refuseImage 16 := by
    simp only [State.endReset, hdrives]
    exact if_neg (by rw [State.setFlm_osc, resetBlocks_validStation, hinvalid]; exact Bool.false_ne_true)
  intro t
  have ht : t = _ := hrefused
  rw [State.refuseImage, report_unloaded rfl rfl, stopSensing_afterReset rfl] at ht
  rw [ht]
  exact ⟨rfl, openRecord?_takePresent hg _ _, rfl, rfl⟩

/-- Settles O5: the blocks as the reset leaves them, then the reports of too few drives and of a bad strap value. -/
theorem resetsLeaveTheBlocks : Obligations.ResetsLeaveTheBlocks := by
  refine ⟨fun dt straps s t hlow hhigh hready h => ?_, fun dt straps s t hstraps h => ?_,
    fun dt straps s t hlow hhigh hready h => ?_⟩
  all_goals obtain ⟨f, hf, rfl⟩ := exec_reset h
  · have hvalid := resetBlocks_valid s f _ hlow hhigh
    have hend : (s.resetBlocks f straps.toNat).endReset = s.resetBlocks f straps.toNat := by
      rw [State.endReset, resetBlocks_usableCount, reportDrives_six, if_neg (Nat.not_lt.mpr hready)]
      exact if_pos hvalid
    rw [hend]
    refine ⟨rfl, rfl, ⟨rfl, rfl, rfl, rfl, fun j => ?_⟩, rfl, rfl, ?_, ?_, ?_, rfl, rfl⟩
    · simp [State.resetBlocks, ptbAfterReset, freshEntry]
    · simp only [State.resetBlocks, ywcAfterReset, monitor_eq_feedback]
      rfl
    · simp [State.resetBlocks, clcAfterReset, monitor_eq_feedback, channelAfterReset, defaultCooling, mapTable]
    · simp [State.resetBlocks, ctsAfterReset, channelDefaults]
  · obtain ⟨hosc, hvalue, hscan, hdue⟩ := endReset_invalid s hstraps ((openRecord?_eq_none f _).mpr (by simp [hf]))
    rw [hosc]
    exact ⟨rfl, rfl, rfl, rfl, hvalue, hscan, hdue⟩
  · have hvalid := resetBlocks_valid s f _ hlow hhigh
    have hend : (s.resetBlocks f straps.toNat).endReset = (s.resetBlocks f straps.toNat).setFlm
        (f.take (s.resetBlocks f straps.toNat).stamp (.present .yawDrivesInsufficient (countSet s.ywc.ready))) := by
      rw [State.endReset, resetBlocks_usableCount, reportDrives_six, if_pos hready]
      exact if_pos hvalid
    rw [hend]
    refine ⟨rfl, f.takePresent_holds _ _ _, ?_⟩
    exact (openRecord?_takePresent ((openRecord?_eq_none f _).mpr (by simp [hf])) _ _).trans
      (congrArg some (BitVec.ofInt_natCast _ _))

end Sys2Proof.Machine
end

section
/-! SUPPORT. What the moves of the arbiter and of the yaw states leave of the YWC and the CLC, and what a report in LOADING leaves of the OSC. -/

namespace Sys2Proof.Machine

/-! ## The basis -/

/-- The parts of the YWC that no stop, request or grant moves. -/
structure YawBasis where
  twist : Int
  vaneSeen : Bool
  vaneInvalidDue : Option Clocks
  misalignCount : Nat
  evalDue : Option Clocks
  sectors : Vector Sector 24
  offsets : Vector Int 8
  params : YawParams
  hold : Bool

def Ywc.basis (y : Ywc) : YawBasis :=
  { twist := y.twist, vaneSeen := y.vaneSeen, vaneInvalidDue := y.vaneInvalidDue, misalignCount := y.misalignCount
    evalDue := y.evalDue, sectors := y.sectors, offsets := y.offsets, params := y.params, hold := y.hold }

/-- The CLC with its fans left out. -/
def Clc.fanless (c : Clc) : Clc :=
  { c with fans := Vector.replicate 4 { failed := false, runOut := false, runIn := false, feedbackDue := none } }

/-- What a load goes by and leaves in place while the arbiter and the yaw states move: every block but the SLC, the FLM
but for two conditions, and the YWC and the CLC as far as their basis goes. -/
structure Basis where
  clock : Clocks
  ptb : Ptb
  scu : Scu
  cvp : Cvp
  yaw : YawBasis
  cooling : Clc
  cts : Cts
  figures : Figures
  osc : Osc
  peerLost : Bool
  hardLimit : Bool

def State.basis (s : State) : Basis :=
  { clock := s.clock, ptb := s.ptb, scu := s.scu, cvp := s.cvp, yaw := s.ywc.basis, cooling := s.clc.fanless, cts := s.cts
    figures := s.apa.figures, osc := s.osc, peerLost := s.flm.holds .peerLost, hardLimit := s.flm.holds .twistHardLimit }

section
variable (s : State)

@[simp] theorem State.setYwc_basis (y : Ywc) : (s.setYwc y).basis = { s.basis with yaw := y.basis } := rfl
@[simp] theorem State.setClc_basis (c : Clc) : (s.setClc c).basis = { s.basis with cooling := c.fanless } := rfl
@[simp] theorem State.setCts_basis (c : Cts) : (s.setCts c).basis = { s.basis with cts := c } := rfl
@[simp] theorem State.setApa_basis (a : Apa) : (s.setApa a).basis = { s.basis with figures := a.figures } := rfl
@[simp] theorem State.setScu_basis (u : Scu) : (s.setScu u).basis = { s.basis with scu := u } := rfl
@[simp] theorem State.setCvp_basis (c : Cvp) : (s.setCvp c).basis = { s.basis with cvp := c } := rfl

/-! A block put back with the same basis leaves that of the state. -/

@[simp] theorem State.basis_apa : { s.basis with figures := s.apa.figures } = s.basis := rfl
@[simp] theorem State.basis_ywc : { s.basis with yaw := s.ywc.basis } = s.basis := rfl
@[simp] theorem State.basis_clc : { s.basis with cooling := s.clc.fanless } = s.basis := rfl

/-! ## Reports -/

/-- A report of neither of the two codes. -/
theorem State.quiet_basis (r : Report) (hp : r.code.index ≠ FaultCode.peerLost.index)
    (ht : r.code.index ≠ FaultCode.twistHardLimit.index) : (s.quiet r).basis = s.basis := by
  have hpeer := s.flm.take_holds_other s.stamp r hp
  have htwist := s.flm.take_holds_other s.stamp r ht
  simp [State.basis, State.quiet, hpeer, htwist]

@[simp] theorem State.quietGone_yawStall_basis : (s.quietGone .yawStall).basis = s.basis := by
  simp only [State.quietGone]
  split
  · exact s.quiet_basis _ (by decide) (by decide)
  · rfl

@[simp] theorem State.quietGone_yawWaitPower_basis : (s.quietGone .yawWaitPower).basis = s.basis := by
  simp only [State.quietGone]
  split
  · exact s.quiet_basis _ (by decide) (by decide)
  · rfl

@[simp] theorem State.quiet_auxOverride_basis (v : Int) : (s.quiet (.event .auxOverride v)).basis = s.basis :=
  s.quiet_basis _ (show FaultCode.auxOverride.index ≠ _ by decide) (show FaultCode.auxOverride.index ≠ _ by decide)

/-! ## The arbiter and the yaw states -/

@[simp] theorem Clc.setFanOut_fanless (now : Clocks) (c : Clc) (f : Fin 4) (b : Bool) :
    (c.setFanOut now f b).fanless = c.fanless := rfl

@[simp] theorem Ywc.enterBrakeRelease_basis (now : Clocks) (k : Nat) (y : Ywc) :
    (y.enterBrakeRelease now k).basis = y.basis := by
  simp only [Ywc.enterBrakeRelease]
  split <;> rfl

@[simp] theorem State.stopFan_basis : s.stopFan.basis = s.basis := by
  simp only [State.stopFan]
  split <;> simp

@[simp] theorem State.grantFan_basis : s.grantFan.basis = s.basis := by
  simp only [State.grantFan]
  split <;> simp

@[simp] theorem State.tryFan_basis : s.tryFan.basis = s.basis := by
  simp only [State.tryFan]
  split <;> simp

@[simp] theorem State.grantYaw_basis (k : Nat) : (s.grantYaw k).basis = s.basis := by
  simp only [State.grantYaw, State.setYwc_basis, Ywc.enterBrakeRelease_basis]
  exact (State.basis_ywc _).trans (by simp)

@[simp] theorem State.tryYaw_basis : s.tryYaw.basis = s.basis := by
  simp only [State.tryYaw]
  split <;> simp

@[simp] theorem State.tryRequests_basis : s.tryRequests.basis = s.basis := by
  simp only [State.tryRequests]
  split <;> simp

@[simp] theorem State.takeBackFans_basis (n : Nat) : (s.takeBackFans n).basis = s.basis := by
  induction n generalizing s with
  | zero => rfl
  | succ n ih =>
    simp only [State.takeBackFans]
    split <;> simp [ih]

@[simp] theorem State.shed_basis : s.shed.basis = s.basis := by
  simp only [State.shed, State.setApa_basis]
  exact (State.basis_apa _).trans (by simp)

@[simp] theorem State.yawToIdle_basis : s.yawToIdle.basis = s.basis := by
  have hstart : (s.setYwc { s.ywc.clearWindow with
      state := .idle, move := none, offsetInUse := 0, steering := false, waitDue := none }).basis = s.basis := rfl
  simp only [State.yawToIdle]
  split
  · rw [State.setYwc_basis]
    exact (State.basis_ywc _).trans ((State.quietGone_yawStall_basis _).trans hstart)
  · exact (State.quietGone_yawStall_basis _).trans hstart

@[simp] theorem State.releaseYaw_basis : s.releaseYaw.basis = s.basis := by
  simp only [State.releaseYaw]
  split <;> simp

@[simp] theorem State.endMove_basis : s.endMove.basis = s.basis := by simp [State.endMove]

@[simp] theorem State.enterBrakeApply_basis : s.enterBrakeApply.basis = s.basis := by
  simp only [State.enterBrakeApply]
  split
  · rfl
  · rw [State.endMove_basis]
    rfl

@[simp] theorem State.withdrawYaw_basis : s.withdrawYaw.basis = s.basis := by simp [State.withdrawYaw]

@[simp] theorem State.yawStopCause_basis (b : Bool) : (s.yawStopCause b).basis = s.basis := by
  simp only [State.yawStopCause]
  split
  case h_1 => split <;> simp
  all_goals simp

@[simp] theorem State.overrideStop_basis : s.overrideStop.basis = s.basis := by simp [State.overrideStop]

@[simp] theorem State.examine_basis : s.examine.basis = s.basis := by
  simp only [State.examine]
  split <;> simp

end

/-! ## A YWC that has let the window and the steering go (R107, R112) -/

/-- The window is empty, and no offset is in use. -/
def Ywc.rested (y : Ywc) : Prop := y.window = [] ∧ y.offsetInUse = 0 ∧ y.steering = false

section
variable {s : State} (h : s.ywc.rested)

include h in
theorem State.tryRequests_rested : s.tryRequests.ywc.rested := by
  have hgrant (t : State) (ht : t.ywc.rested) (k : Nat) : (t.grantYaw k).ywc.rested := by
    simp only [State.grantYaw, State.setYwc_ywc, State.quietGone_ywc, Ywc.enterBrakeRelease]
    split <;> exact ht
  have hyaw (t : State) (ht : t.ywc.rested) : t.tryYaw.ywc.rested := by
    simp only [State.tryYaw]
    split
    · exact hgrant t ht _
    · exact ht
  simp only [State.tryRequests]
  split
  · rw [State.tryFan_ywc]
    exact hyaw s h
  · exact hyaw s.tryFan (by rwa [State.tryFan_ywc])

theorem State.yawToIdle_rested (s : State) : s.yawToIdle.ywc.rested := by
  obtain ⟨retry, hy⟩ := yawToIdle_ywc s
  rw [hy]
  exact ⟨rfl, rfl, rfl⟩

include h in
theorem State.enterBrakeApply_rested : s.enterBrakeApply.ywc.rested := by
  simp only [State.enterBrakeApply]
  split
  · exact h
  · exact State.yawToIdle_rested _

include h in
theorem State.yawStopCause_rested (b : Bool) : (s.yawStopCause b).ywc.rested := by
  simp only [State.yawStopCause]
  split
  case h_1 =>
    split
    · exact State.yawToIdle_rested _
    · exact h
  case h_2 | h_3 => exact State.enterBrakeApply_rested h
  all_goals exact h

include h in
theorem State.examine_rested : s.examine.ywc.rested := by
  have htried := State.tryRequests_rested h
  simp only [State.examine, State.overrideStop]
  split
  · refine State.yawStopCause_rested ?_ false
    rwa [State.quiet_ywc, State.setApa_ywc]
  · exact htried

end

/-! ## Reports while no image is loaded (R181) -/

section
variable {s : State} (hu : s.osc.state.isUnloaded = true)

include hu in
/-- R181: a report reaches the fault manager, and may stop the move. -/
theorem report_of_unloaded (r : Report) : s.report r = s.quiet r ∨ s.report r = (s.quiet r).yawStopCause true := by
  have htell := tell_of_unloaded (s := s.quiet r) hu s.flm.reaction
  rw [State.report, htell]
  split
  · exact .inr rfl
  · exact .inl rfl

include hu in
theorem State.report_basis_quiet (r : Report) : (s.report r).basis = (s.quiet r).basis := by
  rcases report_of_unloaded hu r with h | h <;> rw [h]
  exact State.yawStopCause_basis _ _

include hu in
theorem State.report_basis (r : Report) (hp : r.code.index ≠ FaultCode.peerLost.index)
    (ht : r.code.index ≠ FaultCode.twistHardLimit.index) : (s.report r).basis = s.basis :=
  (State.report_basis_quiet hu r).trans (s.quiet_basis r hp ht)

include hu in
theorem State.report_rested (h : s.ywc.rested) (r : Report) : (s.report r).ywc.rested := by
  rcases report_of_unloaded hu r with hr | hr <;> rw [hr]
  · exact h
  · exact State.yawStopCause_rested (s := s.quiet r) h true

include hu in
theorem State.reportBitmap_basis (c : FaultCode) (a b : Nat) (hp : c.index ≠ FaultCode.peerLost.index)
    (ht : c.index ≠ FaultCode.twistHardLimit.index) : (s.reportBitmap c a b).basis = s.basis := by
  simp only [State.reportBitmap]
  split
  · rfl
  · split
    · exact State.report_basis hu (.gone c) hp ht
    · exact State.report_basis hu (.present c b) hp ht

include hu in
theorem State.reportBitmap_rested (h : s.ywc.rested) (c : FaultCode) (a b : Nat) : (s.reportBitmap c a b).ywc.rested := by
  simp only [State.reportBitmap]
  split
  · exact h
  · split <;> exact State.report_rested hu h _

/-- R181: with the YWC in IDLE a bitmap is a matter of the fault manager. -/
theorem reportBitmap_unloaded (hu : s.osc.state.isUnloaded = true) (hy : s.ywc.state = .idle) (c : FaultCode) (a b : Nat) :
    ∃ f, s.reportBitmap c a b = s.setFlm f := by
  simp only [State.reportBitmap, report_unloaded hu hy]
  split
  · exact ⟨s.flm, rfl⟩
  · split <;> exact ⟨_, rfl⟩

end

end Sys2Proof.Machine
end

section
/-! SUPPORT. What shedding and an examination leave of the fans (R162, R163, R168). -/

namespace Sys2Proof.Machine

/-! ## The lowest entries that are set -/

section
variable {n : Nat} (p : Fin n → Bool)

/-- How many entries are set. -/
def setCount : Nat := ((List.finRange n).filter p).length

/-- How many entries below `f` are set. -/
def setBelow (f : Fin n) : Nat := ((List.finRange n).filter fun e => decide (e < f) && p e).length

/-- The lowest `m` of the set entries. -/
def lowestSet (m : Nat) (f : Fin n) : Bool := p f && decide (setBelow p f < m)

theorem length_filter_finRange : ((List.finRange n).filter p).length = (Finset.univ.filter fun i => p i = true).card := by
  rw [← List.toFinset_card_of_nodup ((List.nodup_finRange n).filter p)]
  congr 1
  ext i
  simp

theorem setBelow_lt_setCount {f : Fin n} (hf : p f = true) : setBelow p f < setCount p := by
  rw [setBelow, setCount, length_filter_finRange, length_filter_finRange]
  refine Finset.card_lt_card ((Finset.ssubset_iff_of_subset fun i hi => ?_).mpr ⟨f, by simpa using hf, by simp⟩)
  simp only [Finset.mem_filter, Bool.and_eq_true] at hi ⊢
  exact ⟨hi.1, hi.2.2⟩

theorem setBelow_mono {e f : Fin n} (h : e ≤ f) : setBelow p e ≤ setBelow p f := by
  rw [setBelow, setBelow, length_filter_finRange, length_filter_finRange]
  refine Finset.card_le_card fun i hi => ?_
  simp only [Finset.mem_filter, Bool.and_eq_true, decide_eq_true_eq] at hi ⊢
  exact ⟨hi.1, lt_of_lt_of_le hi.2.1 h, hi.2.2⟩

theorem setBelow_lt {e f : Fin n} (he : p e = true) (h : e < f) : setBelow p e < setBelow p f := by
  rw [setBelow, setBelow, length_filter_finRange, length_filter_finRange]
  refine Finset.card_lt_card ((Finset.ssubset_iff_of_subset fun i hi => ?_).mpr ⟨e, by simp [h, he], by simp⟩)
  simp only [Finset.mem_filter, Bool.and_eq_true, decide_eq_true_eq] at hi ⊢
  exact ⟨hi.1, hi.2.1.trans h, hi.2.2⟩

theorem lowestSet_of_le {m : Nat} (h : setCount p ≤ m) : lowestSet p m = p := by
  funext f
  cases hf : p f
  · simp [lowestSet, hf]
  · simp [lowestSet, hf, lt_of_lt_of_le (setBelow_lt_setCount p hf) h]

/-- The lowest `m` of the lowest `k`. -/
theorem lowestSet_lowestSet {m k : Nat} (h : m ≤ k) : lowestSet (lowestSet p k) m = lowestSet p m := by
  funext f
  by_cases hf : p f = true ∧ setBelow p f < k
  · have hbelow : setBelow (lowestSet p k) f = setBelow p f := by
      unfold setBelow
      congr 2
      funext e
      by_cases he : e < f
      · have hk : setBelow p e < k := lt_of_le_of_lt (setBelow_mono p he.le) hf.2
        simp [lowestSet, hk]
      · simp [he]
    simp [lowestSet, hbelow, hf]
  · by_cases hp : p f = true
    · have hk : ¬ setBelow p f < k := fun hlt => hf ⟨hp, hlt⟩
      have hm : ¬ setBelow p f < m := fun hlt => hk (lt_of_lt_of_le hlt h)
      simp [lowestSet, hp, hk, hm]
    · simp [lowestSet, hp]

theorem highest?_none (h : highest? p = none) (f : Fin n) : p f = false := by
  have := List.find?_eq_none.mp h f (by simp)
  simpa using this

/-- No higher index satisfies the predicate. -/
theorem highest?_some {f : Fin n} (h : highest? p = some f) : p f = true ∧ ∀ g, f < g → p g = false := by
  obtain ⟨hf, as, bs, hl, ha⟩ := List.find?_eq_some_iff_append.mp h
  refine ⟨hf, fun g hg => ?_⟩
  have hp : (as ++ f :: bs).Pairwise (· > ·) := by
    rw [← hl, List.pairwise_reverse]
    exact List.pairwise_lt_finRange n
  have hm : g ∈ as ++ f :: bs := by rw [← hl]; simp
  rw [List.mem_append, List.mem_cons] at hm
  rcases hm with hm | rfl | hm
  · simpa using ha g hm
  · exact absurd hg (lt_irrefl _)
  · exact absurd hg (lt_asymm ((List.pairwise_cons.mp (List.pairwise_append.mp hp).2.1).1 g hm))

/-- Without the highest set entry the others are left, one fewer. -/
theorem lowestSet_of_highest {f : Fin n} (h : highest? p = some f) :
    (lowestSet p (setCount p - 1) = fun g => p g && decide (g ≠ f)) ∧ setBelow p f + 1 = setCount p := by
  obtain ⟨hf, habove⟩ := highest?_some p h
  have hcount : setBelow p f + 1 = setCount p := by
    rw [setBelow, setCount, length_filter_finRange, length_filter_finRange,
      ← Finset.card_insert_of_notMem (a := f) (by simp)]
    congr 1
    ext i
    simp only [Finset.mem_insert, Finset.mem_filter, Finset.mem_univ, true_and, Bool.and_eq_true, decide_eq_true_eq]
    constructor
    · rintro (rfl | ⟨-, hi⟩) <;> assumption
    · intro hi
      rcases lt_trichotomy i f with hlt | heq | hgt
      · exact .inr ⟨hlt, hi⟩
      · exact .inl heq
      · rw [habove i hgt] at hi
        cases hi
  refine ⟨funext fun g => ?_, hcount⟩
  rcases lt_trichotomy g f with hlt | rfl | hgt
  · cases hg : p g
    · simp [lowestSet, hg]
    · have hbelow := setBelow_lt p hg hlt
      have hrank : setBelow p g < setCount p - 1 := by omega
      simp [lowestSet, hg, hrank, hlt.ne]
  · have hrank : ¬ setBelow p g < setCount p - 1 := by omega
    simp [lowestSet, hrank]
  · simp [lowestSet, habove g hgt]

theorem setCount_lowestSet_pred : setCount (lowestSet p (setCount p - 1)) = setCount p - 1 := by
  cases h : highest? p with
  | none =>
    have hp : p = fun _ => false := funext (highest?_none p h)
    subst hp
    simp [setCount, lowestSet]
  | some f =>
    obtain ⟨hlow, hcount⟩ := lowestSet_of_highest p h
    obtain ⟨-, habove⟩ := highest?_some p h
    have hpred : setCount p - 1 = setBelow p f := by omega
    rw [hlow, hpred, setCount, setBelow]
    congr 2
    funext i
    rcases lt_trichotomy i f with hlt | rfl | hgt
    · simp [hlt, hlt.ne]
    · simp
    · simp [habove i hgt]

end

/-! ## Fans taken back (R142, R168) -/

/-- The fans that run. -/
def Clc.runs (c : Clc) (f : Fin 4) : Bool := c.fans[f].runOut

theorem setFanOut_runs (now : Clocks) (c : Clc) (f : Fin 4) (on : Bool) (g : Fin 4) :
    (c.setFanOut now f on).runs g = if f = g then on else c.runs g := by
  have hg : (update c.fans f fun x => x.change now { x with runOut := on })[g] = _ := update_get _ _ _ _
  simp only [Clc.runs, Clc.setFanOut, hg]
  split <;> rfl

theorem stopFan_runs (s : State) : s.stopFan.clc.runs = lowestSet s.clc.runs (setCount s.clc.runs - 1) := by
  simp only [State.stopFan]
  cases h : s.clc.fanToStop with
  | none =>
    have hnone : s.clc.runs = fun _ => false := funext (highest?_none s.clc.runs h)
    simp [hnone, lowestSet, funext_iff]
  | some f =>
    rw [(lowestSet_of_highest s.clc.runs h).1]
    funext g
    simp only [State.setClc_clc, setFanOut_runs]
    by_cases hfg : f = g
    · simp [hfg]
    · simp [hfg, Ne.symm hfg]

theorem setCount_runs (c : Clc) : setCount c.runs = countSet (mapTable c.fans (·.runOut)) := (countSet_ofFn _).symm

/-- R160: the granted total with `m` fans. -/
def Apa.totalWith (a : Apa) (m : Nat) : Nat := ({ a with fansGranted := m } : Apa).total

/-- R168: `t` follows from `s` by taking fans back from the highest down, as far as it must be, to `m` of them. -/
structure TakenBack (s t : State) (m : Nat) : Prop where
  le : m ≤ s.apa.fansGranted
  apa : t.apa = { s.apa with fansGranted := m }
  runs : t.clc.runs = lowestSet s.clc.runs m
  fits : m = 0 ∨ s.apa.totalWith m ≤ s.apa.inForce
  needed : m < s.apa.fansGranted → s.apa.inForce < s.apa.totalWith (m + 1)

theorem takenBack_refl {s : State} (hcount : setCount s.clc.runs = s.apa.fansGranted)
    (h : s.apa.fansGranted = 0 ∨ s.apa.total ≤ s.apa.inForce) : TakenBack s s s.apa.fansGranted :=
  ⟨Nat.le_refl _, rfl, (lowestSet_of_le _ hcount.le).symm, h, fun hlt => absurd hlt (Nat.lt_irrefl _)⟩

theorem takeBackFans_spec {s : State} (hcount : setCount s.clc.runs = s.apa.fansGranted) {k : Nat}
    (hk : s.apa.fansGranted ≤ k) : ∃ m, TakenBack s (s.takeBackFans k) m := by
  induction k generalizing s with
  | zero => exact ⟨_, takenBack_refl hcount (.inl (Nat.le_zero.mp hk))⟩
  | succ k ih =>
    simp only [State.takeBackFans]
    split
    · next hover =>
      obtain ⟨hpos, hbudget⟩ := hover
      let u := (s.setApa { s.apa with fansGranted := s.apa.fansGranted - 1 }).stopFan
      have hapa : u.apa = { s.apa with fansGranted := s.apa.fansGranted - 1 } := State.stopFan_apa _
      have hruns : u.clc.runs = lowestSet s.clc.runs (s.apa.fansGranted - 1) := by
        rw [← hcount]
        exact stopFan_runs _
      have hucount : setCount u.clc.runs = u.apa.fansGranted := by
        rw [hruns, hapa, ← hcount, setCount_lowestSet_pred]
      obtain ⟨m, hm⟩ := ih hucount (by rw [hapa]; exact Nat.pred_le_iff.mpr hk)
      obtain ⟨hle, htapa, htruns, hfits, hneeded⟩ := hm
      rw [hapa] at hle htapa hfits hneeded
      have hle : m ≤ s.apa.fansGranted - 1 := hle
      rw [hruns, lowestSet_lowestSet _ hle] at htruns
      refine ⟨m, by omega, htapa, htruns, hfits, fun hlt => ?_⟩
      rcases Nat.lt_or_ge m (s.apa.fansGranted - 1) with hm | hm
      · exact hneeded hm
      · have hlast : m + 1 = s.apa.fansGranted := by omega
        rw [hlast]
        exact hbudget
    · next hover => exact ⟨_, takenBack_refl hcount (by omega)⟩

/-- R168: with the total in the budget shedding takes nothing back. -/
theorem shed_of_fits {s : State} (h : s.apa.total ≤ s.apa.inForce) :
    s.shed = s.setApa { s.apa with shedPending := false } := by
  have hstay : s.takeBackFans s.apa.fansGranted = s := by
    cases s.apa.fansGranted with
    | zero => rfl
    | succ k => exact if_neg fun hover => absurd hover.2 (Nat.not_lt.mpr h)
  rw [State.shed, hstay]

/-! ## The examination without yaw motors (R162, R163) -/

@[simp] theorem tryFan_yawGranted (s : State) : s.tryFan.apa.yawGranted = s.apa.yawGranted := by
  simp only [State.tryFan, State.grantFan]
  repeat' split
  all_goals rfl

/-- R162: with no yaw motor granted and no yaw request waiting, an examination grants the fan request or nothing. -/
theorem examine_still {s : State} (hr : s.apa.yawRequest = none) (hg : s.apa.yawGranted = 0) :
    s.examine = if s.apa.fanRequest = true ∧ (s.apa.figures.fanLoad : Int) ≤ s.apa.free then s.grantFan else s := by
  rw [examine_of_ungranted (by rw [tryRequests_of_none hr, tryFan_yawGranted, hg]), tryRequests_of_none hr]
  simp [State.tryFan, State.yawPrecedes, hr]

/-- R163: the grant of the fan request. -/
theorem grantFan_spec (s : State) :
    s.grantFan.apa = { s.apa with
        fanRequest := false
        fansGranted := if s.clc.fanToStart.isSome then s.apa.fansGranted + 1 else s.apa.fansGranted } ∧
      ∀ g, s.grantFan.clc.runs g = (s.clc.runs g || s.clc.fanToStart == some g) := by
  have hstart : (s.setApa { s.apa with fanRequest := false }).clc.fanToStart = s.clc.fanToStart := rfl
  simp only [State.grantFan, hstart]
  cases h : s.clc.fanToStart with
  | none => simp
  | some f =>
    refine ⟨rfl, fun g => ?_⟩
    refine (setFanOut_runs _ _ _ _ _).trans ?_
    by_cases hfg : f = g
    · simp [hfg]
    · simp [hfg]

/-! ## The load of the figures (R159) -/

/-- R160: the total of the pump and of `n` fans. -/
def Figures.withFans (f : Figures) (n : Nat) : Nat := f.pumpLoad + f.fanLoad * n

theorem total_withFans {a : Apa} (hg : a.yawGranted = 0) : a.total = a.figures.withFans a.fansGranted := by
  simp [Apa.total, Figures.withFans, hg]

/-- R163: there is power for one fan more. -/
theorem fanLoad_le_free {a : Apa} (hg : a.yawGranted = 0) (hrt : a.rideThrough = false) :
    (a.figures.fanLoad : Int) ≤ a.free ↔ a.figures.withFans (a.fansGranted + 1) ≤ a.figures.budget := by
  rw [Apa.free, total_withFans hg, Apa.inForce, hrt]
  simp only [Figures.withFans, Bool.false_eq_true, if_false, Nat.mul_succ]
  omega

/-- No yaw motor is granted or asked for, the whole budget is in force and covers the pump, and the fans that run are those
granted. -/
structure State.PowerStill (s : State) : Prop where
  request : s.apa.yawRequest = none
  granted : s.apa.yawGranted = 0
  budget : s.apa.rideThrough = false
  fans : setCount s.clc.runs = s.apa.fansGranted
  pump : s.apa.figures.pumpLoad ≤ s.apa.figures.budget

section
variable {s : State} (h : s.PowerStill)

include h in
theorem inForce_still : s.apa.inForce = s.apa.figures.budget := by simp [Apa.inForce, h.budget]

include h in
/-- R168: over the budget fans are taken back as far as it must be, and the power left is too little for one more. -/
theorem shed_examine_over (hover : s.apa.figures.budget < s.apa.figures.withFans s.apa.fansGranted) :
    ∃ m, m < s.apa.fansGranted ∧ s.apa.figures.withFans m ≤ s.apa.figures.budget ∧
      s.apa.figures.budget < s.apa.figures.withFans (m + 1) ∧
      s.shed.examine.apa = { s.apa with fansGranted := m, shedPending := false } ∧
      s.shed.examine.clc.runs = lowestSet s.clc.runs m := by
  obtain ⟨m, hle, hapa, hruns, hfits, hneeded⟩ := takeBackFans_spec h.fans (Nat.le_refl _)
  have hwith (k : Nat) : s.apa.totalWith k = s.apa.figures.withFans k :=
    total_withFans (a := { s.apa with fansGranted := k }) h.granted
  rw [hwith, inForce_still h] at hfits hneeded
  have hzero : m = 0 → s.apa.figures.withFans m ≤ s.apa.figures.budget := by
    rintro rfl
    exact h.pump
  have hfits : s.apa.figures.withFans m ≤ s.apa.figures.budget := hfits.elim hzero id
  have hlt : m < s.apa.fansGranted := lt_of_le_of_ne hle fun heq => absurd (heq ▸ hover) (Nat.not_lt.mpr hfits)
  have hshed : s.shed.apa = { s.apa with fansGranted := m, shedPending := false } := by
    simp only [State.shed, State.setApa_apa, hapa]
  have hfree := fanLoad_le_free (a := { s.apa with fansGranted := m, shedPending := false }) h.granted h.budget
  have hdone : s.shed.examine = s.shed := by
    rw [examine_still (by rw [hshed]; exact h.request) (by rw [hshed]; exact h.granted), hshed]
    exact if_neg fun hfan => absurd (hneeded hlt) (Nat.not_lt.mpr (hfree.mp hfan.2))
  rw [hdone]
  exact ⟨m, hlt, hfits, hneeded hlt, hshed, hruns⟩

include h in
/-- R163: within the budget nothing is taken back, and the fan request is granted where there is power for it. -/
theorem shed_examine_fits (hfits : s.apa.figures.withFans s.apa.fansGranted ≤ s.apa.figures.budget) :
    s.shed.examine =
      if s.apa.fanRequest = true ∧ s.apa.figures.withFans (s.apa.fansGranted + 1) ≤ s.apa.figures.budget then
        (s.setApa { s.apa with shedPending := false }).grantFan
      else s.setApa { s.apa with shedPending := false } := by
  rw [shed_of_fits (by rwa [total_withFans h.granted, inForce_still h])]
  have hexamine := examine_still (s := s.setApa { s.apa with shedPending := false }) h.request h.granted
  have hfree := fanLoad_le_free (a := { s.apa with shedPending := false }) h.granted h.budget
  simp only [State.setApa_apa, hfree] at hexamine
  exact hexamine

include h in
/-- R159, R163, R168: the grants and the fans when the figures have come into force. -/
theorem shed_examine_spec :
    let t := s.shed.examine
    let total := s.apa.figures.withFans
    let n := s.apa.fansGranted
    t.apa.yawGranted = 0 ∧ t.apa.shedPending = false ∧ t.apa.total ≤ s.apa.figures.budget ∧
      if s.apa.figures.budget < total n then
        t.apa.fanRequest = s.apa.fanRequest ∧ t.apa.fansGranted < n ∧ total t.apa.fansGranted ≤ s.apa.figures.budget ∧
          s.apa.figures.budget < total (t.apa.fansGranted + 1) ∧
          ∀ f, t.clc.runs f = lowestSet s.clc.runs t.apa.fansGranted f
      else if s.apa.fanRequest = true ∧ total (n + 1) ≤ s.apa.figures.budget then
        t.apa.fanRequest = false ∧ t.apa.fansGranted = (if s.clc.fanToStart.isSome then n + 1 else n) ∧
          ∀ f, t.clc.runs f = (s.clc.runs f || s.clc.fanToStart == some f)
      else t.apa.fanRequest = s.apa.fanRequest ∧ t.apa.fansGranted = n ∧ t.clc.fans = s.clc.fans := by
  intro t total n
  by_cases hover : s.apa.figures.budget < total n
  · obtain ⟨m, hlt, hfits, hneeded, hapa, hruns⟩ := shed_examine_over h hover
    have hapa : t.apa = { s.apa with fansGranted := m, shedPending := false } := hapa
    rw [if_pos hover, total_withFans (by rw [hapa]; exact h.granted), hapa]
    exact ⟨h.granted, rfl, hfits, rfl, hlt, hfits, hneeded, congrFun hruns⟩
  · rw [if_neg hover]
    have hfits := shed_examine_fits h (Nat.not_lt.mp hover)
    split
    · next hfan =>
      have ht : t = _ := hfits.trans (if_pos hfan)
      obtain ⟨hapa, hruns⟩ := grantFan_spec (s.setApa { s.apa with shedPending := false })
      rw [← ht] at hapa hruns
      rw [total_withFans (by rw [hapa]; exact h.granted), hapa]
      refine ⟨h.granted, rfl, ?_, rfl, rfl, hruns⟩
      show total (if s.clc.fanToStart.isSome then n + 1 else n) ≤ _
      split
      · exact hfan.2
      · exact Nat.not_lt.mp hover
    · next hfan =>
      have ht : t = s.setApa { s.apa with shedPending := false } := hfits.trans (if_neg hfan)
      have htotal := total_withFans (a := { s.apa with shedPending := false }) h.granted
      rw [ht]
      exact ⟨h.granted, rfl, htotal.le.trans (Nat.not_lt.mp hover), rfl, rfl, rfl⟩

end

end Sys2Proof.Machine
end

section
/-! SUPPORT. What a good image leaves in every block (R45, R50, R57, R106, R111, R127, R132, R136, R146, R159, R197, R201). -/

namespace Sys2Proof.Machine

/-! ## What a good image gives (R194 to R196) -/

/-- R45: the own station's rated power is that of a slot that names it. -/
theorem Staging.good_rated {st : Staging} {own : Nat} (h : ∀ q ∈ st.failures own, q.2 = false) :
    ∃ (j : Fin 12) (d : Descriptor), st.peers[j] = some d ∧ d.station = own ∧
      (st.peerList.find? (·.station == own)).elim 0 (·.rated) = d.rated := by
  have h9 : st.peerList.any (·.station == own) = true := by
    simpa using h (9, !st.peerList.any (·.station == own)) (by simp [Staging.failures])
  cases hd : st.peerList.find? (·.station == own) with
  | none =>
    rw [List.find?_eq_none] at hd
    obtain ⟨d, hmem, hown⟩ := List.any_eq_true.mp h9
    exact absurd hown (hd d hmem)
  | some d =>
    obtain ⟨j, hj⟩ := Staging.mem_peerList.mp (List.mem_of_find?_eq_some hd)
    exact ⟨j, d, hj, by simpa using List.find?_some hd, rfl⟩

/-- R195: the sectors of a good image are in their ranges. -/
theorem Staging.good_sectors {st : Staging} {own : Nat} (h : ∀ q ∈ st.failures own, q.2 = false) {k : Fin 24}
    {q : SectorRecord} (hq : st.sectors[k] = some q) : (q.partner < 12 ∨ q.partner = 255) ∧ q.offsetRef ≤ 7 := by
  have h11 : st.inRange = true := by simpa using h (11, !st.inRange) (by simp [Staging.failures])
  simp only [Staging.inRange, Bool.and_eq_true] at h11
  obtain ⟨⟨⟨⟨-, hsectors⟩, -⟩, -⟩, -⟩ := h11
  have hmem : q ∈ st.sectors.toList.filterMap id := by
    simp only [List.mem_filterMap, id, exists_eq_right, Vector.mem_toList_iff]
    exact hq ▸ Vector.getElem_mem k.isLt
  simpa [SectorRecord.inRange] using List.all_eq_true.mp hsectors q hmem

/-- R195: the figures of a good image leave the budget above the pump load. -/
theorem Staging.good_pump {st : Staging} {own : Nat} (h : ∀ q ∈ st.failures own, q.2 = false) :
    st.figures.pumpLoad ≤ st.figures.budget := by
  have h14 := h (14, decide (st.figures.budgetRt < st.figures.pumpLoad ∨ st.figures.budget < st.figures.budgetRt))
    (by simp [Staging.failures])
  simp only [decide_eq_false_iff_not] at h14
  omega

/-- R111: a sector from a record in its ranges. -/
theorem sectorOf_some {q : SectorRecord} (h : (q.partner < 12 ∨ q.partner = 255) ∧ q.offsetRef ≤ 7) :
    (sectorOf (some q)).steer = q.steer ∧ (sectorOf (some q)).restrict = q.restrict ∧
      (sectorOf (some q)).offsetRef.val = q.offsetRef ∧ q.offsetRef ≤ 7 ∧
      (q.partner = 255 ∧ (sectorOf (some q)).partner = none ∨
        ∃ p : Fin 12, (sectorOf (some q)).partner = some p ∧ p.val = q.partner) := by
  obtain ⟨hpartner, href⟩ := h
  refine ⟨rfl, rfl, Nat.mod_eq_of_lt (Nat.lt_succ_of_le href), href, ?_⟩
  by_cases hp : q.partner < 12
  · exact .inr ⟨⟨q.partner, hp⟩, dif_pos hp, rfl⟩
  · exact .inl ⟨hpartner.resolve_left hp, dif_neg hp⟩

/-! ## The blocks with an image -/

/-- R45, R50, R56: the PTB that a load at `now` leaves. -/
def Ptb.withImage (p : Ptb) (now : Clocks) (st : Staging) : Ptb :=
  { p with
    loaded := true, slots := st.peers, entries := Vector.replicate 12 freshEntry, isolationDue := some (now + ms 2000)
    isolated := false }

/-- R62, R66: the SCU that a load at `now` leaves. -/
def Scu.withImage (u : Scu) (now : Clocks) (r : StationRecord) : Scu :=
  { u with
    periodDue := some (now + ms 20), cap := r.cap, cCfg := r.cCfg, rampUp := r.rampUp, rampDown := r.rampDown
    fCab := r.fCab }

/-- R93, R96: the CVP that a load at `now` leaves. -/
def Cvp.withImage (c : Cvp) (now : Clocks) (r : StationRecord) : Cvp :=
  { c with strobeMode := strobeModeOf r.strobe, silenceDue := some (c.silenceDue.getD (now + ms 60)) }

/-- R136, R146: the CLC that a load leaves at a station of the rated power. -/
def Clc.withImage (c : Clc) (st : Staging) (rated : Nat) : Clc :=
  { c with params := st.coolingParams, tOwn := ({ c with params := st.coolingParams } : Clc).thermalLimit rated }

/-- R152: the CTS that a load leaves. -/
def Cts.withImage (c : Cts) (st : Staging) : Cts :=
  { c with
    scan := none, clockSel := (st.cooling.map (·.clockSel)).getD 2
    channels := Vector.ofFn fun i : Fin 8 => c.channels[i].load st.sense[i] }

/-! ## The steps of the load (R197) -/

theorem loadPeers_eq (s : State) (st : Staging) :
    s.loadPeers st = { s with
      ptb := s.ptb.withImage s.clock st, flm := s.bitmapsMoved (s.setPtb (s.ptb.withImage s.clock st)) } :=
  watchPeers_eq s _

/-- R57: with no slot used before, a peer that the image names is not heard yet. -/
theorem loadPeers_peerLost {s : State} {st : Staging} (hnone : ∀ i : Fin 12, s.ptb.slots[i] = none)
    (hpeer : ∃ (j : Fin 12) (d : Descriptor), st.peers[j] = some d ∧ d.station ≠ s.osc.station ∧ d.excluded = false) :
    (s.loadPeers st).flm.holds .peerLost = true := by
  obtain ⟨j, d, hj, hother, hactive⟩ := hpeer
  let v := s.setPtb (s.ptb.withImage s.clock st)
  have hold : s.lostBits = 0 := by
    refine bitSum_eq_zero fun i => ?_
    rw [State.activePeer, State.slotPeer?, hnone i]
    rfl
  have hnew : v.lostBits ≠ 0 := by
    refine bitSum_ne_zero (j := j) ?_
    have hslot : v.slotPeer? j = some d := by
      have hfilter : v.slotPeer? j = (some d).filter (·.station != s.osc.station) := by rw [← hj]; rfl
      rw [hfilter, Option.filter_some, if_pos (by simpa using hother)]
    have hsilent : v.ptb.entries[j] = freshEntry := by simp [v, Ptb.withImage]
    rw [State.activePeer, hslot, hsilent]
    simp [hactive, freshEntry]
  rw [loadPeers_eq]
  refine (bitmapsMoved_peerLost s v).trans (Flm.bitmapMoved_present _ _ _ ?_)
  rw [hold]
  exact Nat.pos_of_ne_zero hnew

section
variable {s : State} (hu : s.osc.state.isUnloaded = true)

include hu in
/-- R127: TWIST_HARD_LIMIT is present exactly where the limit is exceeded. -/
theorem compareHardLimit_basis : s.compareHardLimit.basis =
    { s.basis with hardLimit := decide (s.ywc.params.hardLimit < s.ywc.twist.natAbs) } := by
  have hreport (r : Report) (b : Bool) (hp : r.code.index ≠ FaultCode.peerLost.index)
      (hb : (s.flm.take s.stamp r).holds .twistHardLimit = b) : (s.report r).basis = { s.basis with hardLimit := b } := by
    rw [State.report_basis_quiet hu, ← hb]
    simp only [State.basis, State.quiet, State.setFlm_flm, s.flm.take_holds_other s.stamp r hp]
    rfl
  have hsame (b : Bool) (hb : s.flm.holds .twistHardLimit = b) : s.basis = { s.basis with hardLimit := b } := by
    rw [← hb]
    rfl
  simp only [State.compareHardLimit, State.reportGone]
  by_cases hover : s.ywc.params.hardLimit < s.ywc.twist.natAbs
  · rw [if_pos hover, decide_eq_true hover]
    split
    · next hholds => exact hsame true hholds
    · exact hreport _ true (show FaultCode.twistHardLimit.index ≠ _ by decide) (s.flm.takePresent_holds _ _ _)
  · rw [if_neg hover, decide_eq_false hover]
    split
    · exact hreport _ false (show FaultCode.twistHardLimit.index ≠ _ by decide) (s.flm.takeGone_holds _ _)
    · next hholds => exact hsame false (Bool.eq_false_iff.mpr hholds)

/-- R127: the comparison makes one report or none. -/
theorem compareHardLimit_cases (s : State) : s.compareHardLimit = s ∨ ∃ r, s.compareHardLimit = s.report r := by
  simp only [State.compareHardLimit, State.reportGone]
  split
  · split
    · exact .inl rfl
    · exact .inr ⟨_, rfl⟩
  · split
    · exact .inr ⟨_, rfl⟩
    · exact .inl rfl

include hu in
theorem compareHardLimit_rested (h : s.ywc.rested) : s.compareHardLimit.ywc.rested := by
  rcases compareHardLimit_cases s with hc | ⟨r, hc⟩ <;> rw [hc]
  · exact h
  · exact State.report_rested hu h r

include hu in
theorem compareHardLimit_idle (hy : s.ywc.state = .idle) : ∃ f, s.compareHardLimit = s.setFlm f := by
  rcases compareHardLimit_cases s with hc | ⟨r, hc⟩ <;> rw [hc]
  · exact ⟨s.flm, rfl⟩
  · exact ⟨_, report_unloaded hu hy r⟩

/-- R157: what holds with the new classes and is kept by each bitmap holds when the CTS has reported. -/
theorem watchSense_induction {P : State → Prop} {s : State} {act : Cts → Cts} (hstart : P (s.setCts (act s.cts)))
    (hstep : ∀ (t : State) (c : FaultCode) (a b : Nat), c.index ≠ FaultCode.peerLost.index →
      c.index ≠ FaultCode.twistHardLimit.index → P t → P (t.reportBitmap c a b)) : P (s.watchSense act) :=
  hstep _ .senseChannelFault _ _ (by decide) (by decide) <| hstep _ .coolantLow _ _ (by decide) (by decide) <|
    hstep _ .condensation _ _ (by decide) (by decide) <| hstep _ .coolantLeak _ _ (by decide) (by decide) hstart

include hu in
theorem watchSense_basis (act : Cts → Cts) : (s.watchSense act).basis = { s.basis with cts := act s.cts } := by
  refine watchSense_induction (P := fun t => t.basis = _) rfl fun t c a b hp hl ht => ?_
  have hosc : t.osc = s.osc := congrArg Basis.osc ht
  exact (State.reportBitmap_basis (hosc ▸ hu) c a b hp hl).trans ht

include hu in
theorem watchSense_rested (h : s.ywc.rested) (act : Cts → Cts) : (s.watchSense act).ywc.rested := by
  refine (watchSense_induction (P := fun t => t.osc = s.osc ∧ t.ywc.rested) ⟨rfl, h⟩ fun t c a b hp hl ht => ?_).2
  obtain ⟨hosc, hrested⟩ := ht
  have hut : t.osc.state.isUnloaded = true := hosc ▸ hu
  exact ⟨(congrArg Basis.osc (State.reportBitmap_basis hut c a b hp hl)).trans hosc,
    State.reportBitmap_rested hut hrested c a b⟩

include hu in
theorem watchSense_idle (hy : s.ywc.state = .idle) (act : Cts → Cts) :
    ∃ f, s.watchSense act = (s.setCts (act s.cts)).setFlm f := by
  refine watchSense_induction (P := fun t => ∃ f, t = (s.setCts (act s.cts)).setFlm f) ⟨s.flm, rfl⟩
    fun t c a b _ _ ht => ?_
  obtain ⟨f, rfl⟩ := ht
  obtain ⟨g, hg⟩ := reportBitmap_unloaded (s := (s.setCts (act s.cts)).setFlm f) hu hy c a b
  exact ⟨g, hg⟩

end

/-! ## The blocks before the OSC moves on (R197) -/

/-- R197: the load but for the part of the OSC. -/
def State.loadBlocks (s : State) (st : Staging) (r : StationRecord) : State :=
  (((((s.loadPeers st).loadShare r).loadConverter r).loadYaw st r).loadCooling st).loadSensing st |>.loadPower st

theorem completeLoad_eq (s : State) (st : Staging) (r : StationRecord) :
    s.completeLoad st r = (s.loadBlocks st r).loadModes r := rfl

section
variable (s : State) (st : Staging) (r : StationRecord)

/-- R45, R62, R93: the state with the PTB, the SCU and the CVP loaded and the YWC not yet compared. -/
def State.loadTables : State :=
  let t := ((s.loadPeers st).loadShare r).loadConverter r
  t.setYwc (t.ywc.load t.clock st r)

theorem loadTables_eq : s.loadTables st r = { s with
    ptb := s.ptb.withImage s.clock st, scu := s.scu.withImage s.clock r, cvp := s.cvp.withImage s.clock r
    ywc := s.ywc.load s.clock st r, flm := (s.loadPeers st).flm } := by
  simp only [State.loadTables, loadPeers_eq]
  rfl

theorem loadBlocks_eq : s.loadBlocks st r =
    (((s.loadTables st r).compareHardLimit.loadCooling st).loadSensing st).loadPower st := rfl

/-- R146: the CLC forms T_own for the rated power. -/
theorem loadCooling_eq : s.loadCooling st = s.setClc (s.clc.withImage st s.ratedOwn) := rfl

/-- R45: the rated power that the image gives the own station. -/
def Staging.rated (st : Staging) (own : Nat) : Nat := (st.peerList.find? (·.station == own)).elim 0 (·.rated)

theorem ratedOwn_of_slots {t : State} {own : Nat} (hslots : t.ptb.slots = st.peers) (ho : t.osc.station = own) :
    t.ratedOwn = st.rated own := by
  rw [State.ratedOwn, Staging.rated, Staging.peerList, hslots, ho]

/-- R146: the limit is formed from the channels, whatever the fans do. -/
theorem withImage_fanless (c : Clc) (n : Nat) : (c.withImage st n).fanless = (c.fanless.withImage st n).fanless := rfl

theorem loadPower_basis : (s.loadPower st).basis = { s.basis with figures := st.figures } := by simp [State.loadPower]

theorem loadPower_rested (h : s.ywc.rested) : (s.loadPower st).ywc.rested := by
  refine State.examine_rested ?_
  rw [State.shed_ywc]
  exact h

variable {s} (hu : s.osc.state.isUnloaded = true)

include hu in
theorem loadSensing_basis : (s.loadSensing st).basis = { s.basis with cts := s.cts.withImage st } := watchSense_basis hu _

include hu in
theorem loadSensing_rested (h : s.ywc.rested) : (s.loadSensing st).ywc.rested := watchSense_rested hu h _

include hu in
theorem loadSensing_idle (hy : s.ywc.state = .idle) :
    ∃ f, s.loadSensing st = (s.setCts (s.cts.withImage st)).setFlm f := watchSense_idle hu hy _

include hu in
/-- R197: the basis that the load leaves. -/
theorem loadBlocks_basis : (s.loadBlocks st r).basis =
    { clock := s.clock, ptb := s.ptb.withImage s.clock st, scu := s.scu.withImage s.clock r
      cvp := s.cvp.withImage s.clock r, yaw := (s.ywc.load s.clock st r).basis
      cooling := (s.clc.withImage st (st.rated s.osc.station)).fanless, cts := s.cts.withImage st, figures := st.figures
      osc := s.osc, peerLost := (s.loadPeers st).flm.holds .peerLost
      hardLimit := decide (r.hardLimit < s.ywc.twist.natAbs) } := by
  have htables := loadTables_eq s st r
  have hcompared := compareHardLimit_basis (s := s.loadTables st r) (by rw [htables]; exact hu)
  rw [loadBlocks_eq]
  generalize (s.loadTables st r).compareHardLimit = y at hcompared ⊢
  have hosc : y.osc = s.osc := (congrArg Basis.osc hcompared).trans (by rw [htables]; rfl)
  have hslots : y.ptb.slots = st.peers := (congrArg (·.ptb.slots) hcompared).trans (by rw [htables]; rfl)
  have hclc : y.clc.fanless = s.clc.fanless := (congrArg Basis.cooling hcompared).trans (by rw [htables]; rfl)
  have hcts : y.cts = s.cts := (congrArg Basis.cts hcompared).trans (by rw [htables]; rfl)
  have hcooled : (y.loadCooling st).basis =
      { y.basis with cooling := (s.clc.withImage st (st.rated s.osc.station)).fanless } := by
    rw [loadCooling_eq, State.setClc_basis, withImage_fanless, hclc,
      ratedOwn_of_slots (own := s.osc.station) st hslots (by rw [hosc]), ← withImage_fanless]
  have hsensed : ((y.loadCooling st).loadSensing st).basis =
      { (y.loadCooling st).basis with cts := y.cts.withImage st } :=
    loadSensing_basis (s := y.loadCooling st) st (by rw [loadCooling_eq, State.setClc_osc, hosc]; exact hu)
  rw [loadPower_basis, hsensed, hcooled, hcompared, hcts, htables]
  rfl

include hu in
theorem loadBlocks_rested : (s.loadBlocks st r).ywc.rested := by
  have htables := loadTables_eq s st r
  have hcompared := compareHardLimit_basis (s := s.loadTables st r) (by rw [htables]; exact hu)
  have hrested : (s.loadTables st r).compareHardLimit.ywc.rested :=
    compareHardLimit_rested (by rw [htables]; exact hu) ⟨rfl, rfl, rfl⟩
  have hosc : (s.loadTables st r).compareHardLimit.osc = s.osc :=
    (congrArg Basis.osc hcompared).trans (by rw [htables]; rfl)
  rw [loadBlocks_eq]
  generalize (s.loadTables st r).compareHardLimit = y at hrested hosc ⊢
  refine loadPower_rested _ st (loadSensing_rested (s := y.loadCooling st) st ?_ ?_)
  · rw [loadCooling_eq, State.setClc_osc, hosc]
    exact hu
  · rwa [loadCooling_eq, State.setClc_ywc]

include hu in
/-- R197: with the YWC in IDLE nothing but the figures of 8.1 moves a grant or a fan. -/
theorem loadBlocks_idle (hy : s.ywc.state = .idle) : ∃ v : State, s.loadBlocks st r = v.loadPower st ∧
    v.ywc = s.ywc.load s.clock st r ∧ v.apa = s.apa ∧ v.clc.fans = s.clc.fans := by
  have htables := loadTables_eq s st r
  obtain ⟨f, hf⟩ := compareHardLimit_idle (s := s.loadTables st r) (by rw [htables]; exact hu) (by rw [htables]; exact hy)
  have hcooled : ((s.loadTables st r).setFlm f).loadCooling st = _ := loadCooling_eq _ st
  obtain ⟨g, hg⟩ := loadSensing_idle (s := ((s.loadTables st r).setFlm f).loadCooling st) st
    (by rw [hcooled, htables]; exact hu) (by rw [hcooled, htables]; exact hy)
  refine ⟨(((s.loadTables st r).setFlm f).loadCooling st).loadSensing st, by rw [loadBlocks_eq, hf], ?_⟩
  rw [hg, hcooled, htables]
  exact ⟨rfl, rfl, rfl⟩

end

/-! ## The OSC (R197, R201) -/

/-- R197: the OSC before it chooses its state. -/
def Osc.withImage (o : Osc) (r : StationRecord) : Osc :=
  { o with loader := .idle, enable := false, runCommand := r.autoStart && !o.stringStopSeen }

/-- R197, R201: the OSC that a load leaves; whether it may start is judged with its new run command. -/
theorem loadModes_eq (s : State) (r : StationRecord) : ∃ o : Osc, s.loadModes r = s.setOsc o ∧
    o = if s.flm.reaction.safeStop = true then { s.osc.withImage r with state := .safeStop }
      else if (s.setOsc o).mayStart then
        { s.osc.withImage r with
          state := .starting, enable := true, startDue := some (s.clock + ms 10000), stopDue := none, restartDue := none }
      else { s.osc.withImage r with state := .standby, startDue := none, stopDue := none, restartDue := none } := by
  have hmay (o : Osc) (hrun : o.runCommand = (s.osc.withImage r).runCommand) (hseen : o.arrivalSeen = s.osc.arrivalSeen) :
      (s.setOsc o).mayStart ↔ (s.setOsc (s.osc.withImage r)).mayStart := by
    simp only [State.mayStart, State.setOsc_osc, State.setOsc_flm, State.setOsc_clc, State.setOsc_cvp, hrun, hseen]
    rfl
  by_cases hsafe : s.flm.reaction.safeStop = true
  · exact ⟨{ s.osc.withImage r with state := .safeStop }, if_pos hsafe, by rw [if_pos hsafe]⟩
  · let o := { s.osc.withImage r with state := OpState.standby, startDue := none, stopDue := none, restartDue := none }
    have hstandby : s.loadModes r = (s.setOsc o).testStart := if_neg hsafe
    rw [testStart_eq_tested (s := s.setOsc o) rfl] at hstandby
    by_cases hstart : (s.setOsc o).mayStart
    · refine ⟨{ o with state := .starting, enable := true, startDue := some (s.clock + ms 10000) },
        hstandby.trans (if_pos hstart), ?_⟩
      rw [if_neg hsafe]
      exact (if_pos ((hmay _ rfl rfl).mpr ((hmay o rfl rfl).mp hstart))).symm
    · exact ⟨o, hstandby.trans (if_neg hstart), by rw [if_neg hsafe, if_neg hstart]⟩

/-! ## The statement's own words for what a load leaves -/

theorem strobeModeOf_eq (n : Nat) : strobeModeOf n = if n = 1 then .pulse else if n = 2 then .window else .off := by
  unfold strobeModeOf
  split <;> simp_all

/-- R146: T_own as the statement forms it. -/
theorem thermalLimit_eq (c : Clc) (rated : Nat) :
    let limit : Int → Nat := fun x =>
      if x ≤ c.params.knee then rated
      else if c.params.tripTemp ≤ x then 0
      else (((rated : Int) * (c.params.tripTemp - x)) / (c.params.tripTemp - c.params.knee)).toNat
    c.thermalLimit rated =
      if c.convOut.validity = .out then (if c.genOut.validity = .out then 0 else limit c.genOut.held)
      else if c.genOut.validity = .out then limit c.convOut.held
      else min (limit c.convOut.held) (limit c.genOut.held) := by
  intro limit
  by_cases hconv : c.convOut.validity = .out <;> by_cases hgen : c.genOut.validity = .out <;>
    simp only [Clc.thermalLimit, Clc.limit?, hconv, hgen, if_true, if_false] <;> rfl

/-- R152: the channels with the settings of the image. -/
theorem withImage_channel (st : Staging) (c : Cts) (i : Fin 8) :
    (c.withImage st).channels[i].reported = none ∧ (c.withImage st).channels[i].scanned = (st.sense[i]).isSome ∧
      ∀ q, st.sense[i] = some q → (c.withImage st).channels[i].baseline = q.baseline ∧
        (c.withImage st).channels[i].margin = q.margin ∧ (c.withImage st).channels[i].ceiling = q.ceiling := by
  have hload : (c.withImage st).channels[i] = c.channels[i].load st.sense[i] := by simp [Cts.withImage]
  rw [hload]
  cases st.sense[i] with
  | none => exact ⟨rfl, rfl, fun q hq => by cases hq⟩
  | some q => exact ⟨rfl, rfl, fun q' hq => by cases hq; exact ⟨rfl, rfl, rfl⟩⟩

/-! ## The grants (R159, R162, R163, R168) -/

@[simp] theorem takeBackFans_yawGranted (s : State) (n : Nat) : (s.takeBackFans n).apa.yawGranted = s.apa.yawGranted := by
  induction n generalizing s with
  | zero => rfl
  | succ n ih =>
    simp only [State.takeBackFans]
    split <;> simp [ih]

/-- With no yaw request waiting and no yaw motor granted, the load of the figures is nothing to the YWC. -/
theorem loadPower_ywc {s : State} (hr : s.apa.yawRequest = none) (hg : s.apa.yawGranted = 0) (st : Staging) :
    (s.loadPower st).ywc = s.ywc := by
  have hr' : (s.setApa { s.apa with figures := st.figures }).shed.apa.yawRequest = none := by simpa using hr
  have hg' : (s.setApa { s.apa with figures := st.figures }).shed.apa.yawGranted = 0 := by simpa [State.shed] using hg
  rw [State.loadPower, examine_of_ungranted (by rw [tryRequests_of_none hr', tryFan_yawGranted, hg']),
    tryRequests_of_none hr', State.tryFan_ywc, State.shed_ywc, State.setApa_ywc]

/-- R115, R160: what the soundness of the yaw states says before a load. -/
theorem yawSound_unloaded {s : State} (hu : s.osc.state.isUnloaded = true) (h : s.yawSound) :
    s.ywc.state = .idle ∧ s.apa.yawGranted = 0 ∧ s.apa.yawRequest = none := by
  obtain ⟨-, -, -, -, hgranted, hrequest, -, hidle⟩ := h
  have hstate := (hidle hu).1
  rw [hstate] at hgranted hrequest
  exact ⟨hstate, hgranted.mpr (.inl rfl), Option.not_isSome_iff_eq_none.mp (by rw [hrequest]; decide)⟩

section
variable {s : State} (st : Staging) (r : StationRecord) (hu : s.osc.state.isUnloaded = true) (hy : s.yawSound)

include hu hy in
/-- R132: a sound YWC takes the image and nothing else. -/
theorem loadBlocks_ywc : (s.loadBlocks st r).ywc = s.ywc.load s.clock st r := by
  obtain ⟨hidle, hgranted, hrequest⟩ := yawSound_unloaded hu hy
  obtain ⟨v, hv, hywc, hapa, -⟩ := loadBlocks_idle st r hu hidle
  rw [hv, loadPower_ywc (by rw [hapa]; exact hrequest) (by rw [hapa]; exact hgranted), hywc]

include hu hy in
/-- R159, R163, R168: what the figures of a good image leave of the grants and the fans. -/
theorem loadBlocks_power (hp : s.powerSound) (hpump : st.figures.pumpLoad ≤ st.figures.budget) :
    let t := s.loadBlocks st r
    let total := st.figures.withFans
    let n := s.apa.fansGranted
    t.apa.yawGranted = 0 ∧ t.apa.shedPending = false ∧ t.apa.total ≤ st.figures.budget ∧
      if st.figures.budget < total n then
        t.apa.fanRequest = s.apa.fanRequest ∧ t.apa.fansGranted < n ∧ total t.apa.fansGranted ≤ st.figures.budget ∧
          st.figures.budget < total (t.apa.fansGranted + 1) ∧
          ∀ f, t.clc.runs f = lowestSet s.clc.runs t.apa.fansGranted f
      else if s.apa.fanRequest = true ∧ total (n + 1) ≤ st.figures.budget then
        t.apa.fanRequest = false ∧ t.apa.fansGranted = (if s.clc.fanToStart.isSome then n + 1 else n) ∧
          ∀ f, t.clc.runs f = (s.clc.runs f || s.clc.fanToStart == some f)
      else t.apa.fanRequest = s.apa.fanRequest ∧ t.apa.fansGranted = n ∧ t.clc.fans = s.clc.fans := by
  obtain ⟨hidle, hgranted, hrequest⟩ := yawSound_unloaded hu hy
  obtain ⟨hcount, -, -, -, -, hbudget, -⟩ := hp
  obtain ⟨v, hv, -, hapa, hfans⟩ := loadBlocks_idle st r hu hidle
  have hruns : v.clc.runs = s.clc.runs := by
    funext f
    simp only [Clc.runs, hfans]
  have hstart : v.clc.fanToStart = s.clc.fanToStart := by simp only [Clc.fanToStart, hfans]
  have hstill : (v.setApa { v.apa with figures := st.figures }).PowerStill :=
    { request := by simpa [hapa] using hrequest
      granted := by simpa [hapa] using hgranted
      budget := by simpa [hapa] using hbudget hu
      fans := by simpa [hruns, hapa, setCount_runs] using hcount
      pump := hpump }
  have hspec := shed_examine_spec hstill
  simp only [State.setApa_apa, State.setApa_clc, hruns, hstart, hfans, hapa] at hspec
  simp only [hv, State.loadPower, hapa]
  exact hspec

end

/-! ## The end of the read (R193, R197) -/

theorem exec_configReadComplete_good {dt : Clocks} {m b0 b1 b2 b3 : Byte} {rest : List Byte} {st : Staging} {s : State}
    (hl : s.osc.loader = .reading [m, b0, b1, b2, b3]) (hlen : rest.length = 256 * b0.toNat + b1.toNat - 2)
    (h4 : 4 ≤ 256 * b0.toNat + b1.toNat) (hj : judgeImage [b0, b1, b2, b3] rest s.osc.station = .good st) :
    (∀ q ∈ st.failures s.osc.station, q.2 = false) ∧ ∃ r, st.station = some r ∧
      exec (.configReadComplete dt rest) s = .next ((s.elapse dt).completeLoad st r) := by
  obtain ⟨-, -, hgood⟩ := judgeImage_good hj
  have h7 := hgood (7, st.station.isNone) (by simp [Staging.failures])
  obtain ⟨r, hr⟩ := Option.isSome_iff_exists.mp (Option.isNone_eq_false_iff.mp h7)
  have hlength : imageLength [b0, b1, b2, b3] = 256 * b0.toNat + b1.toNat := u16At_toNat _ 0
  have hbytes : rest.length = imageLength [b0, b1, b2, b3] - 4 + 2 := by rw [hlength]; omega
  refine ⟨hgood, r, hr, congrArg Host.Outcome.next ?_⟩
  simp only [State.configRest, State.elapse_osc, hl, hj, hr]
  exact if_pos hbytes

/-- Settles O53: the blocks take their parts of the image one by one, and no report or examination on the way moves what an
earlier block has taken. -/
theorem aGoodImageIsLoaded : Obligations.AGoodImageIsLoaded := by
  intro dt m b0 b1 b2 b3 rest st s hstate hl hlen h4 hj now
  obtain ⟨hgood, r, hr, hexec⟩ := exec_configReadComplete_good (dt := dt) hl hlen h4 hj
  have hu : (s.elapse dt).osc.state.isUnloaded = true := by rw [State.elapse_osc, hstate]; rfl
  have hbasis := loadBlocks_basis st r hu
  have hrested := loadBlocks_rested st r hu
  obtain ⟨o, hmodes, hosc⟩ := loadModes_eq ((s.elapse dt).loadBlocks st r) r
  rw [completeLoad_eq, hmodes] at hexec
  have hywc := fun hy : s.yawSound => loadBlocks_ywc st r hu hy
  have hpower := fun (hy : s.yawSound) (hp : s.powerSound) => loadBlocks_power st r hu hy hp (Staging.good_pump hgood)
  generalize (s.elapse dt).loadBlocks st r = g at *
  simp only [State.basis, Basis.mk.injEq] at hbasis
  obtain ⟨hclock, hptb, hscu, hcvp, hyaw, hcooling, hcts, hfigures, hgosc, hlost, hlimit⟩ := hbasis
  have hparams : g.clc.params = st.coolingParams := congrArg Clc.params hcooling
  refine ⟨g.setOsc o, r, hr, hexec, hclock, ?ptb, ?peerLost, ?scu, ?cvp, ?sectors, ?yaw, ?params, ?cooling, ?limit, ?cts,
    ?figures, ?power, ?osc⟩
  case ptb =>
    rw [State.setOsc_ptb, hptb]
    exact ⟨rfl, rfl, rfl, rfl, rfl, rfl⟩
  case peerLost => exact fun hnone hpeer => hlost.trans (loadPeers_peerLost (s := s.elapse dt) hnone hpeer)
  case scu =>
    rw [State.setOsc_scu, hscu]
    exact ⟨rfl, rfl, rfl, rfl, rfl, rfl, rfl⟩
  case cvp =>
    rw [State.setOsc_cvp, hcvp]
    exact ⟨strobeModeOf_eq _, rfl⟩
  case sectors =>
    intro k
    have hk : (g.setOsc o).ywc.sectors[k] = sectorOf st.sectors[k] := by
      have hsectors : g.ywc.sectors = mapTable st.sectors sectorOf := congrArg YawBasis.sectors hyaw
      rw [State.setOsc_ywc, hsectors, mapTable_get]
    rw [hk]
    cases hq : st.sectors[k] with
    | none => exact ⟨rfl, rfl, rfl⟩
    | some q => exact sectorOf_some (Staging.good_sectors hgood hq)
  case yaw =>
    obtain ⟨hwindow, hoffset, hsteering⟩ := hrested
    refine ⟨hwindow, congrArg YawBasis.misalignCount hyaw, hoffset, hsteering, congrArg YawBasis.twist hyaw,
      congrArg YawBasis.vaneInvalidDue hyaw, fun hy => ?_⟩
    obtain ⟨hidle, -, -⟩ := yawSound_unloaded (s := s) hu hy
    rw [State.setOsc_ywc, hywc hy]
    exact ⟨hidle, rfl, rfl, rfl, rfl, rfl⟩
  case params =>
    have hyawParams : g.ywc.params = r.yawParams := congrArg YawBasis.params hyaw
    refine ⟨fun k => ?_, congrArg YawBasis.evalDue hyaw, ?_⟩
    · have hoffsets : g.ywc.offsets = mapTable st.offsets (·.getD 0) := congrArg YawBasis.offsets hyaw
      rw [State.setOsc_ywc, hoffsets, mapTable_get]
    · rw [State.setOsc_ywc, State.setOsc_flm, hyawParams, hlimit, decide_eq_true_iff]
      exact ⟨rfl, rfl, rfl, rfl, rfl, congrArg YawBasis.hold hyaw, Iff.rfl⟩
  case cooling =>
    have hminFlow := congrArg Clc.minFlowInForce hcooling
    have hflowDue := congrArg Clc.flowDue hcooling
    rw [State.setOsc_clc, State.setOsc_cts, hparams, hcts]
    refine ⟨?_, hminFlow, hflowDue, ?_⟩
    · unfold Staging.coolingParams
      cases st.cooling <;> rfl
    · show (st.cooling.map (·.clockSel)).getD 2 = _
      cases st.cooling <;> rfl
  case limit =>
    obtain ⟨j, d, hj, hown, hrated⟩ := Staging.good_rated hgood
    refine ⟨j, d, hj, hown, ?_⟩
    rw [State.setOsc_clc, hparams]
    have hformed : g.clc.tOwn = ({ s.clc with params := st.coolingParams } : Clc).thermalLimit d.rated :=
      (congrArg Clc.tOwn hcooling).trans (by rw [← hrated]; rfl)
    exact hformed.trans (thermalLimit_eq _ _)
  case cts =>
    rw [State.setOsc_cts, hcts]
    exact ⟨rfl, rfl, withImage_channel st _⟩
  case figures =>
    rw [State.setOsc_apa, hfigures]
    unfold Staging.figures
    cases st.loads <;> rfl
  case power =>
    rw [State.setOsc_apa, hfigures]
    exact hpower
  case osc =>
    rw [hgosc, hclock] at hosc
    exact hosc

end Sys2Proof.Machine
end

section
/-! SUPPORT. What the moves of the arbiter and of the yaw states leave of the OSC, the SCU, the CVP, the budget in force and the
conditions of the codes that are not theirs. -/

namespace Sys2Proof.Machine

/-! ## The outlook -/

/-- The number of a code tells it. -/
theorem FaultCode.index_injective : Function.Injective FaultCode.index := by
  have hread (c : FaultCode) : faultCodes[c.index.val]? = some c := by cases c <;> rfl
  intro c d h
  exact Option.some.inj ((hread c).symm.trans ((congrArg (fun i : Fin 36 => faultCodes[i.val]?) h).trans (hread d)))

/-- The codes that the arbiter and the yaw states report by themselves (R115, R120, R166). -/
def FaultCode.ofArbiter (c : FaultCode) : Bool := c == .yawWaitPower || c == .yawStall || c == .auxOverride

/-- What ride-through and the operating states go by, and the arbiter and the yaw states leave in place. -/
structure Outlook where
  osc : Osc
  scu : Scu
  cvp : Cvp
  rideThrough : Bool
  trip : Bool
  holds : FaultCode → Bool

def State.outlook (s : State) : Outlook :=
  { osc := s.osc, scu := s.scu, cvp := s.cvp, rideThrough := s.apa.rideThrough, trip := s.flm.reaction.trip
    holds := fun c => c.ofArbiter || s.flm.holds c }

section
variable (s : State)

@[simp] theorem State.setYwc_outlook (y : Ywc) : (s.setYwc y).outlook = s.outlook := rfl
@[simp] theorem State.setClc_outlook (c : Clc) : (s.setClc c).outlook = s.outlook := rfl
@[simp] theorem State.setApa_outlook (a : Apa) : (s.setApa a).outlook = { s.outlook with rideThrough := a.rideThrough } := rfl

/-- The APA put back with the same budget in force. -/
@[simp] theorem State.outlook_apa : { s.outlook with rideThrough := s.apa.rideThrough } = s.outlook := rfl

/-- A report of a code of the arbiter, which none of them trips by. -/
theorem State.quiet_outlook {r : Report} (hr : r.code.ofArbiter = true) (ht : r.code.severity.trips = false) :
    (s.quiet r).outlook = s.outlook := by
  have htrip : (s.flm.take s.stamp r).reaction.trip = s.flm.reaction.trip :=
    Flm.take_any (fun c => c.severity.trips) s.flm s.stamp r ht
  have hholds (c : FaultCode) : (c.ofArbiter || (s.flm.take s.stamp r).holds c) = (c.ofArbiter || s.flm.holds c) := by
    by_cases hc : r.code.index = c.index
    · rw [← FaultCode.index_injective hc, hr, Bool.true_or, Bool.true_or]
    · rw [Flm.take_holds_other _ _ _ hc]
  simp only [State.outlook, State.quiet, State.setFlm_osc, State.setFlm_scu, State.setFlm_cvp, State.setFlm_apa,
    State.setFlm_flm, htrip, hholds]

@[simp] theorem State.quietGone_yawStall_outlook : (s.quietGone .yawStall).outlook = s.outlook := by
  simp only [State.quietGone]
  split
  · exact s.quiet_outlook rfl rfl
  · rfl

@[simp] theorem State.quietGone_yawWaitPower_outlook : (s.quietGone .yawWaitPower).outlook = s.outlook := by
  simp only [State.quietGone]
  split
  · exact s.quiet_outlook rfl rfl
  · rfl

@[simp] theorem State.quiet_auxOverride_outlook (v : Int) : (s.quiet (.event .auxOverride v)).outlook = s.outlook :=
  s.quiet_outlook rfl rfl

/-! ## The moves -/

@[simp] theorem State.stopFan_outlook : s.stopFan.outlook = s.outlook := by
  simp only [State.stopFan]
  split <;> rfl

@[simp] theorem State.grantFan_outlook : s.grantFan.outlook = s.outlook := by
  simp only [State.grantFan]
  split <;> rfl

@[simp] theorem State.tryFan_outlook : s.tryFan.outlook = s.outlook := by
  simp only [State.tryFan]
  split <;> simp

@[simp] theorem State.grantYaw_outlook (k : Nat) : (s.grantYaw k).outlook = s.outlook := by simp [State.grantYaw]

@[simp] theorem State.tryYaw_outlook : s.tryYaw.outlook = s.outlook := by
  simp only [State.tryYaw]
  split <;> simp

@[simp] theorem State.tryRequests_outlook : s.tryRequests.outlook = s.outlook := by
  simp only [State.tryRequests]
  split <;> simp

@[simp] theorem State.takeBackFans_outlook (n : Nat) : (s.takeBackFans n).outlook = s.outlook := by
  induction n generalizing s with
  | zero => rfl
  | succ n ih =>
    simp only [State.takeBackFans]
    split <;> simp [ih]

@[simp] theorem State.shed_outlook : s.shed.outlook = s.outlook := by
  simp only [State.shed, State.setApa_outlook]
  exact (State.outlook_apa _).trans (s.takeBackFans_outlook _)

@[simp] theorem State.yawToIdle_outlook : s.yawToIdle.outlook = s.outlook := by
  simp only [State.yawToIdle]
  split <;> simp

@[simp] theorem State.releaseYaw_outlook : s.releaseYaw.outlook = s.outlook := by
  simp only [State.releaseYaw]
  split <;> simp

@[simp] theorem State.endMove_outlook : s.endMove.outlook = s.outlook := by simp [State.endMove]

@[simp] theorem State.enterBrakeApply_outlook : s.enterBrakeApply.outlook = s.outlook := by
  simp only [State.enterBrakeApply]
  split <;> simp

@[simp] theorem State.withdrawYaw_outlook : s.withdrawYaw.outlook = s.outlook := by simp [State.withdrawYaw]

@[simp] theorem State.yawStopCause_outlook (b : Bool) : (s.yawStopCause b).outlook = s.outlook := by
  simp only [State.yawStopCause]
  split
  case h_1 => split <;> simp
  all_goals simp

@[simp] theorem State.overrideStop_outlook : s.overrideStop.outlook = s.outlook := by simp [State.overrideStop]

@[simp] theorem State.examine_outlook : s.examine.outlook = s.outlook := by
  simp only [State.examine]
  split <;> simp

@[simp] theorem State.releaseFan_outlook : s.releaseFan.outlook = s.outlook := by simp [State.releaseFan]

@[simp] theorem State.releaseFans_outlook (n : Nat) : (s.releaseFans n).outlook = s.outlook := by
  induction n generalizing s with
  | zero => rfl
  | succ n ih => simp [State.releaseFans, ih]

/-- R167: the budget in force changes, and the arbiter sheds or stops the move. -/
theorem State.apaEnterRideThrough_outlook : s.apaEnterRideThrough.outlook = { s.outlook with rideThrough := true } := by
  simp only [State.apaEnterRideThrough]
  split <;> simp

/-- R169. -/
theorem State.apaLeaveRideThrough_outlook : s.apaLeaveRideThrough.outlook = { s.outlook with rideThrough := false } := by
  simp [State.apaLeaveRideThrough]

end

end Sys2Proof.Machine
end

section
/-! SUPPORT. What the moves of the OSC keep: the enable and the timers of its states (R199), the limit of 0 in a disabled block
(R79, R80), and the agreement of the blocks on ride-through (R76, R97, R100). -/

namespace Sys2Proof.Machine

/-! ## The agreement on ride-through -/

/-- What the SCU, the APA and the CVP hold of a ride-through. -/
structure Riding where
  hold : Bool
  budget : Bool
  rideThrough : Bool
  entryTime : Clocks
  lowest : Nat
  curveDue : Option Clocks
  recoveryDue : Option Clocks

def State.riding (s : State) : Riding :=
  { hold := s.scu.hold, budget := s.apa.rideThrough, rideThrough := s.cvp.rideThrough, entryTime := s.cvp.entryTime
    lowest := s.cvp.lowest, curveDue := s.cvp.curveDue, recoveryDue := s.cvp.recoveryDue }

/-- R97, R100: the same ride-through, and no passage of the OSC into RIDE_THROUGH. -/
theorem rideThroughSound_of_riding {s t : State} (hr : t.riding = s.riding)
    (hs : t.osc.state = .rideThrough → s.osc.state = .rideThrough) (h : s.rideThroughSound) : t.rideThroughSound := by
  simp only [State.riding, Riding.mk.injEq] at hr
  obtain ⟨hhold, hbudget, hride, -, -, hcurve, hrecovery⟩ := hr
  obtain ⟨h1, h2, h3, h4, h5⟩ := h
  rw [State.rideThroughSound, hhold, hbudget, hride, hcurve, hrecovery]
  exact ⟨h1, h2, h3, h4, fun h => h5 (hs h)⟩

/-! ## Setpoint blocks (R79, R80, R91, R92) -/

/-- R79, R80: what `limitsSound` asks of the CVP. -/
def Cvp.limited (c : Cvp) : Prop :=
  (c.backEnable = false → c.backLimit = 0) ∧ (c.front.enable = false → c.front.exportLimit = 0)

theorem limitsSound_iff (s : State) : s.limitsSound ↔ (s.scu.enable = false → s.scu.eLim = 0) ∧ s.cvp.limited := Iff.rfl

theorem Cvp.limited.swap {c : Cvp} (now : Clocks) (h : c.limited) : (c.swap now).limited := by
  obtain ⟨hback, -⟩ := h
  rw [swap_eq_swapped]
  refine ⟨hback, fun he => ?_⟩
  have hlimit : c.backLimit = 0 := hback he
  simp [Cvp.swapped, hlimit]

theorem Cvp.limited.pendingSwap {c : Cvp} (now : Clocks) (h : c.limited) : (c.pendingSwap now).limited := by
  simp only [Cvp.pendingSwap]
  split
  · exact h.swap now
  · exact h

theorem Cvp.limited.writeBlock {c : Cvp} (now : Clocks) {e : Bool} {n : Nat} (hn : e = false → n = 0) (h : c.limited) :
    (c.writeBlock now e n).limited := by
  have hback : ({ c with backEnable := e, backLimit := n } : Cvp).limited := ⟨hn, h.2⟩
  simp only [Cvp.writeBlock]
  split
  · exact hback
  · exact hback.swap now

section
variable (c : Cvp) (now : Clocks)

@[simp] theorem Cvp.swap_rideThrough : (c.swap now).rideThrough = c.rideThrough := by rw [swap_eq_swapped]; rfl
@[simp] theorem Cvp.swap_entryTime : (c.swap now).entryTime = c.entryTime := by rw [swap_eq_swapped]; rfl
@[simp] theorem Cvp.swap_lowest : (c.swap now).lowest = c.lowest := by rw [swap_eq_swapped]; rfl
@[simp] theorem Cvp.swap_curveDue : (c.swap now).curveDue = c.curveDue := by rw [swap_eq_swapped]; rfl
@[simp] theorem Cvp.swap_recoveryDue : (c.swap now).recoveryDue = c.recoveryDue := by rw [swap_eq_swapped]; rfl

end

section
variable (s : State)

theorem State.setCvp_swap_riding (c : Cvp) (now : Clocks) : (s.setCvp (c.swap now)).riding = (s.setCvp c).riding := by
  simp [State.riding]

theorem State.setCvp_pendingSwap_riding (c : Cvp) (now : Clocks) :
    (s.setCvp (c.pendingSwap now)).riding = (s.setCvp c).riding := by
  simp only [Cvp.pendingSwap]
  split
  · exact s.setCvp_swap_riding c now
  · rfl

@[simp] theorem State.handBlock_riding (e : Bool) (n : Nat) : (s.handBlock e n).riding = s.riding := by
  simp only [State.handBlock, Cvp.writeBlock]
  split
  · rfl
  · exact s.setCvp_swap_riding _ _

theorem State.handBlock_limits {e : Bool} {n : Nat} (hn : e = false → n = 0) (h : s.limitsSound) :
    (s.handBlock e n).limitsSound := by
  obtain ⟨hscu, hcvp⟩ := (limitsSound_iff s).mp h
  exact (limitsSound_iff _).mpr ⟨hscu, hcvp.writeBlock s.clock hn⟩

/-! ## The converter enable (R199) -/

@[simp] theorem State.enableOff_riding : s.enableOff.riding = s.riding := by
  simp only [State.enableOff]
  split
  · exact State.handBlock_riding _ _ _
  · rfl

theorem State.enableOff_limits (h : s.limitsSound) : s.enableOff.limitsSound := by
  simp only [State.enableOff]
  split
  · refine State.handBlock_limits _ (fun _ => rfl) ?_
    obtain ⟨-, hcvp⟩ := (limitsSound_iff s).mp h
    exact (limitsSound_iff _).mpr ⟨fun _ => rfl, hcvp⟩
  · exact h

/-! ## The entry to TRIPPED (R204, R206) -/

@[simp] theorem State.quietGone_riding (c : FaultCode) : (s.quietGone c).riding = s.riding := by
  simp only [State.quietGone]; split <;> rfl

/-- R206: the trip list with this entry. -/
def State.trips (s : State) : List Stamp := enterTrip s.osc.tripList s.stamp

/-- R206: the fault manager with RESTART_LIMIT reported where the list has become full. -/
def State.limitNoted (s : State) : Flm :=
  if s.trips.length = 4 then s.flm.take s.stamp (.present .restartLimit (s.trips.headD 0).toNat) else s.flm

/-- R206: what an entry to TRIPPED notes. -/
theorem noteTrip_eq : s.noteTrip = { s with
    flm := s.limitNoted
    osc := { s.osc with
      tripList := s.trips, listDue := s.trips.head?.map (listDueFor s.clock)
      restartDue := if s.trips.length = 4 then none else s.osc.restartDue } } := by
  have htrips : enterTrip s.osc.tripList s.stamp = s.trips := rfl
  simp only [State.noteTrip, State.limitNoted, htrips]
  split
  · next oldest rest hl =>
    simp only [hl, List.headD_cons]
    split <;> rfl
  · next hl =>
    simp only [hl]
    rfl

/-- R172: the fault manager after a gone report made only where the code was reported present. -/
def Flm.goneIf (f : Flm) (now : Stamp) (c : FaultCode) : Flm := if f.holds c then f.take now (.gone c) else f

theorem quietGone_eq (c : FaultCode) : s.quietGone c = s.setFlm (s.flm.goneIf s.stamp c) := by
  simp only [State.quietGone, Flm.goneIf]; split <;> rfl

/-- R201, R206: the fault manager after an entry to TRIPPED. -/
def State.trippedFlm (s : State) : Flm := s.limitNoted.goneIf s.stamp .startTimeout

/-- R204, R206: the turn-off, and the OSC in TRIPPED. -/
theorem enterTripped_eq : s.enterTripped = { s.enableOff with
    flm := s.trippedFlm
    osc := { s.osc with
      state := .tripped, enable := false, startDue := none, stopDue := none
      restartDue := if s.trips.length = 4 ∨ s.flm.reaction.trip = true then none else some (s.clock + ms 60000)
      tripList := s.trips, listDue := s.trips.head?.map (listDueFor s.clock) } } := by
  let u := s.enableOff.setOsc { s.enableOff.osc with
    state := .tripped, startDue := none, stopDue := none
    restartDue := if s.enableOff.flm.reaction.trip then none else some (s.enableOff.after (ms 60000)) }
  have hu : s.enterTripped = u.noteTrip.quietGone .startTimeout := rfl
  have hosc : u.osc = { s.osc with
      state := .tripped, enable := false, startDue := none, stopDue := none
      restartDue := if s.flm.reaction.trip then none else some (s.clock + ms 60000) } := by
    simp only [u, State.setOsc_osc, enableOff_osc, State.enableOff_flm, State.after, State.enableOff_clock]
  have hstamp : u.stamp = s.stamp := by simp [State.stamp, u]
  have htrips : u.trips = s.trips := by rw [State.trips, hosc, hstamp]; rfl
  have hnoted : u.limitNoted = s.limitNoted := by simp only [State.limitNoted, htrips, hstamp]; simp [u]
  have hnote : u.noteTrip.stamp = s.stamp := by simp [State.stamp, u]
  rw [hu, quietGone_eq, hnote, noteTrip_eq, htrips, hosc, hnoted]
  have hclock : u.clock = s.clock := by simp [u]
  rw [hclock]
  by_cases h4 : s.trips.length = 4 <;> by_cases htrip : s.flm.reaction.trip = true <;>
    simp [h4, htrip, u, State.setOsc, State.setFlm, State.trippedFlm]

end

end Sys2Proof.Machine
end

section
/-! SUPPORT. The moves of the OSC and the reports keep the modes sound (R181, R199 to R207). -/

namespace Sys2Proof.Machine

/-! ## The OSC by itself (R199) -/

/-- What `modesSound` asks of the OSC. -/
def Osc.sound (o : Osc) : Prop :=
  o.enable = o.state.isProducing ∧ (o.startDue.isSome → o.state = .starting) ∧ (o.stopDue.isSome → o.state = .stopping) ∧
    (o.restartDue.isSome → o.state = .tripped) ∧ (o.loader ≠ .idle → o.state = .loading)

theorem modesSound_iff (s : State) : s.modesSound ↔ s.osc.sound := Iff.rfl

namespace Osc.sound
variable {o : Osc} (h : o.sound)
include h

theorem loader_idle (hs : o.state ≠ .loading) : o.loader = .idle := by
  obtain ⟨-, -, -, -, hload⟩ := h
  by_contra hne
  exact hs (hload hne)

theorem startDue_none (hs : o.state ≠ .starting) : o.startDue = none := by
  obtain ⟨-, hstart, -⟩ := h
  exact Option.not_isSome_iff_eq_none.mp fun hx => hs (hstart hx)

theorem stopDue_none (hs : o.state ≠ .stopping) : o.stopDue = none := by
  obtain ⟨-, -, hstop, -⟩ := h
  exact Option.not_isSome_iff_eq_none.mp fun hx => hs (hstop hx)

theorem restartDue_none (hs : o.state ≠ .tripped) : o.restartDue = none := by
  obtain ⟨-, -, -, hrestart, -⟩ := h
  exact Option.not_isSome_iff_eq_none.mp fun hx => hs (hrestart hx)

end Osc.sound

/-- An OSC whose loader is idle and whose timers run in their states. -/
theorem Osc.sound_of {o : Osc} (he : o.enable = o.state.isProducing) (h1 : o.state ≠ .starting → o.startDue = none)
    (h2 : o.state ≠ .stopping → o.stopDue = none) (h3 : o.state ≠ .tripped → o.restartDue = none)
    (hl : o.loader = .idle) : o.sound := by
  refine ⟨he, fun h => ?_, fun h => ?_, fun h => ?_, fun h => absurd hl h⟩
  · by_contra hne
    simp [h1 hne] at h
  · by_contra hne
    simp [h2 hne] at h
  · by_contra hne
    simp [h3 hne] at h

/-! ## The modes kept -/

/-- From `s` to `t` the three predicates of the modes are kept. -/
def ModesKept (s t : State) : Prop :=
  (s.modesSound → t.modesSound) ∧ (s.limitsSound → t.limitsSound) ∧
    (s.modesSound → s.rideThroughSound → t.rideThroughSound)

namespace ModesKept
variable {r s t u : State}

theorem refl (s : State) : ModesKept s s := ⟨id, id, fun _ => id⟩

theorem trans (h : ModesKept r s) (g : ModesKept s t) : ModesKept r t := by
  obtain ⟨hm, hl, hr⟩ := h
  obtain ⟨gm, gl, gr⟩ := g
  exact ⟨gm ∘ hm, gl ∘ hl, fun m k => gr (hm m) (hr m k)⟩

/-- A move that leaves the ride-through as it is. -/
theorem move (h : ModesKept r s) (hm : s.osc.sound → t.osc.sound) (hl : s.limitsSound → t.limitsSound)
    (hr : t.riding = s.riding) (hs : t.osc.state = .rideThrough → s.osc.state = .rideThrough) : ModesKept r t :=
  h.trans ⟨hm, hl, fun _ => rideThroughSound_of_riding hr hs⟩

/-- A move of the OSC alone. -/
theorem setOsc {o : Osc} (h : ModesKept r s) (hm : s.osc.sound → o.sound)
    (hs : o.state = .rideThrough → s.osc.state = .rideThrough) : ModesKept r (s.setOsc o) := h.move hm id rfl hs

/-- R199: a turn-off, and what the OSC does with it. -/
theorem turnOff {o : Osc} (h : ModesKept r s) (hm : s.osc.sound → o.sound) (hs : o.state ≠ .rideThrough) :
    ModesKept r (s.enableOff.setOsc o) :=
  h.move hm (fun hl => s.enableOff_limits hl) s.enableOff_riding fun k => absurd k hs

/-- A move of the blocks beyond. -/
theorem outlook (h : ModesKept r s) (ho : t.outlook = s.outlook) : ModesKept r t := by
  simp only [State.outlook, Outlook.mk.injEq] at ho
  obtain ⟨hosc, hscu, hcvp, hride, -, -⟩ := ho
  have hl : t.limitsSound = s.limitsSound := by simp only [State.limitsSound, hscu, hcvp]
  exact h.move (by rw [hosc]; exact id) (by rw [hl]; exact id) (by simp only [State.riding, hscu, hcvp, hride])
    (by rw [hosc]; exact id)

theorem yawStopCause (h : ModesKept r s) (b : Bool) : ModesKept r (s.yawStopCause b) := h.outlook (s.yawStopCause_outlook b)
theorem examine (h : ModesKept r s) : ModesKept r s.examine := h.outlook s.examine_outlook
theorem shed (h : ModesKept r s) : ModesKept r s.shed := h.outlook s.shed_outlook
theorem enterBrakeApply (h : ModesKept r s) : ModesKept r s.enterBrakeApply := h.outlook s.enterBrakeApply_outlook
theorem endMove (h : ModesKept r s) : ModesKept r s.endMove := h.outlook s.endMove_outlook
theorem releaseFans (h : ModesKept r s) (n : Nat) : ModesKept r (s.releaseFans n) := h.outlook (s.releaseFans_outlook n)

/-! ## The moves of the OSC -/

/-- R201: a start from STANDBY, where no timer runs and the loader is idle. -/
theorem testStart (h : ModesKept r s) : ModesKept r s.testStart := by
  simp only [State.testStart]
  split
  · next hstart =>
    obtain ⟨hs, -⟩ := hstart
    refine h.setOsc (fun ho => ?_) (fun k => by cases k)
    refine Osc.sound_of rfl (fun k => absurd rfl k) (fun _ => ?_) (fun _ => ?_) ?_
    · exact ho.stopDue_none (by rw [hs]; decide)
    · exact ho.restartDue_none (by rw [hs]; decide)
    · exact ho.loader_idle (by rw [hs]; decide)
  · exact h

/-- R203, R205, R207: an entry to STANDBY with the enable off. -/
theorem enterStandby (h : ModesKept r s) (he : s.osc.sound → s.osc.enable = false)
    (hl : s.osc.sound → s.osc.state ≠ .loading) :
    ModesKept r s.enterStandby :=
  (h.setOsc (o := { s.osc with state := .standby, startDue := none, stopDue := none, restartDue := none })
    (fun ho => Osc.sound_of (he ho) (fun _ => rfl) (fun _ => rfl) (fun _ => rfl) (ho.loader_idle (hl ho)))
    (fun k => by cases k)).testStart

/-- R200, R203: an entry to STANDBY by a turn-off. -/
theorem endStopping (h : ModesKept r s) (hl : s.osc.sound → s.osc.state ≠ .loading) : ModesKept r s.endStopping := by
  refine (h.turnOff (o := { s.enableOff.osc with state := .standby, startDue := none, stopDue := none, restartDue := none })
    (fun ho => ?_) (by simp)).testStart
  rw [enableOff_osc]
  exact Osc.sound_of rfl (fun _ => rfl) (fun _ => rfl) (fun _ => rfl) (ho.loader_idle (hl ho))

/-- R204: an entry to TRIPPED. -/
theorem enterTripped (h : ModesKept r s) (hl : s.osc.state ≠ .loading) : ModesKept r s.enterTripped := by
  rw [enterTripped_eq]
  exact h.turnOff (fun ho => Osc.sound_of rfl (fun _ => rfl) (fun _ => rfl) (fun k => absurd rfl k) (ho.loader_idle hl))
    (by simp)

theorem oscTripHolds (h : ModesKept r s) : ModesKept r s.oscTripHolds := by
  simp only [State.oscTripHolds]
  split
  case h_1 hs | h_2 hs | h_3 hs | h_4 hs =>
    split
    · exact h
    · exact h.enterTripped (by rw [hs]; decide)
  case h_5 hs =>
    refine h.setOsc (fun ho => ?_) id
    obtain ⟨he, h1, h2, -, hl⟩ := ho
    exact ⟨he, h1, h2, fun k => (by cases k), hl⟩
  all_goals exact h

theorem oscTripCeases (h : ModesKept r s) : ModesKept r s.oscTripCeases := by
  simp only [State.oscTripCeases]
  split
  case h_1 hs =>
    refine h.setOsc (fun ho => ?_) id
    obtain ⟨he, h1, h2, -, hl⟩ := ho
    exact ⟨he, h1, h2, fun _ => hs, hl⟩
  case h_2 => exact h.testStart
  all_goals exact h

/-- R207: an entry to SAFE_STOP. -/
theorem enterSafeStop (h : ModesKept r s) (hl : s.osc.state ≠ .loading) :
    ModesKept r (s.enableOff.setOsc
      { s.enableOff.osc with state := .safeStop, startDue := none, stopDue := none, restartDue := none }) := by
  refine h.turnOff (fun ho => ?_) (by simp)
  rw [enableOff_osc]
  exact Osc.sound_of rfl (fun _ => rfl) (fun _ => rfl) (fun _ => rfl) (ho.loader_idle hl)

theorem oscSafeStopHolds (h : ModesKept r s) : ModesKept r s.oscSafeStopHolds := by
  simp only [State.oscSafeStopHolds]
  split
  case h_1 hs | h_2 hs | h_3 hs | h_4 hs | h_5 hs | h_6 hs => exact h.enterSafeStop (by rw [hs]; decide)
  all_goals exact h

/-! ## Reports (R181) -/

theorem ite {c : Prop} [Decidable c] (h : ModesKept r s) (g : ModesKept r t) : ModesKept r (if c then s else t) := by
  split
  · exact h
  · exact g

theorem tell (h : ModesKept r s) (before : Reaction) : ModesKept r (s.tell before) := by
  have hyaw : ModesKept r (if yawStopArises before s.flm.reaction s.ywc.move then s.yawStopCause true else s) :=
    .ite (h.yawStopCause true) h
  have htrip := ModesKept.ite (c := s.flm.reaction.trip && !before.trip) hyaw.oscTripHolds hyaw
  have hsafe := ModesKept.ite (c := s.flm.reaction.safeStop && !before.safeStop) htrip.oscSafeStopHolds htrip
  exact .ite (c := before.trip && !s.flm.reaction.trip) hsafe.oscTripCeases hsafe

theorem report (h : ModesKept r s) (x : Report) : ModesKept r (s.report x) :=
  ModesKept.tell (s := s.quiet x) h _

theorem reportGone (h : ModesKept r s) (c : FaultCode) : ModesKept r (s.reportGone c) := .ite (h.report _) h

theorem reportBitmap (h : ModesKept r s) (c : FaultCode) (a b : Nat) : ModesKept r (s.reportBitmap c a b) :=
  .ite h (.ite (h.report _) (h.report _))

theorem watchFlow {act : State → State} (h : ModesKept r (act s)) : ModesKept r (s.watchFlow act) :=
  .ite h h.testStart

end ModesKept

end Sys2Proof.Machine
end

section
/-! SUPPORT. The control period, the converter port, ride-through and the arrival keep the modes sound (R79 to R103,
R201 to R203). -/

namespace Sys2Proof.Machine

namespace ModesKept
variable {r s t : State}

/-- A timer that has run out. -/
theorem atDue {act : State → State} (h : ModesKept r s) (due : Option Clocks)
    (ha : ∀ t, due = some t → ModesKept r (s.runTo t) → ModesKept r (act (s.runTo t))) : ModesKept r (s.atDue due act) := by
  cases due with
  | none => exact h
  | some t => exact ha t rfl h

/-! ## The share (R63, R79, R81) -/

theorem computeShare_limited (s : State) (h : s.computeShare.enable = false) : s.computeShare.eLim = 0 := by
  have he : s.osc.enable = false := h
  exact if_neg (by rw [he]; decide)

theorem controlPeriod (h : ModesKept r s) : ModesKept r s.controlPeriod := by
  refine h.atDue _ fun t _ ht => ht.move id (fun hl => ?_) (State.handBlock_riding _ _ _) id
  obtain ⟨-, hcvp⟩ := (limitsSound_iff _).mp hl
  exact State.handBlock_limits _ (computeShare_limited _) ((limitsSound_iff _).mpr ⟨computeShare_limited _, hcvp⟩)

/-! ## The port (R84 to R91) -/

theorem pendingSwap {c : Cvp} (h : ModesKept r (s.setCvp c)) (now : Clocks) :
    ModesKept r (s.setCvp (c.pendingSwap now)) := by
  refine h.move id (fun hl => ?_) (s.setCvp_pendingSwap_riding c now) id
  obtain ⟨hscu, hcvp⟩ := (limitsSound_iff _).mp hl
  exact (limitsSound_iff _).mpr ⟨hscu, hcvp.pendingSwap now⟩

theorem assertSelect (h : ModesKept r s) : ModesKept r (s.setCvp s.cvp.assertSelect) := by
  simp only [Cvp.assertSelect]
  split
  · exact h
  · split
    case h_1 => split <;> exact h
    all_goals exact h

theorem releaseSelect (h : ModesKept r s) (now : Clocks) : ModesKept r (s.setCvp (s.cvp.releaseSelect now)) := by
  simp only [Cvp.releaseSelect]
  split
  · exact h
  · split
    case h_1 =>
      split
      · exact h
      · exact ModesKept.pendingSwap (by exact h) now
    case h_2 => split <;> exact h
    all_goals exact h

theorem pauseTimer (h : ModesKept r s) : ModesKept r s.pauseTimer := by
  refine h.atDue _ fun t _ ht => ?_
  split
  case h_1 => exact ModesKept.report (ModesKept.pendingSwap (by exact ht) _) _
  all_goals exact ht

/-! ## Ride-through (R97 to R100) -/

/-- R97: an entry from PRODUCING. -/
theorem enterRideThrough (h : ModesKept r s) (v : Nat) (hs : s.osc.state = .producing) :
    ModesKept r (s.enterRideThrough v) := by
  let c : Cvp := { s.cvp with
    rideThrough := true, entryTime := s.clock, lowest := v, curveDue := some (s.clock + allowedTime v), recoveryDue := none }
  let u : State := ((s.setCvp c).setOsc { s.osc with state := .rideThrough }).setScu
    { s.scu with hold := true, dHold := s.scu.announced }
  have hu : s.enterRideThrough v = u.apaEnterRideThrough.report (.present .rideThroughEvent v) := rfl
  rw [hu]
  refine ModesKept.report (h.trans ?_) _
  have hout := u.apaEnterRideThrough_outlook
  generalize u.apaEnterRideThrough = w at hout ⊢
  simp only [State.outlook, Outlook.mk.injEq] at hout
  obtain ⟨hosc, hscu, hcvp, hride, -, -⟩ := hout
  refine ⟨fun hm => ?_, fun hl => ?_, fun _ _ => ?_⟩
  · rw [modesSound_iff, hosc]
    obtain ⟨he, -, -, -, -⟩ := (modesSound_iff s).mp hm
    have ho := (modesSound_iff s).mp hm
    refine Osc.sound_of (he.trans (by rw [hs]; rfl)) (fun _ => ?_) (fun _ => ?_) (fun _ => ?_) ?_
    · exact ho.startDue_none (by rw [hs]; decide)
    · exact ho.stopDue_none (by rw [hs]; decide)
    · exact ho.restartDue_none (by rw [hs]; decide)
    · exact ho.loader_idle (by rw [hs]; decide)
  · rw [limitsSound_iff, hscu, hcvp]
    exact hl
  · rw [State.rideThroughSound, hosc, hscu, hcvp, hride]
    exact ⟨rfl, rfl, rfl, fun _ => rfl, fun _ => rfl⟩

/-- R202: the OSC has left RIDE_THROUGH. -/
theorem oscLeaveRideThrough_state (s : State) (trip : Bool) : (s.oscLeaveRideThrough trip).osc.state ≠ .rideThrough := by
  simp only [State.oscLeaveRideThrough]
  split
  case h_1 =>
    split
    · rw [enterTripped_eq]
      exact (by decide : OpState.tripped ≠ .rideThrough)
    · exact (by decide : OpState.producing ≠ .rideThrough)
  all_goals
    next hs => rw [hs]; decide

theorem oscLeaveRideThrough_riding (s : State) (trip : Bool) : (s.oscLeaveRideThrough trip).riding = s.riding := by
  simp only [State.oscLeaveRideThrough]
  split
  case h_1 =>
    split
    · rw [enterTripped_eq]
      exact s.enableOff_riding
    · rfl
  all_goals rfl

theorem oscLeaveRideThrough_modes (hm : s.osc.sound) (trip : Bool) : (s.oscLeaveRideThrough trip).osc.sound := by
  simp only [State.oscLeaveRideThrough]
  split
  case h_1 hs =>
    obtain ⟨he, -⟩ := id hm
    split
    · obtain ⟨hmodes, -⟩ := (ModesKept.refl s).enterTripped (by rw [hs]; decide)
      exact hmodes hm
    · refine Osc.sound_of (he.trans (by rw [hs]; rfl)) (fun _ => ?_) (fun _ => ?_) (fun _ => ?_) ?_
      · exact hm.startDue_none (by rw [hs]; decide)
      · exact hm.stopDue_none (by rw [hs]; decide)
      · exact hm.restartDue_none (by rw [hs]; decide)
      · exact hm.loader_idle (by rw [hs]; decide)
  all_goals exact hm

theorem oscLeaveRideThrough_limits (hl : s.limitsSound) (trip : Bool) : (s.oscLeaveRideThrough trip).limitsSound := by
  simp only [State.oscLeaveRideThrough]
  split
  case h_1 hs =>
    split
    · obtain ⟨-, hlimits, -⟩ := (ModesKept.refl s).enterTripped (by rw [hs]; decide)
      exact hlimits hl
    · exact hl
  all_goals exact hl

/-- R100: whatever the blocks held before, none holds a ride-through after. -/
theorem leaveRideThrough (h : ModesKept r s) (trip : Bool) : ModesKept r (s.leaveRideThrough trip) := by
  let u : State := (s.setCvp { s.cvp with rideThrough := false, recoveryDue := none, curveDue := none }).setScu
    { s.scu with hold := false }
  have hu : s.leaveRideThrough trip = (u.apaLeaveRideThrough.oscLeaveRideThrough trip).report (.gone .rideThroughEvent) := rfl
  rw [hu]
  refine ModesKept.report (h.trans ?_) _
  have hout := u.apaLeaveRideThrough_outlook
  generalize u.apaLeaveRideThrough = w at hout ⊢
  simp only [State.outlook, Outlook.mk.injEq] at hout
  obtain ⟨hosc, hscu, hcvp, hride, -, -⟩ := hout
  refine ⟨fun hm => ?_, fun hl => ?_, fun _ _ => ?_⟩
  · exact oscLeaveRideThrough_modes (by rw [hosc]; exact hm) trip
  · exact oscLeaveRideThrough_limits (by rw [limitsSound_iff, hscu, hcvp]; exact hl) trip
  · have hr := oscLeaveRideThrough_riding w trip
    simp only [State.riding, hscu, hcvp, hride, Riding.mk.injEq] at hr
    obtain ⟨hhold, hbudget, hriding, -, -, hcurve, hrecovery⟩ := hr
    rw [State.rideThroughSound, hhold, hbudget, hriding, hcurve, hrecovery]
    exact ⟨rfl, rfl, rfl, fun k => (by cases k), fun k => absurd k (oscLeaveRideThrough_state w trip)⟩

theorem curveReached (h : ModesKept r s) : ModesKept r s.curveReached := (h.report _).leaveRideThrough true

/-- R98, R99: during a ride-through the deadline and the recovery timer may move. -/
theorem setTimers {c : Cvp} (h : ModesKept r s) (hc : c = { s.cvp with
      lowest := c.lowest, curveDue := c.curveDue, recoveryDue := c.recoveryDue })
    (hride : s.cvp.rideThrough = true) (hd : s.cvp.curveDue.isSome → c.curveDue.isSome) : ModesKept r (s.setCvp c) := by
  refine h.trans ⟨id, fun hl => ?_, fun _ hr => ?_⟩
  · rw [hc]
    exact hl
  · obtain ⟨h1, h2, h3, -, h5⟩ := hr
    rw [hc]
    exact ⟨h1, h2, (hd (h3.trans hride)).trans hride.symm, fun _ => hride, h5⟩

theorem recover (h : ModesKept r s) (v : Nat) (hride : s.cvp.rideThrough = true) :
    ModesKept r (s.setCvp (s.cvp.recover s.clock v)) := h.setTimers rfl hride id

theorem arrivalInRideThrough (h : ModesKept r s) (v : Nat) (hride : s.cvp.rideThrough = true) :
    ModesKept r (s.arrivalInRideThrough v) := by
  have hlow : ModesKept r (s.setCvp (s.cvp.lower v)) := h.setTimers rfl hride fun _ => rfl
  exact .ite (.ite hlow.curveReached (hlow.recover v hride)) (h.recover v hride)

theorem judgeOvervoltage (h : ModesKept r s) (v : Nat) : ModesKept r (s.judgeOvervoltage v) := by
  simp only [State.judgeOvervoltage]
  split
  · split <;> exact h
  · exact ModesKept.reportGone (by exact h) _

theorem judgeVoltage (h : ModesKept r s) : ModesKept r s.judgeVoltage := by
  have hgone := ModesKept.ite (c := 900 ≤ s.cvp.voltage) (h.reportGone .gridUndervoltageTrip) h
  simp only [State.judgeVoltage]
  generalize (if 900 ≤ s.cvp.voltage then s.reportGone .gridUndervoltageTrip else s) = u at hgone ⊢
  refine ModesKept.judgeOvervoltage ?_ _
  split
  · next hride => exact hgone.arrivalInRideThrough _ hride
  · split
    · next hdip => exact hgone.enterRideThrough _ hdip.2
    · exact hgone

/-! ## The arrival (R94, R201, R203) -/

theorem oscArrival (h : ModesKept r s) : ModesKept r s.oscArrival := by
  have hseen : ModesKept r (s.setOsc { s.osc with arrivalSeen := true }) := h
  simp only [State.oscArrival]
  split
  case h_1 => exact hseen.testStart
  case h_2 hs =>
    refine .ite (hseen.setOsc (fun ho => ?_) fun k => by cases k) hseen
    obtain ⟨he, -⟩ := id ho
    refine Osc.sound_of (he.trans (by rw [hs]; rfl)) (fun _ => rfl) (fun _ => ?_) (fun _ => ?_) ?_
    · exact ho.stopDue_none (by rw [hs]; decide)
    · exact ho.restartDue_none (by rw [hs]; decide)
    · exact ho.loader_idle (by rw [hs]; decide)
  case h_3 hs => exact .ite (hseen.endStopping fun _ => by rw [hs]; decide) hseen
  all_goals exact hseen

theorem arrival (h : ModesKept r s) (bytes : List Byte) : ModesKept r (s.arrival bytes) := by
  refine ModesKept.oscArrival (ModesKept.judgeVoltage ?_)
  have hgone : ModesKept r (State.reportGone
      (s.setCvp { s.cvp with measurement := readMeasurement bytes, silenceDue := some (s.after (ms 60)) })
      .converterPortSilent) := ModesKept.reportGone (by exact h) _
  exact .ite (hgone.reportGone _) (hgone.report _)

theorem portByte (h : ModesKept r s) (b : Byte) : ModesKept r (s.portByte b) := by
  simp only [State.portByte]
  split
  case h_1 =>
    simp only [Cvp.takeType]
    repeat' split
    all_goals exact h
  case h_2 => exact .ite h (ModesKept.pendingSwap (by exact h) _)
  case h_3 => exact .ite h (ModesKept.arrival (by exact h) _)
  all_goals exact h

theorem edge (h : ModesKept r s) (bit : Bool) : ModesKept r (s.edge bit) := by
  have hbit : ModesKept r (s.setCvp (s.cvp.takeBit bit)) := by
    simp only [Cvp.takeBit]
    split <;> exact h
  exact .ite (.ite hbit (hbit.portByte _)) h

theorem namedEdge (h : ModesKept r s) (e : PortEdge) (bit : Bool) : ModesKept r (s.namedEdge e bit) := .ite (h.edge bit) h

/-! ## Timers of the port -/

theorem strobeTimer (h : ModesKept r s) : ModesKept r s.strobeTimer := h.atDue _ fun _ _ ht => ht

theorem silenceTimer (h : ModesKept r s) : ModesKept r s.silenceTimer :=
  h.atDue _ fun _ _ ht => ModesKept.report (by exact ht) _

theorem curveDeadline (h : ModesKept r s) : ModesKept r s.curveDeadline := h.atDue _ fun _ _ ht => ht.curveReached

theorem recoveryTimer (h : ModesKept r s) : ModesKept r s.recoveryTimer := h.atDue _ fun _ _ ht => ht.leaveRideThrough false

theorem overvoltageTimer (h : ModesKept r s) : ModesKept r s.overvoltageTimer :=
  h.atDue _ fun _ _ ht => ModesKept.report (by exact ht) _

end ModesKept

end Sys2Proof.Machine
end

section
/-! SUPPORT. The link, the peer table, yaw, cooling and sensing keep the modes sound: they reach the OSC by
reports alone (R181). -/

namespace Sys2Proof.Machine

namespace ModesKept
variable {r s t : State}

/-! ## The line and own frames -/

theorem idleGap (h : ModesKept r s) : ModesKept r s.idleGap := by
  simp only [State.idleGap]
  split <;> exact h

theorem boundary (h : ModesKept r s) : ModesKept r s.boundary := by
  simp only [State.boundary]
  split <;> exact h

theorem arbitrationStart (h : ModesKept r s) : ModesKept r s.arbitrationStart := by
  simp only [State.arbitrationStart]
  split <;> exact h

theorem lightSeenInTrail (h : ModesKept r s) : ModesKept r s.lightSeenInTrail := by
  simp only [State.lightSeenInTrail]
  split <;> exact h

theorem pulsePosition (h : ModesKept r s) (heard : Bool) : ModesKept r (s.pulsePosition heard) := by
  simp only [State.pulsePosition]
  split
  · exact h
  · exact .ite (by split <;> exact h) h

theorem survival (h : ModesKept r s) (lit : Bool) : ModesKept r (s.survival lit) := by
  simp only [State.survival]
  split
  case h_1 =>
    split
    · exact h
    · split <;> exact h
  all_goals exact h

theorem duplicateDetected (h : ModesKept r s) (v : Int) : ModesKept r (s.duplicateDetected v) :=
  ModesKept.report (by exact h) _

theorem echoMismatch (h : ModesKept r s) (bit : HeardBit) : ModesKept r (s.echoMismatch bit) := by
  simp only [State.echoMismatch]
  split
  · exact h
  · exact .ite (.ite h (ModesKept.duplicateDetected (by exact h) 1)) h

theorem frameSent (h : ModesKept r s) : ModesKept r s.frameSent := by
  simp only [State.frameSent, State.serve]
  split
  · exact h
  · split
    case h_4 => split <;> exact h
    all_goals exact h

theorem frameTooLong (h : ModesKept r s) : ModesKept r s.frameTooLong := .ite h h

theorem duplicateTimer (h : ModesKept r s) : ModesKept r s.duplicateTimer :=
  h.atDue _ fun _ _ ht => ModesKept.report (by exact ht) _

/-! ## The peer table -/

theorem watchPeers {act : State → State} (h : ModesKept r (act s)) : ModesKept r (s.watchPeers act) :=
  (h.reportBitmap _ _ _).reportBitmap _ _ _

theorem dispatch (h : ModesKept r s) (n : Nat) (act : State → Fin 12 → PeerEntry → PeerEntry) :
    ModesKept r (s.dispatch n act) := by
  simp only [State.dispatch]
  split
  · exact h
  · next j _ =>
    refine .ite ?_ h
    have hwatch : ModesKept r (s.watchPeers fun t => t.setEntry j (act s j)) := ModesKept.watchPeers (by exact h)
    exact .ite (ModesKept.report (by exact hwatch) _) hwatch

theorem foreignFrame (h : ModesKept r s) (n : Nat) : ModesKept r (s.foreignFrame n) := ModesKept.report (by exact h) _

theorem ageTimerStale (h : ModesKept r s) (j : Fin 12) : ModesKept r (s.ageTimerStale j) := by
  simp only [State.ageTimerStale]
  split
  · exact ModesKept.watchPeers (by exact h)
  · exact h

theorem ageTimerLost (h : ModesKept r s) (j : Fin 12) : ModesKept r (s.ageTimerLost j) := by
  simp only [State.ageTimerLost]
  split
  · exact ModesKept.watchPeers (by exact h)
  · exact h

theorem isolationTimer (h : ModesKept r s) : ModesKept r s.isolationTimer :=
  h.atDue _ fun _ _ ht => ModesKept.report (by exact ht) _

theorem foreignTimer (h : ModesKept r s) : ModesKept r s.foreignTimer :=
  h.atDue _ fun _ _ ht => ModesKept.report (by exact ht) _

/-! ## Received frames -/

theorem whenFrame {heard : List BitTime} {row : RxFrame → Bool} {act : State → State} (h : ModesKept r s)
    (ha : ∀ t, ModesKept r t → ModesKept r (act t)) : ModesKept r (s.whenFrame heard row act) := .ite (ha _ h) h

theorem flagIf (h : ModesKept r s) (b : Bool) (e : LinkError) : ModesKept r (s.flagIf b e) := .ite h h

theorem senderChecks {rest : State → State} (h : ModesKept r s) (x : Header) (corrected : Bool)
    (hr : ∀ t, ModesKept r t → ModesKept r (rest t)) : ModesKept r (s.senderChecks x corrected rest) :=
  have hflag := h.flagIf corrected .headerCorrected
  .ite (hflag.duplicateDetected 2) (.ite (ModesKept.foreignFrame (by exact hflag) _) (hr _ hflag))

theorem longFrame (h : ModesKept r s) (heard : List BitTime) (kinds : Nat → Bool)
    (act : List Byte → State → Fin 12 → PeerEntry → PeerEntry) : ModesKept r (s.longFrame heard kinds act) := by
  unfold State.longFrame
  refine h.whenFrame fun t ht => ?_
  split
  · exact ht.senderChecks _ _ fun u hu => .ite hu (.ite hu (hu.dispatch _ _))
  all_goals exact ht

theorem discardedFrame (h : ModesKept r s) (heard : List BitTime) : ModesKept r (s.discardedFrame heard) := by
  unfold State.discardedFrame
  refine h.whenFrame fun t ht => ?_
  split
  case h_3 corrected _ => exact ht.flagIf corrected .headerCorrected
  all_goals exact ht

/-- A command keeps what its owner keeps. -/
theorem takeCommand (h : ModesKept r s) (x : Header) {owner : BitVec 4 → State → Answer}
    (ho : ∀ target, ModesKept r (owner target s).after) : ModesKept r (s.takeCommand x owner) := by
  simp only [State.takeCommand, State.broadcast, State.targeted]
  refine .ite (.ite h ?_) (.ite (.ite h (.ite h ?_)) h)
  · split
    · exact h
    · split
      case h_1 => exact ho 15
      all_goals exact h
  · split
    · exact h
    · exact ho x.sender

theorem commandFrame (h : ModesKept r s) (heard : List BitTime) (codes : Nat → Bool)
    {owner : Nat → BitVec 4 → State → Answer}
    (ho : ∀ (t : State) (arg : Nat) (target : BitVec 4), ModesKept r t → ModesKept r (owner arg target t).after) :
    ModesKept r (s.commandFrame heard codes owner) := by
  unfold State.commandFrame
  refine h.whenFrame fun t ht => ?_
  split
  · exact ht.senderChecks _ _ fun u hu => .ite hu ((hu.dispatch _ _).takeCommand _ fun target => ho _ _ target (hu.dispatch _ _))
  all_goals exact ht

/-! ## Yaw -/

theorem vaneReading (h : ModesKept r s) (x : Option (Fin 3600)) : ModesKept r (s.vaneReading x) := by
  cases x with
  | none => exact h
  | some v =>
    simp only [State.vaneReading]
    split
    · exact ModesKept.report (by exact h) _
    · exact h

theorem platformReading (h : ModesKept r s) (x : Option (Fin 3600)) : ModesKept r (s.platformReading x) := by
  cases x <;> exact h

theorem windReading (h : ModesKept r s) (x : Option (Fin 801)) : ModesKept r (s.windReading x) := by
  cases x <;> exact h

theorem vaneInvalidTimer (h : ModesKept r s) : ModesKept r s.vaneInvalidTimer :=
  h.atDue _ fun _ _ ht => ModesKept.report (by exact ht) _

theorem waitPowerTimer (h : ModesKept r s) : ModesKept r s.waitPowerTimer :=
  h.atDue _ fun _ _ ht => ModesKept.report (by exact ht) _

theorem brakeRetryTimer (h : ModesKept r s) : ModesKept r s.brakeRetryTimer :=
  h.atDue _ fun _ _ ht => ModesKept.report (by exact ht) _

theorem reportDrives (h : ModesKept r s) (a b : Nat) : ModesKept r (s.reportDrives a b) :=
  .ite (h.report _) (.ite (h.report _) h)

theorem reselect (h : ModesKept r s) (a b : Nat) : ModesKept r (s.reselect a b) := by
  simp only [State.reselect]
  split
  · split
    case h_1 | h_2 => exact h.enterBrakeApply
    all_goals exact h
  · split <;> exact h

theorem watchDrives (h : ModesKept r s) (act : Ywc → Ywc) : ModesKept r (s.watchDrives act) := by
  have hset : ModesKept r (s.setYwc (act s.ywc)) := h
  have hall := ((hset.reportBitmap .driveFeedback s.ywc.markedBitmap (act s.ywc).markedBitmap).reportDrives
    s.ywc.usableCount (act s.ywc).usableCount).reselect s.ywc.usableCount (act s.ywc).usableCount
  exact .ite hall.examine hall

theorem driveFeedback (h : ModesKept r s) (d : Fin 6) : ModesKept r (s.driveFeedback d) :=
  h.atDue _ fun _ _ ht => ht.watchDrives _

theorem enterRequestPower (h : ModesKept r s) (m : Move) : ModesKept r (s.enterRequestPower m) := by
  have hset : ModesKept r (s.setYwc
    { s.ywc with state := .requestPower, move := some m, waitDue := some (s.after (ms 60000)) }) := h
  exact ModesKept.examine (by exact hset.watchDrives Ywc.reviewMarks)

theorem stallCheck (h : ModesKept r s) : ModesKept r s.stallCheck := by
  have hstill (n : Nat) : ModesKept r (s.setYwc { s.ywc with stallRef := s.ywc.twist, stallCount := n }) := h
  exact .ite (((hstill _).report _).yawStopCause false) (hstill _)

theorem countMisalignment (h : ModesKept r s) : ModesKept r s.countMisalignment := by
  simp only [State.countMisalignment]
  split
  · split
    · exact ModesKept.report (by exact h) _
    · exact h
  · exact ModesKept.reportGone (by exact h) _

theorem yawEvaluation (h : ModesKept r s) : ModesKept r s.yawEvaluation := by
  refine h.atDue _ fun t _ ht => ?_
  simp only [State.evaluateYaw]
  generalize hu : State.countMisalignment _ = u
  have hcount : ModesKept r u := hu ▸ ModesKept.countMisalignment (by exact ht)
  split
  case h_1 => exact .ite (ModesKept.enterRequestPower (by exact hcount) _) hcount
  case h_2 => exact hcount.stallCheck
  all_goals exact hcount

theorem brakeInput (h : ModesKept r s) (level : Bool) : ModesKept r (s.brakeInput level) := by
  have hset (b : Bool) : ModesKept r (s.setYwc (s.ywc.setBrake s.clock s.ywc.releaseOut b)) := h
  have hgone (b : Bool) {c : Prop} [Decidable c] := ModesKept.ite (c := c) ((hset b).reportGone .brakeApplyFail) (hset b)
  simp only [State.brakeInput]
  refine .ite h ?_
  split
  case h_2 => exact (hgone _).endMove
  all_goals exact hgone _

theorem releaseMonitor (h : ModesKept r s) : ModesKept r s.releaseMonitor :=
  h.atDue _ fun _ _ ht => ModesKept.yawStopCause (ModesKept.report (by exact ht) _) false

theorem applyMonitor (h : ModesKept r s) : ModesKept r s.applyMonitor := by
  refine h.atDue _ fun t _ ht => ?_
  generalize (if (s.runTo t).ywc.state = .brakeApply then (1 : Int) else 2) = value
  have hreport : ModesKept r
      (State.report ((s.runTo t).setYwc { (s.runTo t).ywc with applyDue := none }) (.present .brakeApplyFail value)) :=
    ModesKept.report (by exact ht) _
  simp only []
  split
  case h_1 => exact hreport.endMove
  all_goals exact hreport

theorem takeTwist (h : ModesKept r s) (x : Int) : ModesKept r (s.takeTwist x) := by
  have hset : ModesKept r (s.setYwc { s.ywc with twist := saturateTwist x }) := h
  exact .ite (hset.report _) (.ite (hset.reportGone _) hset)

theorem compareHardLimit (h : ModesKept r s) : ModesKept r s.compareHardLimit :=
  .ite (.ite h (h.report _)) (h.reportGone _)

/-- Until a load completes the hard limit is not compared. -/
theorem compareWhenLoaded (h : ModesKept r s) :
    ModesKept r (if s.osc.state.isUnloaded then s else s.compareHardLimit) := .ite h h.compareHardLimit

theorem startTwist (h : ModesKept r s) (zone : Option Int) : ModesKept r (s.startTwist zone) := by
  cases zone with
  | none => exact ModesKept.takeTwist (ModesKept.report (by exact h) _) _
  | some z => exact ModesKept.takeTwist (by exact h) _

theorem seekTarget (h : ModesKept r s) : ModesKept r s.seekTarget := .ite h.enterBrakeApply h

theorem encoderReading (h : ModesKept r s) (angle : Fin 3600) (zone : Option Int) :
    ModesKept r (s.encoderReading angle zone) := by
  have hangle : ModesKept r (s.setYwc { s.ywc with angle := angle.val }) := h
  have hmoved : ModesKept r (s.setYwc { s.ywc with angle := angle.val }).moveTwist := ModesKept.takeTwist (by exact hangle) _
  exact (ModesKept.ite (c := s.ywc.twistKnown) hmoved (hangle.startTwist zone)).compareWhenLoaded.seekTarget

theorem rereadZone (h : ModesKept r s) (zone : Option Int) : ModesKept r (s.rereadZone zone) := by
  refine .ite ?_ h
  cases zone with
  | none => exact .ite h (h.report _)
  | some z =>
    have htwist := (h.reportGone .twistUnknown).takeTwist (nacelleSigned s.ywc.angle + 3600 * z)
    exact htwist.compareWhenLoaded

/-! ## Cooling and sensing -/

theorem temperatureReading (h : ModesKept r s) (i : Fin 8) (x : Option Int) : ModesKept r (s.temperatureReading i x) := by
  simp only [State.temperatureReading]
  split
  · exact h
  · next t _ =>
    have hset : ModesKept r (s.setClc (s.clc.setChannel i (t.take s.clock x))) := h
    exact .ite (.ite (hset.report _) (hset.report _)) hset

theorem holdTimer (h : ModesKept r s) (i : Fin 8) : ModesKept r (s.holdTimer i) := by
  simp only [State.holdTimer]
  split
  · exact h
  · exact h.atDue _ fun _ _ ht => ModesKept.report (by exact ht) _

theorem flowReading (h : ModesKept r s) (x : Option (Fin 2001)) : ModesKept r (s.flowReading x) := by
  cases x with
  | none => exact h
  | some v => exact ModesKept.watchFlow (by exact h)

theorem failPump (h : ModesKept r s) (i : Fin 2) : ModesKept r (s.failPump i) := by
  have hreport (c : Clc) (x : Report) : ModesKept r ((s.setClc c).report x) := ModesKept.report (by exact h) x
  simp only [State.failPump]
  refine .ite ?_ (hreport _ _)
  split
  case h_1 => exact hreport _ _
  all_goals exact (hreport _ _).report _

theorem flowMonitor (h : ModesKept r s) : ModesKept r s.flowMonitor := by
  refine h.atDue _ fun t _ ht => ?_
  split
  · exact ModesKept.watchFlow (ht.failPump _)
  · exact ht

theorem pumpRunning (h : ModesKept r s) (i : Fin 2) (level : Bool) : ModesKept r (s.pumpRunning i level) :=
  ModesKept.watchFlow (by exact h)

theorem pumpFeedback (h : ModesKept r s) (i : Fin 2) : ModesKept r (s.pumpFeedback i) :=
  h.atDue _ fun _ _ ht => ModesKept.watchFlow (ht.failPump i)

theorem fanFeedback (h : ModesKept r s) (f : Fin 4) : ModesKept r (s.fanFeedback f) := by
  refine h.atDue _ fun t _ ht => ?_
  have hreport (c : Clc) (x : Report) : ModesKept r (((s.runTo t).setClc c).report x) := ModesKept.report (by exact ht) x
  simp only [State.failFan]
  refine .ite (.ite (ModesKept.examine (by exact hreport _ _)) ?_) (hreport _ _)
  split <;> exact hreport _ _

theorem actOnFans (h : ModesKept r s) : ModesKept r s.actOnFans := by
  have hwithdrawn : ModesKept r s.withdrawFan := .ite (ModesKept.examine (by exact h)) h
  exact .ite (ModesKept.examine (by exact h)) (hwithdrawn.releaseFans _)

theorem judgeOvertemperature (h : ModesKept r s) : ModesKept r s.judgeOvertemperature :=
  .ite h (.ite (.ite h (h.report _)) (h.reportGone _))

theorem judgeCable (h : ModesKept r s) : ModesKept r s.judgeCable :=
  .ite h (.ite (.ite h (h.report _)) (.ite (h.reportGone _) h))

theorem takeMinFlow (h : ModesKept r s) : ModesKept r s.takeMinFlow := ModesKept.watchFlow (by exact h)

theorem formLimits (h : ModesKept r s) : ModesKept r s.formValve.formThermalLimit := h

theorem evaluateCooling (h : ModesKept r s) : ModesKept r s.evaluateCooling := by
  unfold State.evaluateCooling
  have hflow := h.takeMinFlow
  generalize s.takeMinFlow = u at hflow ⊢
  have hfans : ModesKept r (u.setClc u.clc.stage).actOnFans := ModesKept.actOnFans (by exact hflow)
  exact hfans.formLimits.judgeOvertemperature.judgeCable

theorem coolingEvaluation (h : ModesKept r s) : ModesKept r s.coolingEvaluation := ModesKept.evaluateCooling (by exact h)

theorem reviewCooling (h : ModesKept r s) : ModesKept r s.reviewCooling := by
  let u := s.setClc { s.clc with pumps := mapTable s.clc.pumps Pump.review, fans := mapTable s.clc.fans Fan.review }
  have hduty : ModesKept r u.resumeDuty := by
    refine .ite h ?_
    split
    · exact ModesKept.reportGone (by exact h) _
    · exact h
  have hpump : ModesKept r (match u.resumeDuty.clc.failedPump? with
      | some i => u.resumeDuty.report (.present .pumpFail (i.val + 1 : Nat))
      | none => u.resumeDuty.reportGone .pumpFail) := by
    split
    · exact hduty.report _
    · exact hduty.reportGone _
  exact .ite (hpump.reportGone _) (hpump.report _)

theorem watchSense (h : ModesKept r s) (act : Cts → Cts) : ModesKept r (s.watchSense act) :=
  watchSense_induction (P := ModesKept r) h fun _ _ _ _ _ _ ht => ht.reportBitmap _ _ _

theorem scanTimer (h : ModesKept r s) : ModesKept r s.scanTimer := h.atDue _ fun _ _ ht => ht

theorem dischargeEnd (h : ModesKept r s) : ModesKept r s.dischargeEnd := by
  simp only [State.dischargeEnd]
  split <;> exact h

theorem takeReading (h : ModesKept r s) (i : Fin 8) (x : RawClass) : ModesKept r (s.takeReading i x) := by
  have hwatch := h.watchSense fun c => { c with channels := update c.channels i (·.debounce x) }
  exact hwatch

theorem comparatorTrip (h : ModesKept r s) (n : Nat) : ModesKept r (s.comparatorTrip n) := by
  simp only [State.comparatorTrip]
  split
  case h_1 => exact .ite (ModesKept.takeReading (by exact h) _ _) h
  all_goals exact h

theorem ceilingReached (h : ModesKept r s) : ModesKept r s.ceilingReached := by
  simp only [State.ceilingReached]
  split
  case h_1 => exact ModesKept.takeReading (by exact h) _ _
  all_goals exact h

end ModesKept

end Sys2Proof.Machine
end

section
/-! SUPPORT. The image, the load, the resets, the timers of the OSC and the commands keep the modes sound (R188 to R208). -/

namespace Sys2Proof.Machine

/-- R199: before a load the converter does not run. -/
theorem OpState.idle_of_isUnloaded (x : OpState) : x.isUnloaded = true → x.isProducing = false := by
  cases x <;> decide

/-- R203: the stop timer is stopped at the entry to STANDBY, whether it was stopped before or not. -/
theorem endStopping_of_stopDue (s : State) : (s.setOsc { s.osc with stopDue := none }).endStopping = s.endStopping := by
  let u : State := s.setOsc { s.osc with stopDue := none }
  by_cases he : s.osc.enable = true
  · have hu : u.enableOff = (u.setOsc { u.osc with enable := false }).extraBlock := if_pos he
    have hs : s.enableOff = (s.setOsc { s.osc with enable := false }).extraBlock := if_pos he
    rw [State.endStopping, State.endStopping, hu, hs]
    rfl
  · have hu : u.enableOff = u := if_neg he
    have hs : s.enableOff = s := if_neg he
    rw [State.endStopping, State.endStopping, hu, hs]
    rfl

namespace ModesKept
variable {r s t : State}

/-! ## The image (R193, R197, R198) -/

theorem stopSensing (h : ModesKept r s) : ModesKept r s.stopSensing := h.watchSense _

theorem refuseImage (h : ModesKept r s) (hu : s.osc.sound → s.osc.state.isUnloaded = true) (code : Nat) :
    ModesKept r (s.refuseImage code) := by
  have hset : ModesKept r (s.setOsc { s.osc with state := .unconfigured, loader := .idle }) := by
    refine h.setOsc (fun ho => ?_) fun k => by cases k
    obtain ⟨he, -⟩ := id ho
    have hne {x : OpState} (hx : x.isUnloaded = false) : s.osc.state ≠ x := fun k => by
      rw [← k, hu ho] at hx
      cases hx
    refine Osc.sound_of (he.trans (OpState.idle_of_isUnloaded _ (hu ho))) (fun _ => ?_) (fun _ => ?_) (fun _ => ?_) rfl
    · exact ho.startDue_none (hne rfl)
    · exact ho.stopDue_none (hne rfl)
    · exact ho.restartDue_none (hne rfl)
  exact (hset.report _).stopSensing

/-- A byte of the image is taken while the image is read. -/
theorem readOn (h : ModesKept r s) {bytes : List Byte} (hl : s.osc.loader = .reading bytes) (more : List Byte) :
    ModesKept r (s.setOsc { s.osc with loader := .reading more }) := by
  refine h.setOsc (fun ho => ?_) id
  obtain ⟨he, h1, h2, h3, hload⟩ := ho
  exact ⟨he, h1, h2, h3, fun _ => hload (by rw [hl]; simp)⟩

theorem configMarker (h : ModesKept r s) (b : Byte) : ModesKept r (s.configMarker b) := by
  simp only [State.configMarker]
  split
  case h_1 hl => exact .ite (h.readOn hl _) (h.refuseImage (fun ho => isUnloaded_of_reading s ho hl) _)
  all_goals exact h

theorem configHeader (h : ModesKept r s) (b0 b1 b2 b3 : Byte) : ModesKept r (s.configHeader b0 b1 b2 b3) := by
  simp only [State.configHeader]
  split
  case h_1 hl => exact .ite (h.readOn hl _) (h.refuseImage (fun ho => isUnloaded_of_reading s ho hl) _)
  all_goals exact h

/-- R197: the blocks take their parts; none of the modes moves. -/
theorem loadBlocks (h : ModesKept r s) (st : Staging) (q : StationRecord) : ModesKept r (s.loadBlocks st q) := by
  have hpeers : ModesKept r (s.loadPeers st) := ModesKept.watchPeers (by exact h)
  have hyaw : ModesKept r ((((s.loadPeers st).loadShare q).loadConverter q).loadYaw st q) :=
    ModesKept.compareHardLimit (by exact hpeers)
  rw [State.loadBlocks]
  generalize (((s.loadPeers st).loadShare q).loadConverter q).loadYaw st q = u at hyaw ⊢
  have hsense : ModesKept r ((u.loadCooling st).loadSensing st) := ModesKept.watchSense (by exact hyaw) _
  exact (ModesKept.shed (by exact hsense)).examine

/-- R197: the OSC leaves LOADING, where none of its timers runs. -/
theorem loadModes (h : ModesKept r s) (hs : s.osc.sound → s.osc.state = .loading) (q : StationRecord) :
    ModesKept r (s.loadModes q) := by
  obtain ⟨o, heq, ho⟩ := loadModes_eq s q
  rw [heq]
  refine h.setOsc (fun hm => ?_) fun k => ?_
  · have hstart : s.osc.startDue = none := hm.startDue_none (by rw [hs hm]; decide)
    have hstop : s.osc.stopDue = none := hm.stopDue_none (by rw [hs hm]; decide)
    have hrestart : s.osc.restartDue = none := hm.restartDue_none (by rw [hs hm]; decide)
    rw [ho]
    split
    · exact Osc.sound_of rfl (fun _ => hstart) (fun _ => hstop) (fun _ => hrestart) rfl
    · split
      · exact Osc.sound_of rfl (fun k => absurd rfl k) (fun _ => rfl) (fun _ => rfl) rfl
      · exact Osc.sound_of rfl (fun _ => rfl) (fun _ => rfl) (fun _ => rfl) rfl
  · rw [ho] at k
    split at k
    · cases k
    · split at k <;> cases k

/-- R197: a load. That the blocks before the OSC leave it in LOADING needs the OSC to have been sound before. -/
theorem completeLoad {bytes : List Byte} (hl : s.osc.loader = .reading bytes) (st : Staging) (q : StationRecord) :
    ModesKept s (s.completeLoad st q) := by
  rw [completeLoad_eq]
  have hblocks := (ModesKept.refl s).loadBlocks st q
  by_cases hm : s.modesSound
  · refine hblocks.loadModes (fun _ => ?_) q
    have hosc : (s.loadBlocks st q).osc = s.osc := congrArg Basis.osc (loadBlocks_basis st q (isUnloaded_of_reading s hm hl))
    obtain ⟨-, -, -, -, hload⟩ := hm
    rw [hosc]
    exact hload (by rw [hl]; simp)
  · generalize s.loadBlocks st q = u at hblocks ⊢
    obtain ⟨o, heq, -⟩ := loadModes_eq u q
    obtain ⟨-, hlimits, -⟩ := hblocks
    rw [heq]
    exact ⟨fun k => absurd k hm, hlimits, fun k => absurd k hm⟩

theorem configRest (s : State) (rest : List Byte) : ModesKept s (s.configRest rest) := by
  have h := ModesKept.refl s
  simp only [State.configRest]
  split
  case h_1 hl =>
    have hrefuse (code : Nat) : ModesKept s (s.refuseImage code) :=
      h.refuseImage (fun ho => isUnloaded_of_reading s ho hl) code
    split
    · split
      · exact hrefuse _
      · split
        · exact completeLoad hl _ _
        · exact hrefuse _
    · exact h
  all_goals exact h

/-! ## The resets (R188, R189) -/

theorem resetBlocks (s : State) (f : Flm) (n : Nat) : ModesKept s (s.resetBlocks f n) := by
  refine ⟨fun _ => ?_, fun _ => ?_, fun _ _ => ?_⟩
  · exact ⟨rfl, fun k => (by cases k), fun k => (by cases k), fun k => (by cases k), fun _ => rfl⟩
  · exact ⟨fun _ => rfl, fun _ => rfl, fun _ => rfl⟩
  · exact ⟨rfl, rfl, rfl, fun k => (by cases k), fun k => by cases k⟩

theorem endReset (h : ModesKept r s) (hu : s.osc.state.isUnloaded = true) : ModesKept r s.endReset := by
  have hdrives := h.reportDrives 6 s.ywc.usableCount
  have hf : (s.reportDrives 6 s.ywc.usableCount).osc.state.isUnloaded = s.osc.state.isUnloaded :=
    congrArg Footing.unloaded (s.reportDrives_footing 6 s.ywc.usableCount)
  exact .ite hdrives (hdrives.refuseImage (fun _ => hf.trans hu) _)

/-! ## The timers of the OSC (R201, R203, R205, R206) -/

theorem startTimer (h : ModesKept r s) : ModesKept r s.startTimer := by
  refine h.atDue _ fun t _ ht => ?_
  have hset : ModesKept r ((s.runTo t).setOsc { s.osc with startDue := none }) := by
    refine ht.setOsc (fun ho => ?_) id
    obtain ⟨he, -, h2, h3, hl⟩ := ho
    exact ⟨he, fun k => (by cases k), h2, h3, hl⟩
  exact hset.report _

/-- R203: the stop timer runs in STOPPING only. -/
theorem stopTimer (h : ModesKept r s) : ModesKept r s.stopTimer := by
  refine h.atDue _ fun t hd ht => ?_
  refine (endStopping_of_stopDue (s.runTo t)).symm ▸ ht.endStopping fun ho => ?_
  obtain ⟨-, -, hstop, -⟩ := ho
  have hstate : s.osc.state = .stopping := hstop (by rw [State.runTo_osc, hd]; rfl)
  rw [State.runTo_osc, hstate]
  decide

/-- R205: the restart delay runs in TRIPPED only. -/
theorem restartDelay (h : ModesKept r s) : ModesKept r s.restartDelay := by
  refine h.atDue _ fun t hd ht => ?_
  have htripped (ho : s.osc.sound) : s.osc.state = .tripped := by
    obtain ⟨-, -, -, hrestart, -⟩ := ho
    exact hrestart (by rw [hd]; rfl)
  refine ModesKept.enterStandby (s := s.runTo t) ht (fun ho => ?_) fun ho => ?_
  · obtain ⟨he, -⟩ := id ho
    exact he.trans (by rw [State.runTo_osc, htripped ho]; rfl)
  · rw [State.runTo_osc, htripped ho]
    decide

theorem listTimer (h : ModesKept r s) : ModesKept r s.listTimer := by
  refine h.atDue _ fun t _ ht => ?_
  have hset (l : List Stamp) (d : Option Clocks) :
      ModesKept r ((s.runTo t).setOsc { s.osc with tripList := l, listDue := d }) := ht.setOsc id id
  exact .ite ((hset _ _).reportGone _) (hset _ _)

/-! ## The commands (R200, R207) -/

theorem ownStart (h : ModesKept r s) : ModesKept r s.ownStart.after := by
  simp only [State.ownStart]
  split
  case h_1 => exact ModesKept.testStart (h.setOsc id id)
  all_goals exact h

theorem ownStop (h : ModesKept r s) : ModesKept r s.ownStop.after := by
  simp only [State.ownStop]
  split
  case h_1 hs | h_2 hs =>
    refine h.setOsc (fun ho => ?_) fun k => by cases k
    obtain ⟨he, -⟩ := id ho
    refine ⟨he.trans (by rw [hs]; rfl), fun k => ?_, fun _ => rfl, fun k => ?_, fun k => ?_⟩
    · simp [ho.startDue_none (by rw [hs]; decide)] at k
    · simp [ho.restartDue_none (by rw [hs]; decide)] at k
    · exact absurd (ho.loader_idle (by rw [hs]; decide)) k
  all_goals exact h

theorem stringStop (h : ModesKept r s) : ModesKept r s.stringStop := by
  have hset : ModesKept r (s.setOsc { s.osc with runCommand := false, stringStopSeen := true }) := h.setOsc id id
  simp only [State.stringStop]
  split
  · next hp =>
    refine hset.endStopping fun _ hs => ?_
    rw [hs] at hp
    cases hp
  · exact hset

theorem ownUntwist (h : ModesKept r s) : ModesKept r s.ownUntwist.after := by
  simp only [State.ownUntwist]
  split
  case h_1 => exact .ite h (h.enterRequestPower _)
  all_goals exact h

theorem leaveSafeStop (h : ModesKept r s) : ModesKept r s.leaveSafeStop := by
  simp only [State.leaveSafeStop]
  split
  · next hs =>
    obtain ⟨hsafe, -⟩ := hs
    refine h.enterStandby (fun ho => ?_) fun _ => by rw [hsafe]; decide
    obtain ⟨he, -⟩ := ho
    rw [he, hsafe]
    rfl
  · exact h

theorem faultReview (h : ModesKept r s) (zone : Option Int) : ModesKept r (s.faultReview zone) :=
  (h.rereadZone zone).reviewCooling

theorem closeCleared (h : ModesKept r s) : ModesKept r s.closeCleared := by
  have hclosed : ModesKept r (s.setFlm (s.flm.faultReset s.stamp)) := h
  exact (hclosed.tell _).leaveSafeStop

theorem ownFaultReset (h : ModesKept r s) (zone : Option Int) : ModesKept r (s.ownFaultReset zone).after := by
  simp only [State.ownFaultReset]
  exact (h.faultReview zone).closeCleared

theorem ownRecordRequest (h : ModesKept r s) (target : BitVec 4) (n : Nat) :
    ModesKept r (s.ownRecordRequest target n).after := by
  simp only [State.ownRecordRequest]
  split
  · exact h
  · split <;> exact h

end ModesKept

/-! ## Every command -/

theorem exec_modesKept {c : Instr} {s t : State} (h : exec c s = .next t) : ModesKept s t := by
  have k := ModesKept.refl s
  have ke (dt : Clocks) : ModesKept s (s.elapse dt) := k
  cases c <;> injection h with h <;> subst h
  case coldReset straps => exact (ModesKept.resetBlocks _ _ _).endReset rfl
  case warmReset dt straps => exact ((ke dt).trans (ModesKept.resetBlocks _ _ _)).endReset rfl
  case idleGap => exact k.idleGap
  case boundary => exact k.boundary
  case arbitrationStart dt => exact (ke dt).arbitrationStart
  case pulsePosition b => exact k.pulsePosition b
  case survival b => exact k.survival b
  case echoMismatch b => exact k.echoMismatch b
  case frameSent => exact k.frameSent
  case frameTooLong => exact k.frameTooLong
  case frameDiscarded heard => exact k.discardedFrame heard
  case statusReceived heard => exact k.longFrame heard _ _
  case noticeReceived heard => exact k.longFrame heard _ _
  case replyOrRecordReceived heard => exact k.longFrame heard _ _
  case start heard => exact k.commandFrame heard _ fun _ _ _ hu => hu.ownStart
  case stop heard => exact k.commandFrame heard _ fun _ _ _ hu => hu.ownStop
  case yawHold heard => exact k.commandFrame heard _ fun _ _ _ hu => ModesKept.yawStopCause (by exact hu) true
  case yawRelease heard => exact k.commandFrame heard _ fun _ _ _ hu => hu
  case untwist heard => exact k.commandFrame heard _ fun _ _ _ hu => hu.ownUntwist
  case faultReset heard zone => exact k.commandFrame heard _ fun _ _ _ hu => hu.ownFaultReset zone
  case recordRequest heard => exact k.commandFrame heard _ fun _ _ _ hu => hu.ownRecordRequest _ _
  case stringCap heard => exact k.commandFrame heard _ fun _ _ _ hu => hu
  case stringStop heard => exact k.commandFrame heard _ fun _ _ _ hu => hu.stringStop
  case unknownCommand heard => exact k.commandFrame heard _ fun _ _ _ hu => hu
  case statusTimerExpiry => exact k
  case duplicateTimerExpiry => exact k.duplicateTimer
  case ageTimerStale j => exact k.ageTimerStale j
  case ageTimerLost j => exact k.ageTimerLost j
  case isolationTimerExpiry => exact k.isolationTimer
  case foreignTimerExpiry => exact k.foreignTimer
  case controlPeriod => exact k.controlPeriod
  case selectAsserted dt => exact (ke dt).assertSelect
  case selectReleased dt => exact (ke dt).releaseSelect _
  case readSetpoint dt => exact (ke dt).namedEdge _ _
  case readSetpointEnd dt => exact (ke dt).namedEdge _ _
  case writeMeasurement dt => exact (ke dt).namedEdge _ _
  case unknownPortType dt bit => exact (ke dt).namedEdge _ bit
  case measurementArrival dt bit => exact (ke dt).namedEdge _ bit
  case portClockRisingEdge dt bit => exact (ke dt).edge bit
  case pauseTimerExpiry => exact k.pauseTimer
  case strobeTimerExpiry => exact k.strobeTimer
  case silenceTimerExpiry => exact k.silenceTimer
  case curveDeadline => exact k.curveDeadline
  case recoveryTimerExpiry => exact k.recoveryTimer
  case overvoltageTimerExpiry => exact k.overvoltageTimer
  case encoderReading dt angle zone => exact (ke dt).encoderReading angle zone
  case platformHeadingReading dt x => exact (ke dt).platformReading x
  case vaneReading dt x => exact (ke dt).vaneReading x
  case windSpeedReading dt x => exact (ke dt).windReading x
  case vaneInvalidTimerExpiry => exact k.vaneInvalidTimer
  case yawEvaluation => exact k.yawEvaluation
  case waitPowerTimerExpiry => exact k.waitPowerTimer
  case brakeReleasedInput dt level => exact (ke dt).brakeInput level
  case releaseMonitorExpiry => exact k.releaseMonitor
  case applyMonitorExpiry => exact k.applyMonitor
  case brakeRetryTimerExpiry => exact k.brakeRetryTimer
  case driveReadyInput dt d level => exact (ke dt).watchDrives _
  case driveRunningInput dt d level => exact ke dt
  case driveFeedbackTimerExpiry d => exact k.driveFeedback d
  case temperatureReading dt i x => exact (ke dt).temperatureReading i x
  case holdTimerExpiry i => exact k.holdTimer i
  case flowReading dt x => exact (ke dt).flowReading x
  case flowMonitorExpiry => exact k.flowMonitor
  case pumpRunningInput dt i level => exact (ke dt).pumpRunning i level
  case pumpFeedbackTimerExpiry i => exact k.pumpFeedback i
  case coolingEvaluation => exact k.coolingEvaluation
  case fanRunningInput dt f level => exact ke dt
  case fanFeedbackTimerExpiry f => exact k.fanFeedback f
  case scanTimerExpiry => exact k.scanTimer
  case dischargeEnd => exact k.dischargeEnd
  case comparatorTrip n => exact k.comparatorTrip n
  case ceilingReached => exact k.ceilingReached
  case configMarkerReceived dt b => exact (ke dt).configMarker b
  case configHeaderReceived dt b0 b1 b2 b3 => exact (ke dt).configHeader b0 b1 b2 b3
  case configReadComplete dt rest => exact (ke dt).trans (ModesKept.configRest _ rest)
  case startTimerExpiry => exact k.startTimer
  case stopTimerExpiry => exact k.stopTimer
  case restartDelayExpiry => exact k.restartDelay
  case listTimerExpiry => exact k.listTimer
  case lightSeenInTrail dt => exact (ke dt).lightSeenInTrail

theorem step_modesKept {s t : State} (h : step s = .next t) : ModesKept s t := by
  rcases step_cases s with ⟨-, hs⟩ | ⟨c, rest, -, hs⟩
  · rw [hs] at h
    cases h
    exact .refl s
  · rw [hs] at h
    exact ModesKept.trans (s := { s with pending := rest }) (ModesKept.refl s) (exec_modesKept h)

/-- Settles O57: each command moves the modes by the few moves that keep the three predicates, or not at all. -/
theorem stepsKeepTheModesSound : Obligations.StepsKeepTheModesSound := by
  refine ⟨fun s t hm h => ?_, fun s t hl h => ?_, fun s t hm hr h => ?_⟩
  all_goals obtain ⟨hmodes, hlimits, hriding⟩ := step_modesKept h
  · exact hmodes hm
  · exact hlimits hl
  · exact hriding hm hr

end Sys2Proof.Machine
end

section
/-! SUPPORT. The turn-off, the entry to STANDBY and the extra block in the terms of the statements (R80, R91, R199, R201). -/

namespace Sys2Proof.Machine

/-! ## The extra block (R80, R91) -/

/-- R80, R91: the extra block stands in the back buffer, and goes to the front at once unless a read is in progress. -/
theorem Cvp.handed_extra (c : Cvp) (now : Clocks) :
    (c.handed now false 0).backEnable = false ∧ (c.handed now false 0).backLimit = 0 ∧
      if c.readInProgress then (c.handed now false 0).swapPending = true ∧ (c.handed now false 0).front = c.front
      else (c.handed now false 0).front.enable = false ∧ (c.handed now false 0).front.exportLimit = 0 ∧
        (c.handed now false 0).front.counter = c.front.counter + 1 := by
  let w : Cvp := { c with backEnable := false, backLimit := 0 }
  by_cases hread : c.readInProgress = true
  · have hhanded : c.handed now false 0 = { w with swapPending := true } := if_pos (show w.readInProgress = true from hread)
    rw [if_pos hread, hhanded]
    exact ⟨rfl, rfl, rfl, rfl⟩
  · have hhanded : c.handed now false 0 = w.swapped now := if_neg (show ¬ w.readInProgress = true from hread)
    rw [if_neg hread, hhanded]
    exact ⟨rfl, rfl, rfl, rfl, rfl⟩

/-! ## The turn-off and STANDBY (R199, R201) -/

section
variable {s : State}

/-- R80, R199: where the enable is on. -/
theorem enableOff_eq_turnedOff (h : s.osc.enable = true) : s.enableOff = s.turnedOff := by
  rw [State.enableOff, if_pos h, State.extraBlock, State.handBlock, writeBlock_eq_handed]
  rfl

/-- R199: where the enable is off already. -/
theorem enableOff_of_off (h : s.osc.enable = false) : s.enableOff = s :=
  if_neg (by rw [h]; exact Bool.false_ne_true)

/-- R201: whether the station may start is not a matter of the timers. -/
theorem enterStandby_eq_standby (s : State) : s.enterStandby = s.standby := by
  let u : State := s.setOsc { s.osc with state := .standby, startDue := none, stopDue := none, restartDue := none }
  have hu : s.enterStandby = u.tested := testStart_eq_tested (s := u) rfl
  rw [hu, State.tested, State.standby]
  by_cases hstart : s.mayStart
  · rw [if_pos hstart, if_pos (show u.mayStart from hstart)]
    rfl
  · rw [if_neg hstart, if_neg (show ¬ u.mayStart from hstart)]
    rfl

/-- R203: a station that stops, or whose string is stopped, with the enable on. -/
theorem endStopping_eq (h : s.osc.enable = true) : s.endStopping = s.turnedOff.standby := by
  rw [State.endStopping, enableOff_eq_turnedOff h, enterStandby_eq_standby]

end

/-! ## STRING STOP (R200) -/

/-- R200: in a producing state, by the enable. -/
theorem stringStop_turnedOff {s : State} (h : s.osc.state.isProducing = true) :
    s.stringStop = { s with
      cvp := if s.osc.enable then s.cvp.handed s.clock false 0 else s.cvp
      osc := { s.osc with
        runCommand := false, stringStopSeen := true, state := .standby, enable := false, startDue := none, stopDue := none
        restartDue := none }
      scu := if s.osc.enable then { s.scu with eLim := 0, enable := false } else s.scu } := by
  let stopped : State := s.setOsc { s.osc with runCommand := false, stringStopSeen := true }
  have hstop : s.stringStop = stopped.enableOff.enterStandby := if_pos h
  rw [hstop, enterStandby_of_stopped (by rw [enableOff_osc]; rfl), enableOff_osc]
  cases he : s.osc.enable with
  | true =>
    rw [enableOff_eq_turnedOff (s := stopped) he]
    rfl
  | false =>
    rw [enableOff_of_off (s := stopped) he]
    rfl

/-- Settles O23: the answer of STRING STOP's owner, with the block that its turn-off hands. -/
theorem stringStopEndsProduction : Obligations.StringStopEndsProduction := by
  intro heard h corrected s hc u osc
  have hexec : exec (.stringStop heard) s = .next (u.stringStop.answered h .accepted 0) := by
    have hrow := exec_commanded (zone := none) hc
    rw [badCommand_plain s (.inr rfl)] at hrow
    exact hrow
  rw [hexec]
  by_cases hp : s.osc.state.isProducing = true
  · rw [if_pos hp, stringStop_turnedOff (s := u) hp]
    refine ⟨_, rfl, fun he => ?_, fun he => ?_⟩
    · exact if_neg (show ¬ u.osc.enable = true by rw [show u.osc.enable = false from he]; exact Bool.false_ne_true)
    · rw [if_pos (show u.osc.enable = true from he)]
      exact Cvp.handed_extra s.cvp u.clock
  · rw [if_neg hp, stringStop_idle (s := u) hp]

end Sys2Proof.Machine
end

section
/-! SUPPORT. The bounds of the raw share (R71, R74), and the figures of a control period in the terms of the statement
(R62 to R81). -/

namespace Sys2Proof.Machine

/-! ## The raw share of a split (R72, R73) -/

/-- R73: no station is placed more than its demand. -/
theorem mem_placeExtra {avail total extra : Nat} (h : avail < total) {ps : List (Nat × Nat)} {q : Nat × Nat}
    (hq : q ∈ placeExtra avail total extra ps) : ∃ p ∈ ps, p.1 = q.1 ∧ q.2 ≤ p.2 := by
  induction ps generalizing extra with
  | nil => cases hq
  | cons p ps ih =>
    rw [placeExtra_cons] at hq
    rcases List.mem_cons.mp hq with rfl | hq
    · refine ⟨p, List.mem_cons_self, rfl, ?_⟩
      have hfloor : floorShare avail total p.2 ≤ p.2 := floorShare_le h p.2
      split <;> omega
    · obtain ⟨p', hp', hfst, hle⟩ := ih hq
      exact ⟨p', List.mem_cons_of_mem _ hp', hfst, hle⟩

/-- R72, R73: in shortage a station has a share of the split, or none. -/
theorem rawShare_shortage_cases {avail : Nat} {ps : List (Nat × Nat)} (hshort : avail < totalDemand ps)
    (own dOwn reserve : Nat) : rawShare false own dOwn reserve avail ps = 0 ∨
      (own, rawShare false own dOwn reserve avail ps) ∈ shortageShares avail ps := by
  rw [rawShare_shortage hshort]
  cases hfind : (shortageShares avail ps).find? (·.1 == own) with
  | none => exact .inl rfl
  | some q =>
    have hq : q ∈ shortageShares avail ps := List.mem_of_find?_eq_some hfind
    have hown : q.1 = own := by simpa using List.find?_some hfind
    exact .inr (hown ▸ hq)

/-- R73: the split gives out the capacity, and so no station more. -/
theorem shortageShares_le {avail : Nat} {ps : List (Nat × Nat)} (hshort : avail < totalDemand ps) {q : Nat × Nat}
    (hq : q ∈ shortageShares avail ps) : q.2 ≤ avail := by
  obtain ⟨hlow, hhigh⟩ := floorSum_range hshort
  have hsum : ((shortageShares avail ps).map Prod.snd).sum = avail := by
    rw [shortageShares_eq, placeExtra_sum _ _ (by unfold leftOver; omega), leftOver]
    omega
  exact (List.single_le_sum (fun _ _ => Nat.zero_le _) q.2 (List.mem_map_of_mem hq)).trans hsum.le

/-! ## The raw share of a station (R71, R74) -/

section
variable (s : State)

/-- R68: the own station takes part with its own demand. -/
theorem eq_of_own_mem_participants {dOwn d : Nat} (h : (s.osc.station, d) ∈ s.participants dOwn) : d = dOwn := by
  simp only [State.participants, List.mem_filterMap, Option.bind_eq_some_iff, Option.map_eq_some_iff, Prod.mk.injEq] at h
  obtain ⟨n, -, j, hj, d', hd, rfl, rfl⟩ := h
  obtain ⟨x, hx, hxn⟩ := Option.map_eq_some_iff.mp (beq_iff_eq.mp (lowest?_some hj))
  rcases (participation_demand s hx _ _).mp hd with ⟨-, hown⟩ | ⟨hne, -⟩
  · exact hown
  · exact absurd hxn hne

/-- R74: the raw share never exceeds d_own, whatever the configuration. -/
theorem rawShare_le_demand (isolated : Bool) (dOwn reserve avail : Nat) :
    rawShare isolated s.osc.station dOwn reserve avail (s.participants dOwn) ≤ dOwn := by
  cases isolated with
  | true => exact Nat.min_le_left _ _
  | false =>
    by_cases htotal : totalDemand (s.participants dOwn) ≤ avail
    · exact (if_pos htotal).le
    · have hshort : avail < totalDemand (s.participants dOwn) := Nat.lt_of_not_le htotal
      rcases rawShare_shortage_cases hshort s.osc.station dOwn reserve with hzero | hmem
      · rw [hzero]
        exact Nat.zero_le _
      · obtain ⟨⟨n, d⟩, hp, rfl, hle⟩ := mem_placeExtra hshort hmem
        exact hle.trans (eq_of_own_mem_participants s hp).le

/-- R74: outside isolation the raw share of a participant never exceeds C_avail. -/
theorem rawShare_le_avail {own dOwn : Nat} {ps : List (Nat × Nat)} (hown : (own, dOwn) ∈ ps) (reserve avail : Nat) :
    rawShare false own dOwn reserve avail ps ≤ avail := by
  by_cases htotal : totalDemand ps ≤ avail
  · have hraw : rawShare false own dOwn reserve avail ps = dOwn := if_pos htotal
    have hpart : dOwn ≤ totalDemand ps :=
      List.single_le_sum (fun _ _ => Nat.zero_le _) dOwn (List.mem_map_of_mem (f := Prod.snd) hown)
    exact hraw.le.trans (hpart.trans htotal)
  · have hshort : avail < totalDemand ps := Nat.lt_of_not_le htotal
    rcases rawShare_shortage_cases hshort own dOwn reserve with hzero | hmem
    · rw [hzero]
      exact Nat.zero_le _
    · exact shortageShares_le hshort hmem

end

/-- R45, R68: after a load the own station takes part. -/
theorem own_mem_participants {s : State} (hs : s.configSound) (hloaded : s.ptb.loaded = true) (dOwn : Nat) :
    (s.osc.station, dOwn) ∈ s.participants dOwn := by
  obtain ⟨-, -, hown, -, hone, -⟩ := id hs
  obtain ⟨-, hslot⟩ := hown hloaded
  obtain ⟨j, hj⟩ := Option.isSome_iff_exists.mp hslot
  obtain ⟨x, hx, hxn⟩ := (slotOf?_iff hone _ j).mp hj
  exact (mem_participants hs _ _ _).mpr ⟨j, x, hx, hxn, .inl ⟨rfl, rfl⟩⟩

/-- Settles O30: the own station is a participant, its demand and the capacity bound its part of the split. -/
theorem rawShareIsBounded : Obligations.RawShareIsBounded := by
  intro due s t hdue hs h r reserve
  have hscu := exec_controlPeriod_scu hdue h
  let ps := s.participants s.ownDemand
  have hdown : t.scu.dOwn = s.ownDemand := by rw [hscu]; rfl
  have hseen : t.scu.dSeen = totalDemand ps := by rw [hscu]; rfl
  have hlive : t.scu.cLive = s.liveCapacity := by rw [hscu]; rfl
  have hraw : t.scu.sRaw = rawShare s.ptb.isolated s.osc.station s.ownDemand r s.availableCapacity ps := by rw [hscu]; rfl
  have havail : t.scu.cLive - reserve = s.availableCapacity := by
    rw [hlive, State.availableCapacity, State.totalReserve]
    simp only [takesReserve_eq]
    rfl
  have hloaded : s.ptb.loaded = true := by
    obtain ⟨-, hperiod, -⟩ := hs
    rw [← hperiod, hdue]
    rfl
  rw [hraw, hdown, hseen, havail]
  refine ⟨fun hisolated => ?_, fun hisolated htotal => ?_, rawShare_le_demand s _ _ _ _, fun hisolated => ?_⟩
  · rw [hisolated]
    rfl
  · rw [hisolated]
    exact if_pos htotal
  · rw [hisolated]
    exact rawShare_le_avail (own_mem_participants hs hloaded _) _ _

/-! ## The control period (R62 to R81) -/

/-- R62, R63, R81: a control period forms the SCU's figures and hands the CVP the block. -/
theorem exec_controlPeriod {due : Clocks} {s : State} (hdue : s.scu.periodDue = some due) :
    exec .controlPeriod s = .next { s with
      clock := max s.clock due, scu := { s.computeShare with periodDue := some (due + ms 20) }
      cvp := s.cvp.handed (max s.clock due) s.computeShare.enable s.computeShare.eLim } := by
  simp only [exec, execControlPeriod, State.controlPeriod, hdue, atDue_some, State.handBlock, writeBlock_eq_handed]
  rfl

/-- R55, R67: cable-hot in the statement's words. -/
theorem cableHot_iff (s : State) : s.cableHot = true ↔ s.flm.holds .stringCableHot = true ∨
    ∃ (j : Fin 12) (d : Descriptor), s.ptb.slots[j] = some d ∧ d.station ≠ s.osc.station ∧ d.excluded = false ∧
      d.cableMonitor = true ∧ s.ptb.entries[j].cableHot = true := by
  have hslot (j : Fin 12) : (s.activePeer j && (s.slotPeer? j).elim false (·.cableMonitor) && s.ptb.entries[j].cableHot) = true ↔
      ∃ d : Descriptor, s.ptb.slots[j] = some d ∧ d.station ≠ s.osc.station ∧ d.excluded = false ∧ d.cableMonitor = true ∧
        s.ptb.entries[j].cableHot = true := by
    simp only [State.activePeer, State.slotPeer?]
    cases s.ptb.slots[j] with
    | none => simp
    | some d => by_cases hd : d.station = s.osc.station <;> simp [Option.filter, hd, and_assoc]
  simp only [State.cableHot, State.peerCableHot, Bool.or_eq_true, List.any_eq_true, List.mem_finRange, true_and, hslot]
  exact or_comm

/-- R75, R77, R78: s_app rises by at most U; in STOPPING because a raw share of 0 leaves nothing to rise to. -/
theorem appliedShare_le {hold stopping : Bool} {up down old raw : Nat} (h : stopping = true → raw = 0) :
    appliedShare hold stopping up down old raw ≤ old + up := by
  simp only [appliedShare]
  split
  · omega
  · split
    · next hstop =>
      rw [h hstop]
      omega
    · split <;> omega

/-- R65: the demand in the statement's words. -/
theorem ownDemand_eq (s : State) : s.ownDemand =
    if s.osc.state = .starting ∨ s.osc.state = .producing ∨ s.osc.state = .rideThrough then min s.available s.ownLimit
    else 0 := by
  rw [State.ownDemand]
  cases s.osc.state <;> rfl

/-- Settles O29: the SCU's figures are those of a computation, whose raw share the demand bounds. -/
theorem controlPeriodFormsTheLimits : Obligations.ControlPeriodFormsTheLimits := by
  intro due s hdue now pOwn limit capped hot
  have hhot : s.cableHot = true ↔ hot := cableHot_iff s
  refine ⟨_, exec_controlPeriod hdue, rfl, ownDemand_eq s, fun h => ?_, fun h => ?_, ?_, ?_⟩
  · exact if_pos (hhot.mpr h)
  · exact if_neg (mt hhot.mp h)
  · show appliedShare _ _ _ _ _ _ = _
    simp only [appliedShare, beq_iff_eq]
    rfl
  · refine appliedShare_le fun hstop => Nat.le_zero.mp ?_
    have hdemand : s.ownDemand = 0 := by rw [State.ownDemand, beq_iff_eq.mp hstop]; rfl
    exact (rawShare_le_demand s _ _ _ _).trans hdemand.le

end Sys2Proof.Machine
end

section
/-! SUPPORT. A report of a trip, and the entry to TRIPPED it makes (R180, R181, R199 to R206). -/

namespace Sys2Proof.Machine

/-! ## The reaction under a report (R175 to R180) -/

section
variable (f : Flm) (now : Stamp)

/-- R175, R176: a code reported present has a record in the OPEN list. -/
theorem Flm.take_present_any (q : FaultCode → Bool) {c : FaultCode} (hc : q c = true) (v : Int) :
    (f.take now (.present c v)).opens.any (fun x => q x.code) = true := by
  simp only [Flm.take, Flm.takePresent]
  split
  · next r hr =>
    have hmem : r ∈ f.opens := List.mem_of_find?_eq_some hr
    have hcode : r.code = c := by simpa using List.find?_some hr
    refine (any_map_code q _ (fun x => ?_) _).trans (List.any_eq_true.mpr ⟨r, hmem, by rw [hcode]; exact hc⟩)
    split <;> simp
  · simp [insertOpen_any, openedRecord, hc]

/-- R178: a latching code keeps its record when its condition goes. -/
theorem Flm.take_gone_latching_any (q : FaultCode → Bool) {c : FaultCode} (hc : c.latching = true) :
    (f.take now (.gone c)).opens.any (fun x => q x.code) = f.opens.any (fun x => q x.code) := by
  simp only [Flm.take, Flm.takeGone]
  split
  · rfl
  · split
    · refine any_map_code q _ (fun x => ?_) _
      split <;> rfl
    · rfl

/-- R178, R180. -/
theorem Flm.reaction_take_gone_latching {c : FaultCode} (hc : c.latching = true) :
    (f.take now (.gone c)).reaction = { f.reaction with fMin := (f.take now (.gone c)).reaction.fMin } := by
  have h (q : FaultCode → Bool) := f.take_gone_latching_any now q hc
  have h1 := h fun c => c.severity.trips
  have h2 := h fun c => c.severity.stopsYaw
  have h3 := h fun c => c.severity.stopsYaw && c != .twistHardLimit
  have h4 := h fun c => c.severity == .safeStop
  simp only [Flm.reaction, Record.severity, h1, h2, h3, h4]

/-- R180: a code that trips and nothing else moves the trip and the derate part of the reaction. -/
theorem Flm.reaction_take_trip {r : Report} (hr : r.code.severity = .trip) :
    (f.take now r).reaction = { f.reaction with
      trip := (f.take now r).reaction.trip, fMin := (f.take now r).reaction.fMin } := by
  have h2 := Flm.take_any (fun c => c.severity.stopsYaw) f now r (by rw [hr]; rfl)
  have h3 := Flm.take_any (fun c => c.severity.stopsYaw && c != .twistHardLimit) f now r (by rw [hr]; rfl)
  have h4 := Flm.take_any (fun c => c.severity == .safeStop) f now r (by rw [hr]; rfl)
  simp only [Flm.reaction, Record.severity, h2, h3, h4]

theorem Flm.trip_take_present {c : FaultCode} (hc : c.severity = .trip) (v : Int) :
    (f.take now (.present c v)).reaction.trip = true :=
  f.take_present_any now (fun c => c.severity.trips) (by rw [hc]; rfl) v

theorem Flm.trip_take_gone_latching {c : FaultCode} (hc : c.latching = true) :
    (f.take now (.gone c)).reaction.trip = f.reaction.trip :=
  f.take_gone_latching_any now (fun c => c.severity.trips) hc

/-- R180: safe stop implies trip. -/
theorem Flm.safeStop_of_no_trip {f : Flm} (h : f.reaction.trip = false) : f.reaction.safeStop = false := by
  refine List.any_eq_false.mpr fun r hr hsafe => ?_
  have hseverity : r.severity = .safeStop := beq_iff_eq.mp hsafe
  exact List.any_eq_false.mp h r hr (by rw [hseverity]; rfl)

end

/-! ## Telling the OSC (R181, R204) -/

section
variable (s : State)

/-- R181: a report of a code that trips tells the OSC alone. -/
theorem report_trip {c : FaultCode} (hc : c.severity = .trip) (v : Int) : s.report (.present c v) =
    if s.flm.reaction.trip = true then s.quiet (.present c v) else (s.quiet (.present c v)).oscTripHolds := by
  have hreaction : (s.quiet (.present c v)).flm.reaction = _ := s.flm.reaction_take_trip s.stamp (r := .present c v) hc
  have htrip : (s.quiet (.present c v)).flm.reaction.trip = true := s.flm.trip_take_present s.stamp hc v
  have hyaw := congrArg Reaction.yawStop hreaction
  have huntwist := congrArg Reaction.untwistYawStop hreaction
  have hsafe := congrArg Reaction.safeStop hreaction
  rw [State.report, State.tell]
  cases hbefore : s.flm.reaction.trip <;>
    simp [yawStopArises, hyaw, huntwist, hsafe, htrip]

/-- R178, R181: the OSC is told nothing when the condition of a latching code goes. -/
theorem report_gone_latching {c : FaultCode} (hc : c.latching = true) : s.report (.gone c) = s.quiet (.gone c) :=
  State.tell_same _ _ (s.flm.reaction_take_gone_latching s.stamp hc)

/-! ## The entry to TRIPPED (R204 to R206) -/

theorem trips_ne_nil : s.trips ≠ [] := by simp [State.trips, enterTrip]

theorem Flm.goneIf_holds (f : Flm) (now : Stamp) (c : FaultCode) : (f.goneIf now c).holds c = false := by
  rw [Flm.goneIf]
  split
  · exact f.takeGone_holds now c
  · next h => exact Bool.eq_false_iff.mpr h

theorem Flm.goneIf_holds_other (f : Flm) (now : Stamp) {c d : FaultCode} (h : c ≠ d) :
    (f.goneIf now c).holds d = f.holds d := by
  rw [Flm.goneIf]
  split
  · exact f.take_holds_other now (.gone c) fun hi => h (FaultCode.index_injective hi)
  · rfl

/-- R206: RESTART_LIMIT is reported in the trip that it belongs to. -/
theorem trippedFlm_restartLimit (h4 : s.trips.length = 4) : s.trippedFlm.holds .restartLimit = true := by
  rw [State.trippedFlm, Flm.goneIf_holds_other _ _ (by decide), State.limitNoted, if_pos h4]
  exact s.flm.takePresent_holds _ _ _

/-- R201: START_TIMEOUT is gone at the entry. -/
theorem trippedFlm_startTimeout : s.trippedFlm.holds .startTimeout = false := Flm.goneIf_holds _ _ _

theorem trippedFlm_holds_other {c : FaultCode} (hr : c ≠ .restartLimit) (ht : c ≠ .startTimeout) :
    s.trippedFlm.holds c = s.flm.holds c := by
  rw [State.trippedFlm, Flm.goneIf_holds_other _ _ (Ne.symm ht), State.limitNoted]
  split
  · exact s.flm.take_holds_other _ (.present .restartLimit _) fun hi => hr (FaultCode.index_injective hi).symm
  · rfl

/-- R178, R204: what the entry reports leaves the trip in force. -/
theorem trippedFlm_trip (h : s.flm.reaction.trip = true) : s.trippedFlm.reaction.trip = true := by
  have hnoted : s.limitNoted.reaction.trip = true := by
    rw [State.limitNoted]
    split
    · exact s.flm.trip_take_present _ rfl _
    · exact h
  rw [State.trippedFlm, Flm.goneIf]
  split
  · exact (s.limitNoted.trip_take_gone_latching _ rfl).trans hnoted
  · exact hnoted

/-- R199, R204: the entry with the enable on and the trip in force. -/
theorem enterTripped_of_trip (he : s.osc.enable = true) (htrip : s.flm.reaction.trip = true) : s.enterTripped =
    { s.turnedOff with
      flm := s.trippedFlm
      osc := { s.osc with
        state := .tripped, enable := false, startDue := none, stopDue := none, restartDue := none, tripList := s.trips
        listDue := s.trips.head?.map (listDueFor s.clock) } } := by
  rw [enterTripped_eq, enableOff_eq_turnedOff he, if_pos (Or.inr htrip)]

/-- R204, R206: the report of a trip, taken in a producing state with no trip in force. -/
theorem report_tripsTo {c : FaultCode} (hc : c.severity = .trip) (v : Int) (hp : s.osc.state.isProducing = true)
    (he : s.osc.enable = true) (htrip : s.flm.reaction.trip = false) :
    s.tripsTo (s.report (.present c v)) ∧ (s.report (.present c v)).flm = (s.quiet (.present c v)).trippedFlm := by
  let u := s.quiet (.present c v)
  have hu : u.flm.reaction.trip = true := s.flm.trip_take_present s.stamp hc v
  have hsafe : u.flm.reaction.safeStop = false :=
    (congrArg Reaction.safeStop (s.flm.reaction_take_trip s.stamp (r := .present c v) hc)).trans
      (Flm.safeStop_of_no_trip htrip)
  have hholds : u.oscTripHolds = u.enterTripped := by
    have hstate : u.osc.state.isProducing = true := hp
    simp only [State.oscTripHolds]
    split
    case h_1 | h_2 | h_3 | h_4 => rw [if_neg (by rw [hsafe]; exact Bool.false_ne_true)]
    all_goals
      next hs =>
      rw [hs] at hstate
      cases hstate
  have hreport : s.report (.present c v) = u.enterTripped := by
    rw [report_trip s hc, if_neg (by rw [htrip]; exact Bool.false_ne_true), hholds]
  rw [hreport, enterTripped_of_trip u he hu]
  refine ⟨⟨rfl, rfl, ?_, fun h4 => trippedFlm_restartLimit u h4, trippedFlm_trip u hu⟩, rfl⟩
  obtain ⟨oldest, rest, hlist⟩ := List.exists_cons_of_ne_nil (trips_ne_nil u)
  simp only [hlist, List.head?_cons, Option.map_some, Option.isSome_some]

/-- R204, R205: outside the producing states a trip that comes to hold stops the restart delay alone. -/
theorem oscTripHolds_idle (h : s.osc.state.isProducing = false) : s.oscTripHolds =
    s.setOsc (if s.osc.state = .tripped then { s.osc with restartDue := none } else s.osc) := by
  simp only [State.oscTripHolds]
  split
  case h_1 hs | h_2 hs | h_3 hs | h_4 hs =>
    rw [hs] at h
    cases h
  case h_5 hs => rw [if_pos hs]
  all_goals
    next hs =>
    rw [if_neg (by rw [hs]; decide)]
    rfl

/-- R181, R205: the report of a trip in any other state, or beside a trip in force. -/
theorem report_trip_idle {c : FaultCode} (hc : c.severity = .trip) (v : Int)
    (h : s.osc.state.isProducing = false ∨ s.flm.reaction.trip = true) : s.report (.present c v) = { s with
      flm := s.flm.take s.stamp (.present c v)
      osc := if s.osc.state = .tripped ∧ s.flm.reaction.trip = false then { s.osc with restartDue := none } else s.osc } := by
  rw [report_trip s hc]
  by_cases htrip : s.flm.reaction.trip = true
  · rw [if_pos htrip, if_neg fun k => by rw [htrip] at k; cases k.2]
    rfl
  · have hidle : (s.quiet (.present c v)).osc.state.isProducing = false := h.resolve_right htrip
    rw [if_neg htrip, oscTripHolds_idle _ hidle]
    simp only [Bool.eq_false_iff.mpr htrip, and_true]
    rfl

end

/-! ## The three timers (R96, R103, R201) -/

section
variable {s : State} {due : Clocks}

theorem exec_silenceTimer (h : s.cvp.silenceDue = some due) : exec .silenceTimerExpiry s = .next
    (State.report { s with clock := max s.clock due, cvp := { s.cvp with silenceDue := none } }
      (.present .converterPortSilent s.cvp.measurement.dcLink.toNat)) := by
  simp only [exec, execSilenceTimerExpiry, State.silenceTimer, h, atDue_some]
  rfl

theorem exec_overvoltageTimer (h : s.cvp.overvoltageDue = some due) : exec .overvoltageTimerExpiry s = .next
    (State.report { s with clock := max s.clock due, cvp := { s.cvp with overvoltageDue := none } }
      (.present .gridOvervoltage s.cvp.measurement.voltage.toNat)) := by
  simp only [exec, execOvervoltageTimerExpiry, State.overvoltageTimer, h, atDue_some]
  rfl

theorem exec_startTimer (h : s.osc.startDue = some due) : exec .startTimerExpiry s = .next
    (State.report { s with clock := max s.clock due, osc := { s.osc with startDue := none } }
      (.present .startTimeout s.cvp.measurement.actual.toInt)) := by
  simp only [exec, execStartTimerExpiry, State.startTimer, h, atDue_some]
  rfl

end

/-- Settles O38: the report of the trip, from the state that its timer leaves. -/
theorem tripsEndProduction : Obligations.TripsEndProduction := by
  constructor
  · intro due s hp he htrip u
    refine ⟨fun hdue => ?_, fun hdue => ?_, fun hdue => ?_⟩
    · obtain ⟨htrips, hflm⟩ := report_tripsTo { u with cvp := { s.cvp with silenceDue := none } }
        (c := .converterPortSilent) rfl s.cvp.measurement.dcLink.toNat hp he htrip
      refine ⟨_, exec_silenceTimer hdue, ?_, htrips⟩
      rw [hflm, trippedFlm_holds_other _ (by decide) (by decide)]
      exact s.flm.takePresent_holds _ _ _
    · obtain ⟨htrips, hflm⟩ := report_tripsTo { u with cvp := { s.cvp with overvoltageDue := none } }
        (c := .gridOvervoltage) rfl s.cvp.measurement.voltage.toNat hp he htrip
      refine ⟨_, exec_overvoltageTimer hdue, ?_, htrips⟩
      rw [hflm, trippedFlm_holds_other _ (by decide) (by decide)]
      exact s.flm.takePresent_holds _ _ _
    · obtain ⟨htrips, hflm⟩ := report_tripsTo { u with osc := { s.osc with startDue := none } }
        (c := .startTimeout) rfl s.cvp.measurement.actual.toInt hp he htrip
      refine ⟨_, exec_startTimer hdue, ?_, htrips⟩
      rw [hflm]
      exact trippedFlm_startTimeout _
  · intro due s h now osc
    refine ⟨fun hdue => ?_, fun hdue => ?_, fun hdue => ?_⟩
    · rw [exec_silenceTimer hdue, report_trip_idle { s with clock := now, cvp := { s.cvp with silenceDue := none } } rfl _ h]
      rfl
    · rw [exec_overvoltageTimer hdue,
        report_trip_idle { s with clock := now, cvp := { s.cvp with overvoltageDue := none } } rfl _ h]
      rfl
    · rw [exec_startTimer hdue, report_trip_idle { s with clock := now, osc := { s.osc with startDue := none } } rfl _ h]
      simp only [osc]
      split <;> rfl

end Sys2Proof.Machine
end

section
/-! SUPPORT. A measurement arrival with a clear fault word and nothing to report gone, and the arrivals and timers that start
and end production (R87, R94, R103, R201 to R206). -/

namespace Sys2Proof.Machine

/-- A code that is not present is not reported gone. -/
theorem reportGone_absent {s : State} {c : FaultCode} (h : s.flm.holds c = false) : s.reportGone c = s :=
  if_neg (by rw [h]; exact Bool.false_ne_true)

/-! ## The arrival (R87, R94) -/

/-- R87, R94: the CVP when it has taken the block `m` at `now`, the grid voltage not judged yet. -/
def Cvp.written (c : Cvp) (now : Clocks) (m : Measurement) : Cvp :=
  { c with
    port := .done, bitCount := 0, shift := 0, staging := [], measurement := m, silenceDue := some (now + ms 60) }

/-- R94: the state in which an arrival at `now` judges the grid voltage. -/
def State.written (s : State) (now : Clocks) (m : Measurement) : State :=
  { s with clock := now, cvp := s.cvp.written now m }

section
variable {s : State} {dt : Clocks} {bit : Bool} {m : Measurement}

/-- R84, R87: the edge that completes the tenth byte. -/
theorem exec_arrival (ha : s.arrives bit m) : exec (.measurementArrival dt bit) s = .next
    (((s.written (s.clock + dt) m).reportGone .converterPortSilent).reportFaultWord.judgeVoltage.oscArrival) := by
  obtain ⟨⟨hselect, hseen⟩, hport, hcount, hbytes⟩ := ha
  have hcompletes : (s.elapse dt).cvp.completes? bit = some .lastWrite := by
    simp [Cvp.completes?, Cvp.counting, hselect, hseen, hport, hcount]
  have htaken : s.cvp.takeBit bit = { s.cvp with bitCount := 0, shift := 0 } := by
    rw [Cvp.takeBit, if_neg (by rw [hcount]; decide)]
  have hedge : (s.elapse dt).edge bit = ((s.elapse dt).setCvp (s.cvp.takeBit bit)).portByte (s.cvp.nextShift bit) := by
    simp [State.edge, Cvp.counting, hselect, hseen, hcount]
  have hbyte : ((s.elapse dt).setCvp (s.cvp.takeBit bit)).portByte (s.cvp.nextShift bit) =
      State.arrival { s with
          clock := s.clock + dt, cvp := { s.cvp with port := .done, bitCount := 0, shift := 0, staging := [] } }
        (s.cvp.staging ++ [s.cvp.nextShift bit]) := by
    simp only [State.portByte, htaken, State.setCvp_cvp, hport]
    rfl
  have harrival := congrArg (fun x : Measurement =>
    ((s.written (s.clock + dt) x).reportGone .converterPortSilent).reportFaultWord.judgeVoltage.oscArrival) hbytes
  rw [exec, execMeasurementArrival, State.namedEdge, if_pos hcompletes, hedge, hbyte]
  exact congrArg Host.Outcome.next harrival

/-- R94: with a clear fault word and nothing to report gone the first steps report nothing. -/
theorem exec_quietArrival (ha : s.arrives bit m) (hm : m.faultWord = 0) (hq : s.portQuiet) :
    exec (.measurementArrival dt bit) s = .next ((s.written (s.clock + dt) m).judgeVoltage.oscArrival) := by
  obtain ⟨hsilent, hreported, -, -⟩ := hq
  let u : State := s.written (s.clock + dt) m
  have hs : u.reportGone .converterPortSilent = u := reportGone_absent hsilent
  have hf : u.reportFaultWord = u := by
    rw [State.reportFaultWord, if_pos (show u.cvp.measurement.faultWord = 0 from hm)]
    exact reportGone_absent hreported
  rw [exec_arrival ha, hs, hf]

end

/-! ## The grid voltage (R94, R103) -/

section
variable {s : State}

/-- R103: the overvoltage timer, GRID_OVERVOLTAGE not being present. -/
theorem judgeOvervoltage_quiet (h : s.flm.holds .gridOvervoltage = false) (v : Nat) : s.judgeOvervoltage v =
    s.setCvp { s.cvp with
      overvoltageDue := if 1100 < v then some (s.cvp.overvoltageDue.getD (s.clock + ms 100)) else none } := by
  rw [State.judgeOvervoltage]
  by_cases hv : 1100 < v
  · rw [if_pos hv, if_pos hv]
    obtain hdue | ⟨d, hdue⟩ := Option.eq_none_or_eq_some s.cvp.overvoltageDue
    · rw [if_pos ⟨by rw [hdue]; rfl, by rw [h]; rfl⟩, hdue]
      rfl
    · have hkept : some (s.cvp.overvoltageDue.getD (s.clock + ms 100)) = s.cvp.overvoltageDue := by rw [hdue]; rfl
      rw [if_neg (by simp [hdue]), hkept]
      rfl
  · rw [if_neg hv, if_neg hv]
    exact reportGone_absent h

/-- R94, step 5: with GRID_UNDERVOLTAGE_TRIP not present. -/
theorem judgeVoltage_quiet (h : s.flm.holds .gridUndervoltageTrip = false) : s.judgeVoltage =
    (if s.cvp.rideThrough = true then s.arrivalInRideThrough s.cvp.voltage
      else if s.cvp.voltage < 850 ∧ s.osc.state = .producing then s.enterRideThrough s.cvp.voltage
      else s).judgeOvervoltage s.cvp.voltage := by
  have hgone : (if 900 ≤ s.cvp.voltage then s.reportGone .gridUndervoltageTrip else s) = s := by
    rw [reportGone_absent h, ite_self]
  simp only [State.judgeVoltage, hgone]

end

/-- R94, R97: an arrival outside ride-through that is no dip while PRODUCING. -/
theorem exec_plainArrival {s : State} {dt : Clocks} {bit : Bool} {m : Measurement} (ha : s.arrives bit m)
    (hm : m.faultWord = 0) (hq : s.portQuiet) (hr : s.cvp.rideThrough = false) (hs : s.osc.state ≠ .producing) :
    exec (.measurementArrival dt bit) s = .next (State.oscArrival { s with
      clock := s.clock + dt, cvp := s.cvp.afterArrival (s.clock + dt) m }) := by
  obtain ⟨-, -, hunder, hover⟩ := id hq
  let u : State := s.written (s.clock + dt) m
  have hride : ¬ u.cvp.rideThrough = true := by rw [show u.cvp.rideThrough = false from hr]; exact Bool.false_ne_true
  have hdip : ¬ (u.cvp.voltage < 850 ∧ u.osc.state = .producing) := fun h => hs h.2
  rw [exec_quietArrival ha hm hq, judgeVoltage_quiet (s := u) hunder, if_neg hride, if_neg hdip,
    judgeOvervoltage_quiet (s := u) hover]
  rfl

/-! ## The OSC at an arrival (R201, R203) -/

theorem Osc.standby_still {o : Osc} (hs : o.state = .standby) (h1 : o.startDue = none) (h2 : o.stopDue = none)
    (h3 : o.restartDue = none) : { o with state := .standby, startDue := none, stopDue := none, restartDue := none } = o := by
  cases o
  cases hs
  cases h1
  cases h2
  cases h3
  rfl

/-- R201: a STANDBY in which no timer runs. -/
theorem testStart_eq_standby {s : State} (hs : s.osc.state = .standby) (h1 : s.osc.startDue = none)
    (h2 : s.osc.stopDue = none) (h3 : s.osc.restartDue = none) : s.testStart = s.standby := by
  rw [← enterStandby_eq_standby, State.enterStandby, Osc.standby_still hs h1 h2 h3]
  rfl

section
variable (s : State)

/-- R201: in STARTING. -/
theorem oscArrival_starting (hs : s.osc.state = .starting) (hm : s.cvp.measurement.faultWord = 0) : s.oscArrival =
    if 0 < s.cvp.measurement.actual.toInt then
      { s with osc := { s.osc with arrivalSeen := true, state := .producing, startDue := none } }
    else { s with osc := { s.osc with arrivalSeen := true } } := by
  simp only [State.oscArrival]
  split
  case h_2 =>
    rw [State.setOsc_cvp, hm]
    simp only [true_and]
    rfl
  all_goals
    next hother =>
    cases hs.symm.trans hother

/-- R203: in STOPPING. -/
theorem oscArrival_stopping (hs : s.osc.state = .stopping) : s.oscArrival =
    if s.cvp.measurement.actual.toInt ≤ (s.ratedOwn * 5 / 100 : Nat) then
      State.endStopping { s with osc := { s.osc with arrivalSeen := true } }
    else { s with osc := { s.osc with arrivalSeen := true } } := by
  simp only [State.oscArrival]
  split
  case h_3 => rfl
  all_goals
    next hother =>
    cases hs.symm.trans hother

/-- R201: in STANDBY. -/
theorem oscArrival_standby (hs : s.osc.state = .standby) :
    s.oscArrival = State.testStart { s with osc := { s.osc with arrivalSeen := true } } := by
  simp only [State.oscArrival]
  split
  case h_1 => rfl
  all_goals
    next hother =>
    cases hs.symm.trans hother

/-- In a state that is left by no arrival. -/
theorem oscArrival_other (h1 : s.osc.state ≠ .standby) (h2 : s.osc.state ≠ .starting) (h3 : s.osc.state ≠ .stopping) :
    s.oscArrival = { s with osc := { s.osc with arrivalSeen := true } } := by
  simp only [State.oscArrival]
  split
  case h_1 hs => exact absurd hs h1
  case h_2 hs => exact absurd hs h2
  case h_3 hs => exact absurd hs h3
  all_goals rfl

end

/-! ## The list timer (R206) -/

/-- R206: an entry is due 3600000 ms after its stamp, while stamps have not come round. -/
theorem listDueFor_eq {now : Clocks} {x : Stamp} (hage : now / 20000 - x.toNat ≤ 3600000) (hx : x.toNat ≤ now / 20000)
    (hlt : now / 20000 < 2 ^ 32) : listDueFor now x = ms (x.toNat + 3600000) := by
  have hstamp : (stampOf now).toNat = now / 20000 := by
    rw [stampOf, BitVec.toNat_ofNat]
    exact Nat.mod_eq_of_lt hlt
  have hsub : (stampOf now - x).toNat + x.toNat = now / 20000 := by
    rw [BitVec.toNat_sub, hstamp]
    have hxlt : x.toNat < 2 ^ 32 := x.isLt
    omega
  have hsum {a b c : Nat} (hc : c + b = a) (ha : a - b ≤ 3600000) : a + (3600000 - c) = b + 3600000 := by omega
  exact congrArg ms (hsum hsub hage)

/-- R206: the list timer drops the oldest stamp. -/
theorem exec_listTimer {s : State} {due : Clocks} {oldest : Stamp} {rest : List Stamp} (hdue : s.osc.listDue = some due)
    (hl : s.osc.tripList = oldest :: rest) : exec .listTimerExpiry s = .next { s with
      clock := max s.clock due
      osc := { s.osc with tripList := rest, listDue := rest.head?.map (listDueFor (max s.clock due)) }
      flm :=
        if rest.length = 3 ∧ s.flm.holds .restartLimit = true then
          s.flm.take (stampOf (max s.clock due)) (.gone .restartLimit)
        else s.flm } := by
  let u : State := { s with
    clock := max s.clock due
    osc := { s.osc with tripList := rest, listDue := rest.head?.map (listDueFor (max s.clock due)) } }
  have htimer : s.listTimer = if (oldest :: rest).length = 4 then u.reportGone .restartLimit else u := by
    simp only [State.listTimer, hdue, atDue_some, State.runTo_osc, hl, List.drop_succ_cons, List.drop_zero]
    rfl
  have hgone : u.reportGone .restartLimit =
      if s.flm.holds .restartLimit = true then u.quiet (.gone .restartLimit) else u := by
    rw [← report_gone_latching u rfl]
    rfl
  have hlength : (oldest :: rest).length = 4 ↔ rest.length = 3 := by simp
  rw [exec, execListTimerExpiry, htimer, hgone]
  simp only [hlength]
  by_cases hfull : rest.length = 3 <;> by_cases hholds : s.flm.holds .restartLimit = true <;>
    simp only [hfull, hholds, true_and, false_and, if_true, if_false, and_self] <;> rfl

/-- Settles O37: what the OSC does at the arrival, and what each timer leaves. -/
theorem productionStartsAndEnds : Obligations.ProductionStartsAndEnds := by
  constructor
  · intro dt bit m s ha hm hq hr now u
    have hplain (hs : s.osc.state ≠ .producing) := exec_plainArrival (dt := dt) ha hm hq hr hs
    let v : State := { s with clock := now, cvp := s.cvp.afterArrival now m }
    refine ⟨fun hs => ?_, fun hs he => ?_, fun hs h1 h2 h3 => ?_⟩
    · rw [hplain (by rw [hs]; decide), oscArrival_starting v hs hm]
      rfl
    · rw [hplain (by rw [hs]; decide), oscArrival_stopping v hs]
      exact congrArg Host.Outcome.next (if_congr Iff.rfl (endStopping_eq (s := u) he) rfl)
    · rw [hplain (by rw [hs]; decide), oscArrival_standby v hs]
      exact congrArg Host.Outcome.next (testStart_eq_standby (s := u) hs h1 h2 h3)
  · intro due s u
    refine ⟨fun hdue he => ?_, fun hdue => ?_, fun hdue oldest rest hl => ?_⟩
    · have hstop : s.stopTimer = u.endStopping := by
        rw [← endStopping_of_stopDue u, State.stopTimer, hdue]
        rfl
      rw [exec, execStopTimerExpiry, hstop, endStopping_eq (s := u) he]
    · have hrestart : s.restartDelay = u.enterStandby := by
        rw [State.restartDelay, hdue]
        rfl
      rw [exec, execRestartDelayExpiry, hrestart, enterStandby_eq_standby]
    · refine ⟨_, exec_listTimer hdue hl, ?_, fun next_ hnext hage hle hlt => ?_⟩
      · simp
      · rw [hnext]
        exact congrArg some (listDueFor_eq hage hle hlt)

end Sys2Proof.Machine
end

section
/-! SUPPORT. Ride-through from one arrival to the next, and its two ends: by the trip curve and by recovery (R77, R98 to R100,
R169, R202). -/

namespace Sys2Proof.Machine

/-- A state that differs from another in the arbiter, the yaw controller, the cooling controller and the fault manager. -/
theorem State.eq_of_frame {u v : State} (h1 : u.clock = v.clock) (h2 : u.slc = v.slc) (h3 : u.ptb = v.ptb)
    (h4 : u.scu = v.scu) (h5 : u.cvp = v.cvp) (h6 : u.cts = v.cts) (h7 : u.osc = v.osc) (h8 : u.unreceived = v.unreceived)
    (h9 : u.pending = v.pending) : u = { v with apa := u.apa, ywc := u.ywc, clc := u.clc, flm := u.flm } := by
  rw [← h1, ← h2, ← h3, ← h4, ← h5, ← h6, ← h7, ← h8, ← h9]

/-! ## Shedding that waits for a yaw grant (R165, R168) -/

section
variable (s : State)

@[simp] theorem State.grantFan_shedPending : s.grantFan.apa.shedPending = s.apa.shedPending := by
  simp only [State.grantFan]
  split <;> rfl

@[simp] theorem State.tryFan_shedPending : s.tryFan.apa.shedPending = s.apa.shedPending := by
  simp only [State.tryFan]
  split <;> simp

@[simp] theorem State.grantYaw_shedPending (k : Nat) : (s.grantYaw k).apa.shedPending = s.apa.shedPending := by
  simp [State.grantYaw, quietGone_eq]

@[simp] theorem State.tryYaw_shedPending : s.tryYaw.apa.shedPending = s.apa.shedPending := by
  simp only [State.tryYaw]
  split <;> simp

@[simp] theorem State.tryRequests_shedPending : s.tryRequests.apa.shedPending = s.apa.shedPending := by
  simp only [State.tryRequests]
  split <;> simp

@[simp] theorem State.shed_shedPending : s.shed.apa.shedPending = false := rfl

/-- R165, R168: with the yaw grant no shedding waits any more. -/
@[simp] theorem State.releaseYaw_shedPending : s.releaseYaw.apa.shedPending = false := by
  simp only [State.releaseYaw, State.tryRequests_shedPending]
  split
  · rfl
  · next h => exact Bool.eq_false_iff.mpr h

variable {s} (h : s.apa.shedPending = false)
include h

theorem enterBrakeApply_shedPending : s.enterBrakeApply.apa.shedPending = false := by
  simp only [State.enterBrakeApply]
  split
  · exact h
  · simp [State.endMove]

theorem yawStopCause_shedPending : (s.yawStopCause false).apa.shedPending = false := by
  simp only [State.yawStopCause]
  split
  case h_1 => exact h
  case h_2 | h_3 => exact enterBrakeApply_shedPending h
  all_goals exact h

/-- R166: an examination owes no shedding. -/
theorem examine_shedPending : s.examine.apa.shedPending = false := by
  simp only [State.examine]
  split
  · exact yawStopCause_shedPending (by simpa using h)
  · simpa using h

end

/-! ## What a turn-off leaves of a ride-through -/

/-- R77, R98: the ride-through, the applied share and the demand held at its entry. -/
def State.course (s : State) : Riding × Nat × Nat := (s.riding, s.scu.sApp, s.scu.dHold)

section
variable (s : State)

@[simp] theorem State.enableOff_course : s.enableOff.course = s.course := by
  have hfigures : s.enableOff.scu.sApp = s.scu.sApp ∧ s.enableOff.scu.dHold = s.scu.dHold := by
    simp only [State.enableOff]
    split <;> exact ⟨rfl, rfl⟩
  obtain ⟨happ, hhold⟩ := hfigures
  rw [State.course, State.enableOff_riding, happ, hhold]
  rfl

@[simp] theorem State.enterTripped_course : s.enterTripped.course = s.course := by
  rw [enterTripped_eq]
  exact s.enableOff_course

@[simp] theorem State.oscTripHolds_course : s.oscTripHolds.course = s.course := by
  simp only [State.oscTripHolds]
  split
  case h_1 | h_2 | h_3 | h_4 => split <;> simp
  all_goals rfl

@[simp] theorem State.oscLeaveRideThrough_course (trip : Bool) : (s.oscLeaveRideThrough trip).course = s.course := by
  simp only [State.oscLeaveRideThrough]
  split
  case h_1 =>
    split
    · simp
    · rfl
  all_goals rfl

/-- R204: the entry to TRIPPED moves the fault manager by its own reports alone. -/
theorem enterTripped_flm : s.enterTripped.flm = s.trippedFlm := by rw [enterTripped_eq]

theorem oscTripHolds_flm : s.oscTripHolds.flm = s.flm ∨ s.oscTripHolds.flm = s.trippedFlm := by
  simp only [State.oscTripHolds]
  split
  case h_1 | h_2 | h_3 | h_4 =>
    split
    · exact .inl rfl
    · exact .inr (enterTripped_flm s)
  all_goals exact .inl rfl

theorem oscLeaveRideThrough_flm (trip : Bool) :
    (s.oscLeaveRideThrough trip).flm = s.flm ∨ (s.oscLeaveRideThrough trip).flm = s.trippedFlm := by
  simp only [State.oscLeaveRideThrough]
  split
  case h_1 =>
    split
    · exact .inr (enterTripped_flm s)
    · exact .inl rfl
  all_goals exact .inl rfl

/-! ## A station out of production by a trip (R80, R204) -/

/-- R80, R199, R204: TRIPPED with the enable off, the extra block handed, and no restart delay. -/
structure State.OutOfService (s : State) : Prop where
  state : s.osc.state = .tripped
  enable : s.osc.enable = false
  restart : s.osc.restartDue = none
  limit : s.scu.eLim = 0
  disabled : s.scu.enable = false
  backEnable : s.cvp.backEnable = false
  backLimit : s.cvp.backLimit = 0

theorem enterTripped_outOfService (he : s.osc.enable = true) (htrip : s.flm.reaction.trip = true) :
    s.enterTripped.OutOfService := by
  rw [enterTripped_of_trip s he htrip]
  obtain ⟨henable, hlimit, -⟩ := s.cvp.handed_extra s.clock
  exact ⟨rfl, rfl, rfl, rfl, rfl, henable, hlimit⟩

/-! ## The end of a ride-through (R77, R100, R169, R202) -/

/-- R77, R100: the state with the CVP and the hold out of ride-through. -/
def State.unheld : State :=
  { s with
    cvp := { s.cvp with rideThrough := false, recoveryDue := none, curveDue := none }, scu := { s.scu with hold := false } }

/-- R77, R100, R169: and with the budget, the OSC not yet told. -/
def State.left : State := s.unheld.apaLeaveRideThrough

theorem left_outlook : s.left.outlook = { s.outlook with
    cvp := { s.cvp with rideThrough := false, recoveryDue := none, curveDue := none }, scu := { s.scu with hold := false }
    rideThrough := false } := State.apaLeaveRideThrough_outlook _

theorem leaveRideThrough_eq (trip : Bool) :
    s.leaveRideThrough trip = (s.left.oscLeaveRideThrough trip).quiet (.gone .rideThroughEvent) :=
  State.report_mild (s.left.oscLeaveRideThrough trip) (.gone .rideThroughEvent) rfl

/-- R100, R169: the exit at the APA moves grants, fans, the move and the records of the arbiter alone. -/
theorem left_eq : s.left = { s with
    cvp := { s.cvp with rideThrough := false, recoveryDue := none, curveDue := none }, scu := { s.scu with hold := false }
    apa := s.left.apa, ywc := s.left.ywc, clc := s.left.clc, flm := s.left.flm } := by
  refine State.eq_of_frame (v := s.unheld) ?_ ?_ ?_ ?_ ?_ ?_ ?_ ?_ ?_ <;> simp [State.left]

theorem left_shedPending : s.left.apa.shedPending = false := examine_shedPending rfl

theorem left_rideThrough : s.left.apa.rideThrough = false := congrArg Outlook.rideThrough (left_outlook s)

theorem left_trip : s.left.flm.reaction.trip = s.flm.reaction.trip := congrArg Outlook.trip (left_outlook s)

theorem left_holds {c : FaultCode} (hc : c.ofArbiter = false) : s.left.flm.holds c = s.flm.holds c := by
  have hall := congrFun (congrArg Outlook.holds (left_outlook s)) c
  simpa only [State.outlook, hc, Bool.false_or] using hall

/-- R77, R100: what the exit leaves of the ride-through. -/
theorem leaveRideThrough_course (trip : Bool) : (s.leaveRideThrough trip).course =
    ({ s.riding with hold := false, budget := false, rideThrough := false, curveDue := none, recoveryDue := none },
      s.scu.sApp, s.scu.dHold) := by
  have hleft : s.left.course =
      ({ s.riding with hold := false, budget := false, rideThrough := false, curveDue := none, recoveryDue := none },
        s.scu.sApp, s.scu.dHold) := by
    rw [State.course, State.riding, (left_rideThrough s), left_eq]
    rfl
  rw [leaveRideThrough_eq, ← hleft, ← s.left.oscLeaveRideThrough_course trip]
  rfl

theorem leaveRideThrough_trip (trip : Bool) (h : s.flm.reaction.trip = true) :
    (s.leaveRideThrough trip).flm.reaction.trip = true := by
  have hleft : s.left.flm.reaction.trip = true := (left_trip s).trans h
  have htold : (s.left.oscLeaveRideThrough trip).flm.reaction.trip = true := by
    rcases oscLeaveRideThrough_flm s.left trip with hflm | hflm
    · rw [hflm, hleft]
    · rw [hflm, trippedFlm_trip _ hleft]
  rw [leaveRideThrough_eq]
  exact (Flm.take_any (fun c => c.severity.trips) _ _ (.gone .rideThroughEvent) rfl).trans htold

theorem leaveRideThrough_rideThroughEvent (trip : Bool) :
    (s.leaveRideThrough trip).flm.holds .rideThroughEvent = false := by
  rw [leaveRideThrough_eq]
  exact Flm.takeGone_holds _ _ _

/-- R172: the exit reports three codes of its own. -/
theorem leaveRideThrough_holds (trip : Bool) {c : FaultCode} (hc : c.ofArbiter = false) (h1 : c ≠ .rideThroughEvent)
    (h2 : c ≠ .restartLimit) (h3 : c ≠ .startTimeout) : (s.leaveRideThrough trip).flm.holds c = s.flm.holds c := by
  have htold : (s.left.oscLeaveRideThrough trip).flm.holds c = s.left.flm.holds c := by
    rcases oscLeaveRideThrough_flm s.left trip with hflm | hflm
    · rw [hflm]
    · rw [hflm, trippedFlm_holds_other _ h2 h3]
  rw [leaveRideThrough_eq, ← left_holds s hc, ← htold]
  exact Flm.take_holds_other _ _ (.gone .rideThroughEvent) fun hi => h1 (FaultCode.index_injective hi).symm

/-- R202: the exit by trip takes a station in RIDE_THROUGH out of service. -/
theorem leaveRideThrough_outOfService (hs : s.osc.state = .rideThrough) (he : s.osc.enable = true)
    (htrip : s.flm.reaction.trip = true) : (s.leaveRideThrough true).OutOfService := by
  have hosc : s.left.osc = s.osc := congrArg Outlook.osc (left_outlook s)
  have htold : s.left.oscLeaveRideThrough true = s.left.enterTripped := by
    simp only [State.oscLeaveRideThrough, hosc, hs, if_true]
  have hout := enterTripped_outOfService s.left (by rw [hosc, he]) ((left_trip s).trans htrip)
  rw [leaveRideThrough_eq, htold]
  exact ⟨hout.state, hout.enable, hout.restart, hout.limit, hout.disabled, hout.backEnable, hout.backLimit⟩

/-- R202: a station out of service already stays so. -/
theorem leaveRideThrough_of_outOfService (h : s.OutOfService) : (s.leaveRideThrough true).OutOfService := by
  have htold : s.left.oscLeaveRideThrough true = s.left := by
    have hosc : s.left.osc.state = .tripped := (congrArg (fun x : Outlook => x.osc.state) (left_outlook s)).trans h.state
    simp only [State.oscLeaveRideThrough, hosc]
  rw [leaveRideThrough_eq, htold, left_eq]
  exact ⟨h.state, h.enable, h.restart, h.limit, h.disabled, h.backEnable, h.backLimit⟩

/-! ## The curve deadline (R98) -/

/-- R98: the report that the deadline makes. -/
theorem report_trip_course {c : FaultCode} (hc : c.severity = .trip) (v : Int) :
    (s.report (.present c v)).course = s.course := by
  rw [report_trip s hc]
  split
  · rfl
  · rw [State.oscTripHolds_course]
    rfl

theorem report_trip_flm {c : FaultCode} (hc : c.severity = .trip) (v : Int) :
    (s.report (.present c v)).flm = (s.quiet (.present c v)).flm ∨
      (s.report (.present c v)).flm = (s.quiet (.present c v)).trippedFlm := by
  rw [report_trip s hc]
  split
  · exact .inl rfl
  · exact oscTripHolds_flm _

/-- R180: the trip is in force once it is reported. -/
theorem report_trip_trip {c : FaultCode} (hc : c.severity = .trip) (v : Int) :
    (s.report (.present c v)).flm.reaction.trip = true := by
  have hquiet : (s.quiet (.present c v)).flm.reaction.trip = true := s.flm.trip_take_present _ hc v
  rcases report_trip_flm s hc v with hflm | hflm
  · rw [hflm, hquiet]
  · rw [hflm, trippedFlm_trip _ hquiet]

theorem report_trip_holds {c : FaultCode} (hc : c.severity = .trip) (v : Int) {d : FaultCode} (h2 : d ≠ .restartLimit)
    (h3 : d ≠ .startTimeout) : (s.report (.present c v)).flm.holds d = (s.quiet (.present c v)).flm.holds d := by
  rcases report_trip_flm s hc v with hflm | hflm
  · rw [hflm]
  · rw [hflm, trippedFlm_holds_other _ h2 h3]

/-- R98, R202: at the deadline a station in RIDE_THROUGH goes out of service, by the report where it makes the trip come to
hold, else by the exit. -/
theorem curveReached_outOfService (hs : s.osc.state = .rideThrough) (he : s.osc.enable = true) :
    s.curveReached.OutOfService := by
  let r : Report := .present .gridUndervoltageTrip s.cvp.lowest
  by_cases htrip : s.flm.reaction.trip = true
  · have hreport : s.report r = s.quiet r := (report_trip s rfl _).trans (if_pos htrip)
    rw [State.curveReached, hreport]
    exact leaveRideThrough_outOfService _ hs he (s.flm.trip_take_present _ rfl _)
  · have hp : s.osc.state.isProducing = true := by rw [hs]; rfl
    obtain ⟨⟨hframe, hosc, -⟩, -⟩ := report_tripsTo s (c := .gridUndervoltageTrip) rfl s.cvp.lowest hp he
      (Bool.eq_false_iff.mpr htrip)
    obtain ⟨henable, hlimit, -⟩ := s.cvp.handed_extra s.clock
    refine leaveRideThrough_of_outOfService _ ?_
    rw [hframe, hosc]
    exact ⟨rfl, rfl, rfl, rfl, rfl, henable, hlimit⟩

end

/-- R98: what a deadline reached leaves, whatever the operating state. -/
theorem curveReached_course (s : State) : s.curveReached.course =
    ({ s.riding with hold := false, budget := false, rideThrough := false, curveDue := none, recoveryDue := none },
      s.scu.sApp, s.scu.dHold) := by
  have hreport := report_trip_course s (c := .gridUndervoltageTrip) rfl s.cvp.lowest
  simp only [State.course, Prod.mk.injEq] at hreport
  obtain ⟨hriding, happ, hhold⟩ := hreport
  rw [State.curveReached, leaveRideThrough_course, hriding, happ, hhold]

theorem curveReached_gridOvervoltage (s : State) :
    s.curveReached.flm.holds .gridOvervoltage = s.flm.holds .gridOvervoltage := by
  rw [State.curveReached, leaveRideThrough_holds _ _ rfl (by decide) (by decide) (by decide),
    report_trip_holds s rfl _ (by decide) (by decide)]
  exact s.flm.take_holds_other _ (.present .gridUndervoltageTrip _)
    (show FaultCode.gridUndervoltageTrip.index ≠ FaultCode.gridOvervoltage.index by decide)

theorem leaveRideThrough_clock (s : State) (trip : Bool) : (s.leaveRideThrough trip).clock = s.clock := by
  have hleft : s.left.clock = s.clock := by rw [left_eq]
  have htold : (s.left.oscLeaveRideThrough trip).clock = s.left.clock := by
    simp only [State.oscLeaveRideThrough]
    split
    case h_1 => split <;> simp
    all_goals rfl
  rw [leaveRideThrough_eq, ← hleft, ← htold]
  rfl

theorem curveReached_clock (s : State) : s.curveReached.clock = s.clock := by
  rw [State.curveReached, leaveRideThrough_clock, State.report_clock]

/-- R98, R100: CURVE_DEADLINE in ride-through. -/
theorem curveReached_spec (s : State) (he : s.osc.enable = s.osc.state.isProducing) :
    let t := s.curveReached
    t.flm.holds .gridUndervoltageTrip = true ∧ t.flm.holds .rideThroughEvent = false ∧ t.cvp.rideThrough = false ∧
      t.cvp.curveDue = none ∧ t.cvp.recoveryDue = none ∧ t.cvp.lowest = s.cvp.lowest ∧ t.cvp.entryTime = s.cvp.entryTime ∧
      t.scu.hold = false ∧ t.scu.sApp = s.scu.sApp ∧ t.scu.dHold = s.scu.dHold ∧ t.apa.rideThrough = false ∧
      t.flm.reaction.trip = true ∧ (s.osc.state = .rideThrough → t.OutOfService) := by
  have hcourse := curveReached_course s
  simp only [State.course, State.riding, Prod.mk.injEq, Riding.mk.injEq] at hcourse
  obtain ⟨⟨hhold, hbudget, hride, hentry, hlowest, hcurve, hrecovery⟩, happ, hheld⟩ := hcourse
  refine ⟨?_, leaveRideThrough_rideThroughEvent _ _, hride, hcurve, hrecovery, hlowest, hentry, hhold, happ, hheld, hbudget,
    leaveRideThrough_trip _ _ (report_trip_trip s rfl _), fun hs => curveReached_outOfService s hs (by rw [he, hs]; rfl)⟩
  rw [State.curveReached, leaveRideThrough_holds _ _ rfl (by decide) (by decide) (by decide),
    report_trip_holds s rfl _ (by decide) (by decide)]
  exact s.flm.takePresent_holds _ _ _

/-- R100, R202: RECOVERY_TIMER_EXPIRY in ride-through. -/
theorem leaveRideThrough_recovery (s : State) :
    let t := s.leaveRideThrough false
    t = { s with
      cvp := { s.cvp with rideThrough := false, recoveryDue := none, curveDue := none }
      scu := { s.scu with hold := false }
      osc := if s.osc.state = .rideThrough then { s.osc with state := .producing } else s.osc
      apa := t.apa, ywc := t.ywc, clc := t.clc, flm := t.flm } ∧
    t.apa.rideThrough = false ∧ t.apa.shedPending = false ∧ t.flm.holds .rideThroughEvent = false := by
  have hosc : s.left.osc = s.osc := congrArg Outlook.osc (left_outlook s)
  have htold : s.left.oscLeaveRideThrough false =
      s.left.setOsc (if s.osc.state = .rideThrough then { s.osc with state := .producing } else s.osc) := by
    simp only [State.oscLeaveRideThrough, hosc]
    split
    case h_1 hs => rw [if_pos hs, if_neg Bool.false_ne_true]
    all_goals
      next hs =>
      rw [if_neg (by rw [hs]; decide), ← hosc]
      rfl
  intro t
  have ht : t = (s.left.oscLeaveRideThrough false).quiet (.gone .rideThroughEvent) := leaveRideThrough_eq s false
  rw [htold] at ht
  refine ⟨?_, ?_, ?_, leaveRideThrough_rideThroughEvent s false⟩
  · rw [ht, left_eq]
    rfl
  · rw [ht]
    exact left_rideThrough s
  · rw [ht]
    exact left_shedPending s

/-! ## Arrivals in ride-through (R94, R98, R99) -/

/-- R94, R98: an arrival in ride-through with a clear fault word and nothing to report gone. -/
theorem exec_ridingArrival {s : State} {dt : Clocks} {bit : Bool} {m : Measurement} (ha : s.arrives bit m)
    (hm : m.faultWord = 0) (hq : s.portQuiet) (hr : s.cvp.rideThrough = true) :
    exec (.measurementArrival dt bit) s = .next
      (((s.written (s.clock + dt) m).arrivalInRideThrough m.voltage.toNat).judgeOvervoltage m.voltage.toNat).oscArrival := by
  obtain ⟨-, -, hunder, -⟩ := id hq
  let u : State := s.written (s.clock + dt) m
  have hride : u.cvp.rideThrough = true := hr
  rw [exec_quietArrival ha hm hq, judgeVoltage_quiet (s := u) hunder, if_pos hride]
  rfl

/-- Settles O40: the arrival by the three cases of R98 and R99, then the two ends. -/
theorem rideThroughRunsAndEnds : Obligations.RideThroughRunsAndEnds := by
  constructor
  · intro dt bit m s ha hm hq hr hs now v deadline c recovery
    obtain ⟨-, -, -, hover⟩ := id hq
    let u : State := s.written now m
    have hexec : exec (.measurementArrival dt bit) s = .next
      ((u.arrivalInRideThrough v).judgeOvervoltage v).oscArrival := exec_ridingArrival ha hm hq hr
    have harrived {t : State} (ht : t.osc.state = .rideThrough) :
        t.oscArrival = { t with osc := { t.osc with arrivalSeen := true } } :=
      oscArrival_other t (by rw [ht]; decide) (by rw [ht]; decide) (by rw [ht]; decide)
    refine ⟨fun hlow => ?_, fun hlow hdue => ?_, fun hlow hdue he => ?_⟩
    · have hrun : u.arrivalInRideThrough v = u.setCvp (u.cvp.recover now v) := if_neg (Nat.not_lt.mpr hlow)
      rw [hexec, hrun, judgeOvervoltage_quiet (s := u.setCvp _) hover, harrived (t := (u.setCvp _).setCvp _) hs]
      rfl
    · have hrun : u.arrivalInRideThrough v = u.setCvp ((u.cvp.lower v).recover now v) :=
        (if_pos hlow).trans (if_neg (Nat.not_le.mpr hdue))
      rw [hexec, hrun, judgeOvervoltage_quiet (s := u.setCvp _) hover, harrived (t := (u.setCvp _).setCvp _) hs]
      rfl
    · let w : State := u.setCvp (u.cvp.lower v)
      have hrun : u.arrivalInRideThrough v = w.curveReached := (if_pos hlow).trans (if_pos hdue)
      have hcourse := curveReached_course w
      simp only [State.course, State.riding, Prod.mk.injEq, Riding.mk.injEq] at hcourse
      obtain ⟨⟨hhold, -, hride, -, hlowest, -⟩, -⟩ := hcourse
      have hout : w.curveReached.OutOfService := curveReached_outOfService w hs he
      have hquiet : w.curveReached.flm.holds .gridOvervoltage = false := (curveReached_gridOvervoltage w).trans hover
      have hstate := hout.state
      rw [hexec, hrun, judgeOvervoltage_quiet hquiet,
        oscArrival_other _ (by rw [State.setCvp_osc, hstate]; decide) (by rw [State.setCvp_osc, hstate]; decide)
          (by rw [State.setCvp_osc, hstate]; decide)]
      exact ⟨_, rfl, hstate, hout.enable, hride, hlowest, hhold⟩
  · intro due s hr
    let u : State := s.runTo due
    refine ⟨fun hdue he => ?_, fun hdue => ?_⟩
    · obtain ⟨hunder, hevent, hride, hcurve, hrecovery, hlowest, hentry, hhold, happ, hheld, hbudget, htrip, hout⟩ :=
        curveReached_spec u he
      have hexec : exec .curveDeadline s = .next u.curveReached := by
        rw [exec, execCurveDeadline, State.curveDeadline, hdue]
        rfl
      refine ⟨_, hexec, curveReached_clock u, hunder, hevent, hride, hcurve, hrecovery, hlowest, hentry, hhold, happ, hheld,
        hbudget, htrip, fun hs => ?_⟩
      obtain ⟨h1, h2, h3, h4, h5, h6, h7⟩ := hout hs
      exact ⟨h1, h2, h3, h4, h5, h6, h7⟩
    · have hexec : exec .recoveryTimerExpiry s = .next (u.leaveRideThrough false) := by
        rw [exec, execRecoveryTimerExpiry, State.recoveryTimer, hdue]
        rfl
      exact ⟨_, hexec, leaveRideThrough_recovery u⟩

end Sys2Proof.Machine
end

section
/-! SUPPORT. A dip while PRODUCING: the arbiter under the ride-through budget, the move that is stopped, and the arrival that
begins the ride-through (R76, R97, R98, R119, R160 to R168). -/

namespace Sys2Proof.Machine

/-! ## The granted total under the budget in force (R160, R163, R168) -/

/-- R160: the granted total is in the budget in force. -/
def Apa.fits (a : Apa) : Prop := a.total ≤ a.inForce

/-- R142, R160, R167: the fans that run are those granted, and the budget in force covers the pump. -/
def State.sheddable (s : State) : Prop :=
  setCount s.clc.runs = s.apa.fansGranted ∧ s.apa.figures.pumpLoad ≤ s.apa.inForce

section
variable {s : State}

/-- R168: with no yaw motor granted, shedding brings the total into the budget. -/
theorem shed_fits (h : s.sheddable) (hg : s.apa.yawGranted = 0) : s.shed.apa.fits := by
  obtain ⟨hcount, hpump⟩ := h
  obtain ⟨m, -, hapa, -, hfits, -⟩ := takeBackFans_spec hcount (Nat.le_refl _)
  have hshed : s.shed.apa = { s.apa with fansGranted := m, shedPending := false } := by
    simp only [State.shed, State.setApa_apa, hapa]
  have htotal : s.apa.totalWith m ≤ s.apa.inForce := by
    rcases hfits with rfl | hfits
    · simpa [Apa.totalWith, Apa.total, hg] using hpump
    · exact hfits
  rw [hshed]
  exact htotal

@[simp] theorem State.shed_yawGranted (s : State) : s.shed.apa.yawGranted = s.apa.yawGranted := by
  have htaken (n : Nat) : ∀ s : State, (s.takeBackFans n).apa.yawGranted = s.apa.yawGranted := by
    induction n with
    | zero => exact fun _ => rfl
    | succ n ih =>
      intro s
      simp only [State.takeBackFans]
      split
      · rw [ih, State.stopFan_apa]
        rfl
      · rfl
  exact htaken _ s

/-- R163: a fan is granted only where there is power for it. -/
theorem tryFan_fits (h : s.apa.fits) : s.tryFan.apa.fits := by
  simp only [State.tryFan]
  split
  · next hfan =>
    obtain ⟨-, hfree, -⟩ := hfan
    obtain ⟨hapa, -⟩ := grantFan_spec s
    have hfree : s.apa.figures.fanLoad + s.apa.total ≤ s.apa.inForce := by
      simp only [Apa.free] at hfree
      omega
    rw [hapa]
    split
    · have htotal : ({ s.apa with fanRequest := false, fansGranted := s.apa.fansGranted + 1 } : Apa).total =
          s.apa.figures.fanLoad + s.apa.total := by
        simp only [Apa.total, Nat.mul_succ]
        omega
      exact htotal.le.trans hfree
    · exact h
  · exact h

/-- R165, R168: a release of the yaw grant that shedding waits for. -/
theorem releaseYaw_fits (h : s.sheddable) (hr : s.apa.yawRequest = none) (hp : s.apa.shedPending = true) :
    s.releaseYaw.apa.fits ∧ s.releaseYaw.apa.yawGranted = 0 := by
  let u : State := s.setApa { s.apa with yawGranted := 0, overrideSent := false }
  have hrelease : s.releaseYaw = u.shed.tryFan := by
    have hshed : (if u.apa.shedPending then u.shed else u) = u.shed := if_pos hp
    rw [State.releaseYaw, hshed, tryRequests_of_none (by rw [State.shed_yawRequest]; exact hr)]
  rw [hrelease]
  exact ⟨tryFan_fits (shed_fits (s := u) h rfl), by rw [tryFan_yawGranted, State.shed_yawGranted]; rfl⟩

/-! ## A move stopped (R119, R121) -/

/-- R121: BRAKE_APPLY with the outputs off. -/
def State.braked (s : State) : State :=
  s.setYwc (Ywc.setBrake s.clock
    (Ywc.setDrives s.clock { s.ywc with state := .brakeApply } (Vector.replicate 6 false) s.ywc.running) false s.ywc.brakeIn)

theorem enterBrakeApply_eq (s : State) : s.enterBrakeApply = if s.ywc.brakeIn then s.braked else s.braked.endMove := rfl

/-- R121: with the brake released input on, the grant is held in BRAKE_APPLY. -/
theorem enterBrakeApply_held (hb : s.ywc.brakeIn = true) : s.enterBrakeApply.apa = s.apa := by
  rw [enterBrakeApply_eq, if_pos hb]
  rfl

/-- R121: with the input off, the move ends at once. -/
theorem enterBrakeApply_ended (hb : s.ywc.brakeIn = false) (h : s.sheddable) (hr : s.apa.yawRequest = none)
    (hp : s.apa.shedPending = true) :
    s.enterBrakeApply.ywc.move = none ∧ s.enterBrakeApply.apa.fits ∧ s.enterBrakeApply.apa.yawGranted = 0 := by
  obtain ⟨retry, hidle⟩ := yawToIdle_ywc s.braked.releaseYaw
  rw [enterBrakeApply_eq, if_neg (by rw [hb]; exact Bool.false_ne_true), State.endMove, hidle, State.yawToIdle_apa]
  exact ⟨rfl, releaseYaw_fits (s := s.braked) h hr hp⟩

/-! ## The budget of ride-through (R167) -/

theorem apaEnterRideThrough_ungranted (hg : s.apa.yawGranted = 0) :
    s.apaEnterRideThrough = (s.setApa { s.apa with rideThrough := true }).shed :=
  if_neg (show ¬ 0 < s.apa.yawGranted by rw [hg]; exact Nat.lt_irrefl 0)

theorem apaEnterRideThrough_turning (hg : 0 < s.apa.yawGranted)
    (hw : s.ywc.state = .brakeRelease ∨ s.ywc.state = .moving) : s.apaEnterRideThrough =
      (s.setApa { s.apa with rideThrough := true, shedPending := true }).enterBrakeApply := by
  have hstop : s.apaEnterRideThrough =
      (s.setApa { s.apa with rideThrough := true, shedPending := true }).yawStopCause false := if_pos hg
  rw [hstop]
  simp only [State.yawStopCause, State.setApa_ywc]
  rcases hw with hw | hw <;> rw [hw]

end

/-! ## The entry (R76, R97, R98) -/

section
variable (s : State) (v : Nat)

/-- R76, R97, R98: the state with the CVP, the OSC and the hold in ride-through, the APA not yet told. -/
def State.dipped : State :=
  { s with
    cvp := { s.cvp with
      rideThrough := true, entryTime := s.clock, lowest := v, curveDue := some (s.clock + allowedTime v), recoveryDue := none }
    osc := { s.osc with state := .rideThrough }, scu := { s.scu with hold := true, dHold := s.scu.announced } }

theorem enterRideThrough_eq :
    s.enterRideThrough v = (s.dipped v).apaEnterRideThrough.quiet (.present .rideThroughEvent v) :=
  State.report_mild (s.dipped v).apaEnterRideThrough (.present .rideThroughEvent v) rfl

/-- R167: the arbiter moves grants, fans, the move and its own records alone. -/
theorem apaEnterRideThrough_eq : s.apaEnterRideThrough = { s with
    apa := s.apaEnterRideThrough.apa, ywc := s.apaEnterRideThrough.ywc, clc := s.apaEnterRideThrough.clc
    flm := s.apaEnterRideThrough.flm } := by
  refine State.eq_of_frame (v := s) ?_ ?_ ?_ ?_ ?_ ?_ ?_ ?_ ?_ <;> simp

/-- R97, R172: the entry reports one code beside those of the arbiter. -/
theorem enterRideThrough_holds {c : FaultCode} (hc : c.ofArbiter = false) (h : c ≠ .rideThroughEvent) :
    (s.enterRideThrough v).flm.holds c = s.flm.holds c := by
  have hall := congrFun (congrArg Outlook.holds (s.dipped v).apaEnterRideThrough_outlook) c
  have hentered : (s.dipped v).apaEnterRideThrough.flm.holds c = (s.dipped v).flm.holds c := by
    simpa only [State.outlook, hc, Bool.false_or] using hall
  rw [enterRideThrough_eq]
  exact (Flm.take_holds_other _ _ (.present .rideThroughEvent v) fun hi => h (FaultCode.index_injective hi).symm).trans hentered

end

/-- R168: what the entry sheds. -/
theorem apaEnterRideThrough_shed {s : State} (h : s.powerSound) (hg : s.apa.yawGranted = 0) :
    s.apaEnterRideThrough.apa.fits ∧ s.apaEnterRideThrough.apa.shedPending = false ∧
      s.apaEnterRideThrough.ywc = s.ywc := by
  obtain ⟨hcount, -, hpump, -⟩ := h
  let u : State := s.setApa { s.apa with rideThrough := true }
  rw [apaEnterRideThrough_ungranted hg]
  exact ⟨shed_fits (s := u) ⟨(setCount_runs _).trans hcount, hpump⟩ hg, rfl, State.shed_ywc _⟩

/-- R119, R121, R167, R168: the entry stops a move. -/
theorem apaEnterRideThrough_stopped {s : State} (hy : s.yawSound) (h : s.powerSound)
    (hw : s.ywc.state = .brakeRelease ∨ s.ywc.state = .moving) :
    s.stopped s.apaEnterRideThrough ∧ (s.ywc.brakeIn = false → s.apaEnterRideThrough.apa.fits) := by
  have hr : s.apa.yawRequest = none := yawRequest_of_turning hy hw
  have hg : 0 < s.apa.yawGranted := by
    obtain ⟨-, -, -, -, hidle, -⟩ := hy
    refine Nat.pos_of_ne_zero fun h0 => ?_
    rcases hidle.mp h0 with hstate | hstate <;> rcases hw with hw | hw <;> cases hstate.symm.trans hw
  obtain ⟨hcount, -, hpump, -⟩ := h
  let u : State := s.setApa { s.apa with rideThrough := true, shedPending := true }
  have hu : u.sheddable := ⟨(setCount_runs _).trans hcount, hpump⟩
  obtain ⟨hout, henables, hstate⟩ := enterBrakeApply_ywc (s := u) hr
  rw [apaEnterRideThrough_turning hg hw]
  refine ⟨⟨hout, henables, ?_⟩, fun hb => ?_⟩
  · by_cases hb : s.ywc.brakeIn = true
    · rw [if_pos hb]
      have hheld : u.enterBrakeApply.apa = u.apa := enterBrakeApply_held (s := u) hb
      exact ⟨hstate.trans (if_pos hb), (congrArg Apa.yawGranted hheld).trans rfl⟩
    · obtain ⟨hmove, -, hgranted⟩ := enterBrakeApply_ended (s := u) (Bool.eq_false_iff.mpr hb) hu hr rfl
      rw [if_neg hb]
      exact ⟨hstate.trans (if_neg hb), hmove, hgranted⟩
  · obtain ⟨-, hfits, -⟩ := enterBrakeApply_ended (s := u) hb hu hr rfl
    exact hfits

/-- R160, R167: in ride-through the ride-through budget is in force. -/
theorem fits_iff_of_rideThrough {a : Apa} (h : a.rideThrough = true) : a.fits ↔ a.total ≤ a.figures.budgetRt := by
  rw [Apa.fits, Apa.inForce, if_pos h]

/-- R94, R97: the arrival of a dip. -/
theorem exec_dip {s : State} {dt : Clocks} {bit : Bool} {m : Measurement} (ha : s.arrives bit m) (hm : m.faultWord = 0)
    (hq : s.portQuiet) (hr : s.cvp.rideThrough = false) (hs : s.osc.state = .producing) (hv : m.voltage.toNat < 850) :
    let u : State := (s.written (s.clock + dt) m).dipped m.voltage.toNat
    let w := u.apaEnterRideThrough.quiet (.present .rideThroughEvent m.voltage.toNat)
    exec (.measurementArrival dt bit) s = .next { u with
      cvp := { u.cvp with
        overvoltageDue := if 1100 < m.voltage.toNat then some (s.cvp.overvoltageDue.getD (s.clock + dt + ms 100)) else none }
      osc := { u.osc with arrivalSeen := true }, apa := w.apa, ywc := w.ywc, clc := w.clc, flm := w.flm } := by
  obtain ⟨-, -, hunder, hover⟩ := id hq
  intro u w
  let x : State := s.written (s.clock + dt) m
  have hride : ¬ x.cvp.rideThrough = true := by rw [show x.cvp.rideThrough = false from hr]; exact Bool.false_ne_true
  have hdip : x.cvp.voltage < 850 ∧ x.osc.state = .producing := ⟨hv, hs⟩
  have hw : x.enterRideThrough x.cvp.voltage = w := enterRideThrough_eq x _
  have hquiet : w.flm.holds .gridOvervoltage = false :=
    hw ▸ (enterRideThrough_holds x x.cvp.voltage rfl (by decide)).trans hover
  have hframe : w = { u with apa := w.apa, ywc := w.ywc, clc := w.clc, flm := w.flm } := by
    simp only [w, State.quiet]
    rw [apaEnterRideThrough_eq]
    rfl
  have hstate : w.osc.state = .rideThrough := by rw [hframe]; rfl
  rw [exec_quietArrival ha hm hq, judgeVoltage_quiet (s := x) hunder, if_neg hride, if_pos hdip, hw,
    judgeOvervoltage_quiet hquiet, oscArrival_other _ (by rw [State.setCvp_osc, hstate]; decide)
      (by rw [State.setCvp_osc, hstate]; decide) (by rw [State.setCvp_osc, hstate]; decide), hframe]
  rfl

/-- Settles O39: the entry, with the arbiter under the ride-through budget. -/
theorem aDipEntersRideThrough : Obligations.ADipEntersRideThrough := by
  intro dt bit m s ha hm hq hr hs hv hyaw hpower now v
  let u : State := (s.written now m).dipped v
  have hapa : u.apaEnterRideThrough.apa.rideThrough = true :=
    congrArg Outlook.rideThrough u.apaEnterRideThrough_outlook
  have hpower' : u.powerSound := by
    obtain ⟨h1, h2, h3, h4, h5, -, h7⟩ := hpower
    exact ⟨h1, h2, h3, h4, h5, fun k => (by cases k), h7⟩
  have hyaw' : u.yawSound := by
    obtain ⟨h1, h2, h3, h4, h5, h6, h7, -⟩ := hyaw
    exact ⟨h1, h2, h3, h4, h5, h6, h7, fun k => by cases k⟩
  refine ⟨_, exec_dip ha hm hq hr hs hv, rfl, rfl, rfl, rfl, hapa, Flm.takePresent_holds _ _ _ _, fun hg => ?_, fun hw => ?_⟩
  · obtain ⟨hfits, hpending, hywc⟩ := apaEnterRideThrough_shed hpower' hg
    exact ⟨(fits_iff_of_rideThrough hapa).mp hfits, hpending, hywc⟩
  · obtain ⟨hstopped, hfits⟩ := apaEnterRideThrough_stopped hyaw' hpower' hw
    exact ⟨hstopped, fun hb => (fits_iff_of_rideThrough hapa).mp (hfits hb)⟩

end Sys2Proof.Machine
end

section
/-! SUPPORT. The front setpoint block during a read (R86, R91, R92): where the port's transaction stands and, while a read is
in progress, the block it reads. A block handed to the port leaves both, and nothing but the port's own commands does more. -/

namespace Sys2Proof.Machine

/-! ## The transaction -/

/-- R84, R86: the state of the port and, while a read is in progress, the block that is read. -/
def Cvp.transaction (c : Cvp) : PortState × Option SetpointBlock :=
  (c.port, if c.readInProgress then some c.front else none)

def State.transaction (s : State) : PortState × Option SetpointBlock := s.cvp.transaction

@[simp] theorem State.cvp_transaction (s : State) : s.cvp.transaction = s.transaction := rfl

/-- R92: from one CVP to another the block read is the same as long as the read goes on. -/
def Cvp.ReadKept (c d : Cvp) : Prop := c.readInProgress = true → d.readInProgress = true → d.front = c.front

namespace Cvp.ReadKept
variable {c d : Cvp}

/-- The same transaction reads the same block. -/
theorem of_transaction (h : d.transaction = c.transaction) : c.ReadKept d := by
  intro hc hd
  have hfront := congrArg Prod.snd h
  simpa [Cvp.transaction, hc, hd] using hfront

theorem of_front (h : d.front = c.front) : c.ReadKept d := fun _ _ => h

/-- A transaction in which nothing is read. -/
theorem of_ended {p : PortState} (h : d.transaction = (p, none)) : c.ReadKept d := by
  intro _ hd
  have hnone := congrArg Prod.snd h
  simp [Cvp.transaction, hd] at hnone

end Cvp.ReadKept

/-! ## Blocks handed (R80, R91, R92) -/

section
variable (c : Cvp) (now : Clocks)

@[simp] theorem Cvp.swap_port : (c.swap now).port = c.port := by rw [swap_eq_swapped]; rfl

/-- Where nothing is read, the port's state is all there is of the transaction. -/
theorem Cvp.transaction_of_idle {c : Cvp} (h : c.readInProgress = false) : c.transaction = (c.port, none) := by
  simp [Cvp.transaction, h]

/-- R92: a swap outside a read. -/
theorem Cvp.swap_transaction (h : c.readInProgress = false) : (c.swap now).transaction = c.transaction := by
  have hswap : (c.swap now).readInProgress = false := by simpa [Cvp.readInProgress] using h
  rw [Cvp.transaction_of_idle h, Cvp.transaction_of_idle hswap, Cvp.swap_port]

theorem Cvp.pendingSwap_transaction (h : c.readInProgress = false) : (c.pendingSwap now).transaction = c.transaction := by
  simp only [Cvp.pendingSwap]
  split
  · exact c.swap_transaction now h
  · rfl

/-- R91: a block handed during a read waits in the back buffer. -/
theorem Cvp.writeBlock_transaction (e : Bool) (n : Nat) : (c.writeBlock now e n).transaction = c.transaction := by
  simp only [Cvp.writeBlock]
  split
  · rfl
  · next h => exact Cvp.swap_transaction _ now (Bool.eq_false_iff.mpr h)

end

section
variable (s : State)

@[simp] theorem State.setClock_transaction (t : Clocks) : (s.setClock t).transaction = s.transaction := rfl
@[simp] theorem State.elapse_transaction (dt : Clocks) : (s.elapse dt).transaction = s.transaction := rfl
@[simp] theorem State.runTo_transaction (t : Clocks) : (s.runTo t).transaction = s.transaction := rfl
@[simp] theorem State.setSlc_transaction (x : Slc) : (s.setSlc x).transaction = s.transaction := rfl
@[simp] theorem State.setPtb_transaction (x : Ptb) : (s.setPtb x).transaction = s.transaction := rfl
@[simp] theorem State.setScu_transaction (x : Scu) : (s.setScu x).transaction = s.transaction := rfl
@[simp] theorem State.setYwc_transaction (x : Ywc) : (s.setYwc x).transaction = s.transaction := rfl
@[simp] theorem State.setClc_transaction (x : Clc) : (s.setClc x).transaction = s.transaction := rfl
@[simp] theorem State.setCts_transaction (x : Cts) : (s.setCts x).transaction = s.transaction := rfl
@[simp] theorem State.setApa_transaction (x : Apa) : (s.setApa x).transaction = s.transaction := rfl
@[simp] theorem State.setFlm_transaction (x : Flm) : (s.setFlm x).transaction = s.transaction := rfl
@[simp] theorem State.setOsc_transaction (x : Osc) : (s.setOsc x).transaction = s.transaction := rfl
@[simp] theorem State.setUnreceived_transaction (n : Nat) : (s.setUnreceived n).transaction = s.transaction := rfl
@[simp] theorem State.setCvp_transaction (c : Cvp) : (s.setCvp c).transaction = c.transaction := rfl

/-- A move that leaves the CVP leaves the transaction. -/
theorem State.transaction_of_cvp {s t : State} (h : t.cvp = s.cvp) : t.transaction = s.transaction := by
  rw [State.transaction, h, State.transaction]

@[simp] theorem State.handBlock_transaction (e : Bool) (n : Nat) : (s.handBlock e n).transaction = s.transaction :=
  s.cvp.writeBlock_transaction _ _ _

@[simp] theorem State.enableOff_transaction : s.enableOff.transaction = s.transaction := by
  simp only [State.enableOff]
  split
  · simp [State.extraBlock]
  · rfl

/-! ## The moves of the arbiter and of the yaw states, which leave the CVP -/

@[simp] theorem State.examine_transaction : s.examine.transaction = s.transaction := State.transaction_of_cvp (by simp)
@[simp] theorem State.shed_transaction : s.shed.transaction = s.transaction := State.transaction_of_cvp (by simp)
@[simp] theorem State.endMove_transaction : s.endMove.transaction = s.transaction := State.transaction_of_cvp (by simp)
@[simp] theorem State.enterBrakeApply_transaction : s.enterBrakeApply.transaction = s.transaction :=
  State.transaction_of_cvp (by simp)
@[simp] theorem State.yawStopCause_transaction (b : Bool) : (s.yawStopCause b).transaction = s.transaction :=
  State.transaction_of_cvp (by simp)
@[simp] theorem State.releaseFans_transaction (n : Nat) : (s.releaseFans n).transaction = s.transaction :=
  State.transaction_of_cvp (by simp)
@[simp] theorem State.apaEnterRideThrough_transaction : s.apaEnterRideThrough.transaction = s.transaction :=
  State.transaction_of_cvp (by simp)
@[simp] theorem State.apaLeaveRideThrough_transaction : s.apaLeaveRideThrough.transaction = s.transaction :=
  State.transaction_of_cvp (by simp)

/-! ## The moves of the OSC and the reports (R181, R199 to R207) -/

@[simp] theorem State.testStart_transaction : s.testStart.transaction = s.transaction := by
  simp only [State.testStart]
  split <;> simp

@[simp] theorem State.enterStandby_transaction : s.enterStandby.transaction = s.transaction := by simp [State.enterStandby]

@[simp] theorem State.endStopping_transaction : s.endStopping.transaction = s.transaction := by simp [State.endStopping]

@[simp] theorem State.enterTripped_transaction : s.enterTripped.transaction = s.transaction := by
  rw [enterTripped_eq]
  exact s.enableOff_transaction

@[simp] theorem State.oscTripHolds_transaction : s.oscTripHolds.transaction = s.transaction := by
  simp only [State.oscTripHolds]
  split
  case h_1 | h_2 | h_3 | h_4 => split <;> simp
  all_goals simp

@[simp] theorem State.oscTripCeases_transaction : s.oscTripCeases.transaction = s.transaction := by
  simp only [State.oscTripCeases]
  split <;> simp

@[simp] theorem State.oscSafeStopHolds_transaction : s.oscSafeStopHolds.transaction = s.transaction := by
  simp only [State.oscSafeStopHolds]
  split <;> simp

@[simp] theorem State.tell_transaction (before : Reaction) : (s.tell before).transaction = s.transaction := by
  simp only [State.tell]
  repeat' split
  all_goals simp

@[simp] theorem State.report_transaction (r : Report) : (s.report r).transaction = s.transaction :=
  (s.quiet r).tell_transaction _

@[simp] theorem State.reportGone_transaction (c : FaultCode) : (s.reportGone c).transaction = s.transaction := by
  simp only [State.reportGone]
  split <;> simp

@[simp] theorem State.reportBitmap_transaction (c : FaultCode) (a b : Nat) :
    (s.reportBitmap c a b).transaction = s.transaction := by
  simp only [State.reportBitmap]
  repeat' split
  all_goals simp

theorem State.watchFlow_transaction {act : State → State} (h : (act s).transaction = s.transaction) :
    (s.watchFlow act).transaction = s.transaction := by
  simp only [State.watchFlow]
  split <;> simp [h]

/-- An act at a due time, where it leaves the transaction as it is from the moment it is due. -/
theorem State.atDue_transaction (due : Option Clocks) {act : State → State}
    (h : ∀ t, (act (s.runTo t)).transaction = s.transaction) : (s.atDue due act).transaction = s.transaction := by
  cases due with
  | none => rfl
  | some t => exact h t

end

end Sys2Proof.Machine
end

section
/-! SUPPORT. The transaction of the port under ride-through, the arrival, the port's own commands and timers (5.2 to 5.6). -/

namespace Sys2Proof.Machine

section
variable (s : State)

/-! ## Ride-through and the arrival (R94 to R103) -/

@[simp] theorem State.enterRideThrough_transaction (v : Nat) : (s.enterRideThrough v).transaction = s.transaction := by
  simp only [State.enterRideThrough, State.report_transaction, State.apaEnterRideThrough_transaction]
  rfl

@[simp] theorem State.oscLeaveRideThrough_transaction (trip : Bool) :
    (s.oscLeaveRideThrough trip).transaction = s.transaction := by
  simp only [State.oscLeaveRideThrough]
  split
  case h_1 => split <;> simp
  all_goals rfl

@[simp] theorem State.leaveRideThrough_transaction (trip : Bool) : (s.leaveRideThrough trip).transaction = s.transaction := by
  simp only [State.leaveRideThrough, State.report_transaction, State.oscLeaveRideThrough_transaction,
    State.apaLeaveRideThrough_transaction]
  rfl

@[simp] theorem State.curveReached_transaction : s.curveReached.transaction = s.transaction := by simp [State.curveReached]

@[simp] theorem Cvp.lower_transaction (c : Cvp) (v : Nat) : (c.lower v).transaction = c.transaction := rfl

@[simp] theorem Cvp.recover_transaction (c : Cvp) (now : Clocks) (v : Nat) : (c.recover now v).transaction = c.transaction := rfl

@[simp] theorem State.arrivalInRideThrough_transaction (v : Nat) :
    (s.arrivalInRideThrough v).transaction = s.transaction := by
  simp only [State.arrivalInRideThrough]
  split
  · split <;> simp
  · simp

@[simp] theorem State.judgeOvervoltage_transaction (v : Nat) : (s.judgeOvervoltage v).transaction = s.transaction := by
  simp only [State.judgeOvervoltage]
  split
  · split <;> rfl
  · exact State.reportGone_transaction _ _

@[simp] theorem State.judgeVoltage_transaction : s.judgeVoltage.transaction = s.transaction := by
  simp only [State.judgeVoltage, State.judgeOvervoltage_transaction]
  have hgone : (if 900 ≤ s.cvp.voltage then s.reportGone .gridUndervoltageTrip else s).transaction = s.transaction := by
    split <;> simp
  generalize (if 900 ≤ s.cvp.voltage then s.reportGone .gridUndervoltageTrip else s) = u at hgone ⊢
  split
  · simp [hgone]
  · split <;> simp [hgone]

@[simp] theorem State.reportFaultWord_transaction : s.reportFaultWord.transaction = s.transaction := by
  simp only [State.reportFaultWord]
  split <;> simp

@[simp] theorem State.oscArrival_transaction : s.oscArrival.transaction = s.transaction := by
  simp only [State.oscArrival]
  split
  case h_2 | h_3 => split <;> simp
  all_goals simp

@[simp] theorem State.arrival_transaction (bytes : List Byte) : (s.arrival bytes).transaction = s.transaction := by
  simp only [State.arrival, State.oscArrival_transaction, State.judgeVoltage_transaction, State.reportFaultWord_transaction,
    State.reportGone_transaction]
  rfl

/-! ## The timers of the CVP (R93, R96 to R103) -/

@[simp] theorem State.strobeTimer_transaction : s.strobeTimer.transaction = s.transaction :=
  s.atDue_transaction _ fun _ => rfl

@[simp] theorem State.silenceTimer_transaction : s.silenceTimer.transaction = s.transaction :=
  s.atDue_transaction _ fun _ => State.report_transaction _ _

@[simp] theorem State.curveDeadline_transaction : s.curveDeadline.transaction = s.transaction :=
  s.atDue_transaction _ fun _ => State.curveReached_transaction _

@[simp] theorem State.recoveryTimer_transaction : s.recoveryTimer.transaction = s.transaction :=
  s.atDue_transaction _ fun _ => State.leaveRideThrough_transaction _ _

@[simp] theorem State.overvoltageTimer_transaction : s.overvoltageTimer.transaction = s.transaction :=
  s.atDue_transaction _ fun _ => State.report_transaction _ _

@[simp] theorem State.controlPeriod_transaction : s.controlPeriod.transaction = s.transaction :=
  s.atDue_transaction _ fun _ => State.handBlock_transaction _ _ _

end

/-! ## The select line and the clock edges (R84 to R91) -/

/-- R91: the swap owed to a read that has ended. -/
theorem Cvp.ReadKept.pendingSwap {c d : Cvp} {now : Clocks} (h : d.readInProgress = false) :
    c.ReadKept (d.pendingSwap now) :=
  .of_ended ((d.pendingSwap_transaction now h).trans (Cvp.transaction_of_idle h))

theorem Cvp.assertSelect_readKept (c : Cvp) : c.ReadKept c.assertSelect := by
  refine .of_front ?_
  simp only [Cvp.assertSelect]
  split
  · rfl
  · split
    case h_1 => split <;> rfl
    all_goals rfl

theorem Cvp.releaseSelect_readKept (c : Cvp) (now : Clocks) : c.ReadKept (c.releaseSelect now) := by
  simp only [Cvp.releaseSelect]
  split
  · exact .of_front rfl
  · split
    case h_1 =>
      split
      · exact .of_front rfl
      · exact .pendingSwap rfl
    case h_2 => split <;> exact .of_front rfl
    all_goals exact .of_front rfl

@[simp] theorem Cvp.takeType_front (c : Cvp) (b : Byte) : (c.takeType b).front = c.front := by
  simp only [Cvp.takeType]
  split
  · rfl
  · split <;> rfl

/-- R85 to R87: of the bytes only the last of a read and of a write can bring a swap, and each ends the transaction. -/
theorem State.portByte_readKept (s : State) (b : Byte) : s.cvp.ReadKept (s.portByte b).cvp := by
  simp only [State.portByte]
  split
  case h_1 => exact .of_front (s.cvp.takeType_front b)
  case h_2 =>
    split
    · exact .of_front rfl
    · exact .pendingSwap rfl
  case h_3 =>
    split
    · exact .of_front rfl
    · exact .of_ended (State.arrival_transaction _ _)
  all_goals exact .of_front rfl

@[simp] theorem Cvp.takeBit_front (c : Cvp) (bit : Bool) : (c.takeBit bit).front = c.front := by
  simp only [Cvp.takeBit]
  split <;> rfl

@[simp] theorem Cvp.takeBit_readInProgress (c : Cvp) (bit : Bool) : (c.takeBit bit).readInProgress = c.readInProgress := by
  simp only [Cvp.takeBit]
  split <;> rfl

theorem State.edge_readKept (s : State) (bit : Bool) : s.cvp.ReadKept (s.edge bit).cvp := by
  simp only [State.edge]
  split
  · split
    · exact .of_front (s.cvp.takeBit_front bit)
    · have hbyte := State.portByte_readKept (s.setCvp (s.cvp.takeBit bit)) (s.cvp.nextShift bit)
      simpa [Cvp.ReadKept] using hbyte
  · exact .of_front rfl

theorem State.namedEdge_readKept (s : State) (e : PortEdge) (bit : Bool) : s.cvp.ReadKept (s.namedEdge e bit).cvp := by
  simp only [State.namedEdge]
  split
  · exact s.edge_readKept bit
  · exact .of_front rfl

/-- R90: an abandoned read is over. -/
theorem State.pauseTimer_readKept (s : State) : s.cvp.ReadKept s.pauseTimer.cvp := by
  simp only [State.pauseTimer]
  cases s.cvp.pauseDue with
  | none => exact .of_front rfl
  | some t =>
    rw [atDue_some]
    split
    case h_1 => exact .of_ended ((State.report_transaction _ _).trans (Cvp.pendingSwap_transaction _ _ rfl))
    all_goals exact .of_front rfl

end Sys2Proof.Machine
end

section
/-! SUPPORT. The transaction of the port under the moves of yaw, cooling and sensing: they reach the CVP by reports alone
(R181). -/

namespace Sys2Proof.Machine

section
variable (s : State)

/-! ## Yaw -/

@[simp] theorem State.vaneReading_transaction (x : Option (Fin 3600)) : (s.vaneReading x).transaction = s.transaction := by
  cases x with
  | none => rfl
  | some v =>
    simp only [State.vaneReading]
    split <;> simp

@[simp] theorem State.platformReading_transaction (x : Option (Fin 3600)) :
    (s.platformReading x).transaction = s.transaction := by
  cases x <;> rfl

@[simp] theorem State.windReading_transaction (x : Option (Fin 801)) : (s.windReading x).transaction = s.transaction := by
  cases x <;> rfl

@[simp] theorem State.vaneInvalidTimer_transaction : s.vaneInvalidTimer.transaction = s.transaction :=
  s.atDue_transaction _ fun _ => State.report_transaction _ _

@[simp] theorem State.reportDrives_transaction (a b : Nat) : (s.reportDrives a b).transaction = s.transaction := by
  simp only [State.reportDrives]
  split
  · simp
  · split <;> simp

@[simp] theorem State.reselect_transaction (a b : Nat) : (s.reselect a b).transaction = s.transaction := by
  simp only [State.reselect]
  split <;> split <;> simp

@[simp] theorem State.watchDrives_transaction (act : Ywc → Ywc) : (s.watchDrives act).transaction = s.transaction := by
  simp only [State.watchDrives]
  split <;> simp

@[simp] theorem State.driveReady_transaction (d : Fin 6) (b : Bool) : (s.driveReady d b).transaction = s.transaction :=
  s.watchDrives_transaction _

@[simp] theorem State.driveRunning_transaction (d : Fin 6) (b : Bool) : (s.driveRunning d b).transaction = s.transaction := rfl

@[simp] theorem State.driveFeedback_transaction (d : Fin 6) : (s.driveFeedback d).transaction = s.transaction :=
  s.atDue_transaction _ fun _ => State.watchDrives_transaction _ _

@[simp] theorem State.enterRequestPower_transaction (m : Move) : (s.enterRequestPower m).transaction = s.transaction := by
  simp [State.enterRequestPower]

@[simp] theorem State.waitPowerTimer_transaction : s.waitPowerTimer.transaction = s.transaction :=
  s.atDue_transaction _ fun _ => State.report_transaction _ _

@[simp] theorem State.countMisalignment_transaction : s.countMisalignment.transaction = s.transaction := by
  simp only [State.countMisalignment]
  split
  · split <;> simp
  · simp

@[simp] theorem State.decideMove_transaction : s.decideMove.transaction = s.transaction := by
  simp only [State.decideMove]
  split <;> simp

@[simp] theorem State.stallCheck_transaction : s.stallCheck.transaction = s.transaction := by
  simp only [State.stallCheck]
  generalize (if (s.ywc.twist - s.ywc.stallRef).natAbs < 5 then s.ywc.stallCount + 1 else 0) = count
  split <;> simp

@[simp] theorem State.evaluateYaw_transaction : s.evaluateYaw.transaction = s.transaction := by
  simp only [State.evaluateYaw]
  split <;> simp

@[simp] theorem State.yawEvaluation_transaction : s.yawEvaluation.transaction = s.transaction :=
  s.atDue_transaction _ fun _ => State.evaluateYaw_transaction _

@[simp] theorem State.brakeInput_transaction (level : Bool) : (s.brakeInput level).transaction = s.transaction := by
  simp only [State.brakeInput]
  have hgone {c : Prop} [Decidable c] (t : State) :
      (if c then t.reportGone .brakeApplyFail else t).transaction = t.transaction := by
    split <;> simp
  split
  · rfl
  · split <;> simp [hgone]

@[simp] theorem State.releaseMonitor_transaction : s.releaseMonitor.transaction = s.transaction :=
  s.atDue_transaction _ fun _ => (State.yawStopCause_transaction _ _).trans (State.report_transaction _ _)

@[simp] theorem State.applyMonitor_transaction : s.applyMonitor.transaction = s.transaction :=
  s.atDue_transaction _ fun t => by simp only []; split <;> simp

@[simp] theorem State.brakeRetryTimer_transaction : s.brakeRetryTimer.transaction = s.transaction :=
  s.atDue_transaction _ fun _ => State.report_transaction _ _

@[simp] theorem State.takeTwist_transaction (x : Int) : (s.takeTwist x).transaction = s.transaction := by
  simp only [State.takeTwist]
  split
  · simp
  · split <;> simp

@[simp] theorem State.compareHardLimit_transaction : s.compareHardLimit.transaction = s.transaction := by
  simp only [State.compareHardLimit]
  split
  · split <;> simp
  · simp

/-- Until a load completes the hard limit is not compared. -/
theorem State.compareWhenLoaded_transaction :
    (if s.osc.state.isUnloaded then s else s.compareHardLimit).transaction = s.transaction := by
  split <;> simp

@[simp] theorem State.startTwist_transaction (zone : Option Int) : (s.startTwist zone).transaction = s.transaction := by
  cases zone <;> simp [State.startTwist]

@[simp] theorem State.moveTwist_transaction : s.moveTwist.transaction = s.transaction := by simp [State.moveTwist]

@[simp] theorem State.seekTarget_transaction : s.seekTarget.transaction = s.transaction := by
  simp only [State.seekTarget]
  split <;> simp

@[simp] theorem State.encoderReading_transaction (angle : Fin 3600) (zone : Option Int) :
    (s.encoderReading angle zone).transaction = s.transaction := by
  simp only [State.encoderReading, State.seekTarget_transaction, State.compareWhenLoaded_transaction]
  split <;> simp

@[simp] theorem State.rereadZone_transaction (zone : Option Int) : (s.rereadZone zone).transaction = s.transaction := by
  simp only [State.rereadZone]
  split
  · cases zone with
    | none =>
      simp only []
      split <;> simp
    | some z => simp [State.compareWhenLoaded_transaction]
  · rfl

@[simp] theorem State.yawHold_transaction : s.yawHold.transaction = s.transaction := by simp [State.yawHold]

@[simp] theorem State.untwist_transaction : s.untwist.transaction = s.transaction := by
  simp only [State.untwist]
  split <;> simp

/-! ## Cooling -/

@[simp] theorem State.temperatureReading_transaction (i : Fin 8) (x : Option Int) :
    (s.temperatureReading i x).transaction = s.transaction := by
  simp only [State.temperatureReading]
  repeat' split
  all_goals simp

@[simp] theorem State.holdTimer_transaction (i : Fin 8) : (s.holdTimer i).transaction = s.transaction := by
  simp only [State.holdTimer]
  split
  · rfl
  · exact s.atDue_transaction _ fun _ => State.report_transaction _ _

@[simp] theorem State.flowReading_transaction (x : Option (Fin 2001)) : (s.flowReading x).transaction = s.transaction := by
  cases x with
  | none => rfl
  | some v => exact s.watchFlow_transaction rfl

@[simp] theorem State.failPump_transaction (i : Fin 2) : (s.failPump i).transaction = s.transaction := by
  simp only [State.failPump]
  repeat' split
  all_goals simp

@[simp] theorem State.flowMonitor_transaction : s.flowMonitor.transaction = s.transaction :=
  s.atDue_transaction _ fun t => by
    split
    · exact State.watchFlow_transaction _ (by simp)
    · rfl

@[simp] theorem State.pumpRunning_transaction (i : Fin 2) (b : Bool) : (s.pumpRunning i b).transaction = s.transaction :=
  s.watchFlow_transaction rfl

@[simp] theorem State.pumpFeedback_transaction (i : Fin 2) : (s.pumpFeedback i).transaction = s.transaction :=
  s.atDue_transaction _ fun _ => State.watchFlow_transaction _ (State.failPump_transaction _ i)

@[simp] theorem State.fanRunning_transaction (f : Fin 4) (b : Bool) : (s.fanRunning f b).transaction = s.transaction := rfl

@[simp] theorem State.failFan_transaction (f : Fin 4) : (s.failFan f).transaction = s.transaction := by
  simp only [State.failFan]
  repeat' split
  all_goals simp

@[simp] theorem State.fanFeedback_transaction (f : Fin 4) : (s.fanFeedback f).transaction = s.transaction :=
  s.atDue_transaction _ fun _ => State.failFan_transaction _ f

@[simp] theorem State.withdrawFan_transaction : s.withdrawFan.transaction = s.transaction := by
  simp only [State.withdrawFan]
  split <;> simp

@[simp] theorem State.actOnFans_transaction : s.actOnFans.transaction = s.transaction := by
  simp only [State.actOnFans]
  split <;> simp

@[simp] theorem State.judgeOvertemperature_transaction : s.judgeOvertemperature.transaction = s.transaction := by
  simp only [State.judgeOvertemperature]
  repeat' split
  all_goals simp

@[simp] theorem State.judgeCable_transaction : s.judgeCable.transaction = s.transaction := by
  simp only [State.judgeCable]
  repeat' split
  all_goals simp

@[simp] theorem State.takeMinFlow_transaction : s.takeMinFlow.transaction = s.transaction := s.watchFlow_transaction rfl

@[simp] theorem State.evaluateCooling_transaction : s.evaluateCooling.transaction = s.transaction := by
  simp [State.evaluateCooling, State.formValve, State.formThermalLimit]

@[simp] theorem State.coolingEvaluation_transaction : s.coolingEvaluation.transaction = s.transaction := by
  simp [State.coolingEvaluation]

@[simp] theorem State.resumeDuty_transaction : s.resumeDuty.transaction = s.transaction := by
  simp only [State.resumeDuty]
  split
  · rfl
  · split <;> simp

@[simp] theorem State.reviewCooling_transaction : s.reviewCooling.transaction = s.transaction := by
  simp only [State.reviewCooling]
  repeat' split
  all_goals simp

/-! ## Sensing -/

@[simp] theorem State.watchSense_transaction (act : Cts → Cts) : (s.watchSense act).transaction = s.transaction := by
  simp [State.watchSense]

@[simp] theorem State.scanTimer_transaction : s.scanTimer.transaction = s.transaction := s.atDue_transaction _ fun _ => rfl

@[simp] theorem State.dischargeEnd_transaction : s.dischargeEnd.transaction = s.transaction := by
  simp only [State.dischargeEnd]
  split <;> rfl

@[simp] theorem State.takeReading_transaction (i : Fin 8) (x : RawClass) : (s.takeReading i x).transaction = s.transaction := by
  simp [State.takeReading]

@[simp] theorem State.comparatorTrip_transaction (n : Nat) : (s.comparatorTrip n).transaction = s.transaction := by
  simp only [State.comparatorTrip]
  split
  case h_1 => split <;> simp
  all_goals rfl

@[simp] theorem State.ceilingReached_transaction : s.ceilingReached.transaction = s.transaction := by
  simp only [State.ceilingReached]
  split <;> simp

@[simp] theorem State.stopSensing_transaction : s.stopSensing.transaction = s.transaction := s.watchSense_transaction _

end

end Sys2Proof.Machine
end

section
/-! SUPPORT. The transaction of the port under the link, the commands, the load and the OSC's timers, and the front block of a
read under every command (R86, R91, R92). -/

namespace Sys2Proof.Machine

section
variable (s : State)

/-! ## The line and own frames -/

@[simp] theorem State.idleGap_transaction : s.idleGap.transaction = s.transaction := by
  simp only [State.idleGap]
  split <;> rfl

@[simp] theorem State.boundary_transaction : s.boundary.transaction = s.transaction := by
  simp only [State.boundary]
  split <;> rfl

@[simp] theorem State.arbitrationStart_transaction : s.arbitrationStart.transaction = s.transaction := by
  simp only [State.arbitrationStart]
  split <;> rfl

@[simp] theorem State.lightSeenInTrail_transaction : s.lightSeenInTrail.transaction = s.transaction := by
  simp only [State.lightSeenInTrail]
  split <;> rfl

@[simp] theorem State.pulsePosition_transaction (heard : Bool) : (s.pulsePosition heard).transaction = s.transaction := by
  simp only [State.pulsePosition]
  repeat' split
  all_goals rfl

@[simp] theorem State.survival_transaction (lit : Bool) : (s.survival lit).transaction = s.transaction := by
  simp only [State.survival]
  repeat' split
  all_goals rfl

@[simp] theorem State.flag_transaction (e : LinkError) : (s.flag e).transaction = s.transaction := rfl

@[simp] theorem State.flagIf_transaction (b : Bool) (e : LinkError) : (s.flagIf b e).transaction = s.transaction := by
  cases b <;> rfl

@[simp] theorem State.duplicateDetected_transaction (v : Int) : (s.duplicateDetected v).transaction = s.transaction := by
  simp [State.duplicateDetected]

@[simp] theorem State.echoMismatch_transaction (bit : HeardBit) : (s.echoMismatch bit).transaction = s.transaction := by
  simp only [State.echoMismatch]
  generalize (if bit.heard.lit then 0 else 1) = dark
  split
  · rfl
  · split
    · split <;> simp
    · rfl

@[simp] theorem State.serve_transaction (t : Transmission) : (s.serve t).transaction = s.transaction := by
  simp only [State.serve]
  split
  case h_4 => split <;> rfl
  all_goals rfl

@[simp] theorem State.frameSent_transaction : s.frameSent.transaction = s.transaction := by
  simp only [State.frameSent]
  split <;> simp

@[simp] theorem State.frameTooLong_transaction : s.frameTooLong.transaction = s.transaction := by
  simp only [State.frameTooLong]
  split <;> rfl

@[simp] theorem State.statusTimer_transaction : s.statusTimer.transaction = s.transaction := rfl

@[simp] theorem State.duplicateTimer_transaction : s.duplicateTimer.transaction = s.transaction :=
  s.atDue_transaction _ fun _ => State.report_transaction _ _

/-! ## The peer table -/

@[simp] theorem State.setEntry_transaction (j : Fin 12) (f : PeerEntry → PeerEntry) :
    (s.setEntry j f).transaction = s.transaction := rfl

@[simp] theorem State.watchPeers_transaction (act : State → State) :
    (s.watchPeers act).transaction = (act s).transaction := by
  simp [State.watchPeers]

@[simp] theorem State.heard_transaction : s.heard.transaction = s.transaction := by
  simp only [State.heard]
  split <;> simp

@[simp] theorem State.dispatch_transaction (n : Nat) (act : State → Fin 12 → PeerEntry → PeerEntry) :
    (s.dispatch n act).transaction = s.transaction := by
  simp only [State.dispatch, State.peerFrame]
  split
  · rfl
  · split <;> simp

@[simp] theorem State.foreignFrame_transaction (n : Nat) : (s.foreignFrame n).transaction = s.transaction := by
  simp [State.foreignFrame]

@[simp] theorem State.ageTimerStale_transaction (j : Fin 12) : (s.ageTimerStale j).transaction = s.transaction := by
  simp only [State.ageTimerStale]
  split <;> simp

@[simp] theorem State.ageTimerLost_transaction (j : Fin 12) : (s.ageTimerLost j).transaction = s.transaction := by
  simp only [State.ageTimerLost]
  split <;> simp

@[simp] theorem State.isolationTimer_transaction : s.isolationTimer.transaction = s.transaction :=
  s.atDue_transaction _ fun _ => State.report_transaction _ _

@[simp] theorem State.foreignTimer_transaction : s.foreignTimer.transaction = s.transaction :=
  s.atDue_transaction _ fun _ => State.report_transaction _ _

/-! ## Received frames -/

@[simp] theorem State.frameEnds_transaction (heard : List BitTime) : (s.frameEnds heard).transaction = s.transaction := rfl

theorem State.whenFrame_transaction (heard : List BitTime) (row : RxFrame → Bool) {act : State → State}
    (h : ∀ t, (act t).transaction = t.transaction) : (s.whenFrame heard row act).transaction = s.transaction := by
  simp only [State.whenFrame]
  split <;> simp [h]

theorem State.senderChecks_transaction (h : Header) (corrected : Bool) {rest : State → State}
    (hr : ∀ t, (rest t).transaction = t.transaction) : (s.senderChecks h corrected rest).transaction = s.transaction := by
  simp only [State.senderChecks]
  split
  · simp
  · split <;> simp [hr]

theorem State.payloadChecks_transaction (h : Header) (bytes : List Byte) {rest : State → State}
    (hr : ∀ t, (rest t).transaction = t.transaction) : (s.payloadChecks h bytes rest).transaction = s.transaction := by
  simp only [State.payloadChecks]
  split
  · simp
  · split <;> simp [hr]

@[simp] theorem State.longFrame_transaction (heard : List BitTime) (kinds : Nat → Bool)
    (act : List Byte → State → Fin 12 → PeerEntry → PeerEntry) :
    (s.longFrame heard kinds act).transaction = s.transaction := by
  unfold State.longFrame
  refine s.whenFrame_transaction _ _ fun t => ?_
  split
  case h_1 =>
    exact t.senderChecks_transaction _ _ fun u => u.payloadChecks_transaction _ _ fun v => v.dispatch_transaction _ _
  all_goals rfl

@[simp] theorem State.discardedFrame_transaction (heard : List BitTime) :
    (s.discardedFrame heard).transaction = s.transaction := by
  unfold State.discardedFrame
  refine s.whenFrame_transaction _ _ fun t => ?_
  split <;> simp

/-! ## The commands of the gateway and the terminal -/

@[simp] theorem State.fillReply_transaction (h : Header) (r : Result) (d : Half) :
    (s.fillReply h r d).transaction = s.transaction := rfl

/-- A command leaves the transaction where its owner does. -/
theorem State.takeCommand_transaction (h : Header) {owner : BitVec 4 → State → Answer}
    (ho : ∀ target, (owner target s).after.transaction = s.transaction) :
    (s.takeCommand h owner).transaction = s.transaction := by
  simp only [State.takeCommand, State.broadcast, State.targeted]
  repeat' split
  all_goals simp [ho]

theorem State.commandFrame_transaction (heard : List BitTime) (codes : Nat → Bool)
    {owner : Nat → BitVec 4 → State → Answer}
    (ho : ∀ arg target t, (owner arg target t).after.transaction = t.transaction) :
    (s.commandFrame heard codes owner).transaction = s.transaction := by
  unfold State.commandFrame
  refine s.whenFrame_transaction _ _ fun t => ?_
  split
  case h_1 =>
    refine t.senderChecks_transaction _ _ fun u => ?_
    split
    · rfl
    · exact (State.takeCommand_transaction _ _ fun target => ho _ target _).trans (u.dispatch_transaction _ _)
  all_goals rfl

@[simp] theorem State.ownStart_transaction : s.ownStart.after.transaction = s.transaction := by
  simp only [State.ownStart]
  split <;> simp

@[simp] theorem State.ownStop_transaction : s.ownStop.after.transaction = s.transaction := by
  simp only [State.ownStop]
  split <;> rfl

@[simp] theorem State.stringStop_transaction : s.stringStop.transaction = s.transaction := by
  simp only [State.stringStop]
  split <;> simp

@[simp] theorem State.ownUntwist_transaction : s.ownUntwist.after.transaction = s.transaction := by
  simp only [State.ownUntwist]
  split <;> simp

@[simp] theorem State.leaveSafeStop_transaction : s.leaveSafeStop.transaction = s.transaction := by
  simp only [State.leaveSafeStop]
  split <;> simp

@[simp] theorem State.ownFaultReset_transaction (zone : Option Int) :
    (s.ownFaultReset zone).after.transaction = s.transaction := by
  simp [State.ownFaultReset, State.faultReview, State.closeCleared]

@[simp] theorem State.ownRecordRequest_transaction (target : BitVec 4) (n : Nat) :
    (s.ownRecordRequest target n).after.transaction = s.transaction := by
  simp only [State.ownRecordRequest]
  repeat' split
  all_goals rfl

/-! ## The image, the load and the resets -/

@[simp] theorem State.refuseImage_transaction (code : Nat) : (s.refuseImage code).transaction = s.transaction := by
  simp [State.refuseImage]

@[simp] theorem State.configMarker_transaction (b : Byte) : (s.configMarker b).transaction = s.transaction := by
  simp only [State.configMarker]
  split
  case h_1 => split <;> simp
  all_goals rfl

@[simp] theorem State.configHeader_transaction (b0 b1 b2 b3 : Byte) :
    (s.configHeader b0 b1 b2 b3).transaction = s.transaction := by
  simp only [State.configHeader]
  split
  case h_1 => split <;> simp
  all_goals rfl

/-- R93, R96: the load sets the strobe mode and the silence timer. -/
@[simp] theorem State.loadConverter_transaction (r : StationRecord) : (s.loadConverter r).transaction = s.transaction := rfl

@[simp] theorem State.loadModes_transaction (r : StationRecord) : (s.loadModes r).transaction = s.transaction := by
  simp only [State.loadModes]
  split <;> simp

@[simp] theorem State.completeLoad_transaction (st : Staging) (r : StationRecord) :
    (s.completeLoad st r).transaction = s.transaction := by
  simp [State.completeLoad, State.loadPeers, State.loadShare, State.loadYaw, State.loadCooling, State.formThermalLimit,
    State.loadSensing, State.loadPower]

@[simp] theorem State.configRest_transaction (rest : List Byte) : (s.configRest rest).transaction = s.transaction := by
  simp only [State.configRest]
  repeat' split
  all_goals simp

/-- R101, R208: after a reset the port is idle. -/
theorem State.endReset_transaction (f : Flm) (station : Nat) :
    (s.resetBlocks f station).endReset.transaction = (.idle, none) := by
  have hdrives (t : State) (n : Nat) : (t.reportDrives 6 n).transaction = t.transaction := t.reportDrives_transaction 6 n
  simp only [State.endReset]
  split
  · exact hdrives _ _
  · exact (State.refuseImage_transaction _ _).trans (hdrives _ _)

/-! ## The timers of the OSC -/

@[simp] theorem State.startTimer_transaction : s.startTimer.transaction = s.transaction :=
  s.atDue_transaction _ fun _ => State.report_transaction _ _

@[simp] theorem State.stopTimer_transaction : s.stopTimer.transaction = s.transaction :=
  s.atDue_transaction _ fun _ => State.endStopping_transaction _

@[simp] theorem State.restartDelay_transaction : s.restartDelay.transaction = s.transaction :=
  s.atDue_transaction _ fun _ => State.enterStandby_transaction _

@[simp] theorem State.listTimer_transaction : s.listTimer.transaction = s.transaction :=
  s.atDue_transaction _ fun _ => by
    simp only []
    split <;> simp

end

/-! ## Every command (R92) -/

theorem exec_readKept {c : Instr} {s t : State} (h : exec c s = .next t) : s.cvp.ReadKept t.cvp := by
  cases c <;> injection h with h <;> subst h
  case coldReset straps => exact .of_ended (State.endReset_transaction _ _ _)
  case warmReset dt straps => exact .of_ended (State.endReset_transaction _ _ _)
  case selectAsserted dt => exact s.cvp.assertSelect_readKept
  case selectReleased dt => exact s.cvp.releaseSelect_readKept _
  case readSetpoint dt => exact (s.elapse dt).namedEdge_readKept _ _
  case readSetpointEnd dt => exact (s.elapse dt).namedEdge_readKept _ _
  case writeMeasurement dt => exact (s.elapse dt).namedEdge_readKept _ _
  case unknownPortType dt bit => exact (s.elapse dt).namedEdge_readKept _ bit
  case measurementArrival dt bit => exact (s.elapse dt).namedEdge_readKept _ bit
  case portClockRisingEdge dt bit => exact (s.elapse dt).edge_readKept bit
  case pauseTimerExpiry => exact s.pauseTimer_readKept
  case start heard => exact .of_transaction (s.commandFrame_transaction _ _ fun _ _ t => t.ownStart_transaction)
  case stop heard => exact .of_transaction (s.commandFrame_transaction _ _ fun _ _ t => t.ownStop_transaction)
  case yawHold heard => exact .of_transaction (s.commandFrame_transaction _ _ fun _ _ t => t.yawHold_transaction)
  case yawRelease heard => exact .of_transaction (s.commandFrame_transaction _ _ fun _ _ _ => rfl)
  case untwist heard => exact .of_transaction (s.commandFrame_transaction _ _ fun _ _ t => t.ownUntwist_transaction)
  case faultReset heard zone =>
    exact .of_transaction (s.commandFrame_transaction _ _ fun _ _ t => t.ownFaultReset_transaction zone)
  case recordRequest heard =>
    exact .of_transaction (s.commandFrame_transaction _ _ fun _ _ t => t.ownRecordRequest_transaction _ _)
  case stringCap heard => exact .of_transaction (s.commandFrame_transaction _ _ fun _ _ _ => rfl)
  case stringStop heard => exact .of_transaction (s.commandFrame_transaction _ _ fun _ _ t => t.stringStop_transaction)
  case unknownCommand heard => exact .of_transaction (s.commandFrame_transaction _ _ fun _ _ _ => rfl)
  case statusReceived heard => exact .of_transaction (s.longFrame_transaction heard _ _)
  case noticeReceived heard => exact .of_transaction (s.longFrame_transaction heard _ _)
  case replyOrRecordReceived heard => exact .of_transaction (s.longFrame_transaction heard _ _)
  all_goals exact .of_transaction (by simp)

theorem step_readKept {s t : State} (h : step s = .next t) : s.cvp.ReadKept t.cvp := by
  rcases step_cases s with ⟨-, hs⟩ | ⟨c, rest, -, hs⟩
  · rw [hs] at h
    cases h
    exact .of_front rfl
  · rw [hs] at h
    exact exec_readKept (s := { s with pending := rest }) h

/-- Settles O35: only the port's own commands move its transaction, and a swap of theirs comes with the end of the read. -/
theorem frontBlockStaysDuringARead : Obligations.FrontBlockStaysDuringARead := fun _ _ h => step_readKept h

end Sys2Proof.Machine
end

section
/-! SUPPORT. The select line, the bits and bytes of the port, and its two timers in the terms of the statements (R84 to R93). -/

namespace Sys2Proof.Machine

/-! ## The select line (R84, R85, R88, R89, R91) -/

theorem exec_selectAsserted (dt : Clocks) (s : State) :
    exec (.selectAsserted dt) s = .next { s with clock := s.clock + dt, cvp := s.cvp.assertSelect } := rfl

theorem exec_selectReleased (dt : Clocks) (s : State) :
    exec (.selectReleased dt) s = .next { s with clock := s.clock + dt, cvp := s.cvp.releaseSelect (s.clock + dt) } := rfl

theorem pendingSwap_eq_swapped (c : Cvp) (now : Clocks) :
    c.pendingSwap now = if c.swapPending then c.swapped now else c := by
  rw [Cvp.pendingSwap, swap_eq_swapped]

/-- Settles O32: an edge of the select line by the state of the port. -/
theorem selectMovesThePort : Obligations.SelectMovesThePort := by
  intro dt s now up down ended
  rw [exec_selectAsserted, exec_selectReleased]
  refine ⟨fun hline => ⟨fun hport hseen => ?_, fun n hport => ?_, fun n hport => ?_⟩,
    fun hline => ⟨fun hport => ?_, fun hport => ?_, fun n hport => ?_, fun n hport => ?_⟩⟩
  · simp [Cvp.assertSelect, hline, hport, hseen, now, up]
  · simp [Cvp.assertSelect, hline, hport, now, up]
  · simp [Cvp.assertSelect, hline, hport, now, up]
  · simp [Cvp.releaseSelect, hline, hport, now, down]
  · rcases hport with hport | hport | hport <;> simp [Cvp.releaseSelect, hline, hport, now, down, ended]
  · by_cases hbits : s.cvp.bitCount = 0 <;> simp [Cvp.releaseSelect, hline, hport, hbits, now, down, ended]
  · by_cases hbits : s.cvp.bitCount = 0
    · simp [Cvp.releaseSelect, hline, hport, hbits, now, down]
    · simp only [Cvp.releaseSelect, hline, hport, hbits, pendingSwap_eq_swapped]
      rfl

/-! ## The edges that end a byte (R84 to R86) -/

/-- R84: the byte is complete and nothing of the next is taken. -/
def Cvp.cleared (c : Cvp) : Cvp := { c with bitCount := 0, shift := 0 }

section
variable {s : State} {bit : Bool} (hopen : s.portOpen) (hbits : s.cvp.bitCount = 7)
include hopen hbits

/-- The rising edge that a command names acts on the byte it completes. -/
theorem namedEdge_of_completes {e : PortEdge} (he : s.cvp.completes? bit = some e) :
    s.namedEdge e bit = (s.setCvp s.cvp.cleared).portByte (s.cvp.nextShift bit) := by
  obtain ⟨hline, hseen⟩ := hopen
  simp [State.namedEdge, he, State.edge, Cvp.counting, Cvp.takeBit, Cvp.cleared, hline, hseen, hbits]

theorem completes?_typeByte (hport : s.cvp.port = .typeByte) : s.cvp.completes? bit =
    if s.cvp.nextShift bit = 0x31 then some .readType
    else if s.cvp.nextShift bit = 0x32 then some .writeType
    else some .otherType := by
  obtain ⟨hline, hseen⟩ := hopen
  simp [Cvp.completes?, Cvp.counting, hline, hseen, hbits, hport]

theorem completes?_lastRead (hport : s.cvp.port = .read 5) : s.cvp.completes? bit = some .lastRead := by
  obtain ⟨hline, hseen⟩ := hopen
  simp [Cvp.completes?, Cvp.counting, hline, hseen, hbits, hport]

/-- R85: the edge that completes the type byte. -/
theorem namedEdge_typeByte (hport : s.cvp.port = .typeByte) {e : PortEdge} (he : s.cvp.completes? bit = some e) :
    s.namedEdge e bit = s.setCvp (s.cvp.cleared.takeType (s.cvp.nextShift bit)) := by
  have hcleared : (s.setCvp s.cvp.cleared).cvp.port = .typeByte := hport
  rw [namedEdge_of_completes hopen hbits he, State.portByte, hcleared]
  rfl

/-- R86, R91: the edge that completes the sixth setpoint byte. -/
theorem namedEdge_lastRead (hport : s.cvp.port = .read 5) :
    s.namedEdge .lastRead bit = s.setCvp (({ s.cvp.cleared with port := .done } : Cvp).pendingSwap s.clock) := by
  have hcleared : (s.setCvp s.cvp.cleared).cvp.port = .read 5 := hport
  rw [namedEdge_of_completes hopen hbits (completes?_lastRead hopen hbits hport), State.portByte, hcleared]
  rfl

end

/-! ## The two timers (R90, R93) -/

/-- R90: the port once its transaction is abandoned. -/
def Cvp.abandoned (c : Cvp) : Cvp :=
  { c with pauseDue := none, port := .idle, bitCount := 0, shift := 0, staging := [] }

/-- R90: the number of a type byte. -/
def PortType.number : PortType → Nat
  | .read => 49 | .write => 50

/-- R90, R179: the pause timer abandons what is paused, and the report is one that nothing is told of. -/
theorem exec_pauseTimer {s : State} {due : Clocks} {kind : PortType} {n : Nat} (hdue : s.cvp.pauseDue = some due)
    (hport : s.cvp.port = .paused kind n) :
    exec .pauseTimerExpiry s = .next { s with
      clock := max s.clock due, cvp := s.cvp.abandoned.pendingSwap (max s.clock due)
      flm := s.flm.take (stampOf (max s.clock due)) (.event .portReadAbandoned (256 * kind.number + n : Nat)) } := by
  have htimer : s.pauseTimer =
      State.report { s with clock := max s.clock due, cvp := s.cvp.abandoned.pendingSwap (max s.clock due) }
        (.event .portReadAbandoned (256 * kind.number + n : Nat)) := by
    rw [State.pauseTimer, hdue, atDue_some, State.runTo_cvp, hport]
    cases kind <;> rfl
  rw [exec, execPauseTimerExpiry, htimer, State.report_mild _ _ rfl]
  rfl

theorem exec_strobeTimer {s : State} {due : Clocks} (hdue : s.cvp.strobeDue = some due) :
    exec .strobeTimerExpiry s = .next { s with
      clock := max s.clock due, cvp := { s.cvp with strobeLine := false, strobeDue := none } } := by
  rw [exec, execStrobeTimerExpiry, State.strobeTimer, hdue]
  rfl

/-- Settles O34: the named edges by the byte they complete, then what each timer leaves. -/
theorem portBytesAndTimers : Obligations.PortBytesAndTimers := by
  constructor
  · intro dt s hopen hbits now byte
    let u : State := s.elapse dt
    have hu : u.portOpen := hopen
    refine ⟨fun hport => ?_, fun hport => ?_⟩
    · have hcompletes (bit : Bool) := completes?_typeByte (bit := bit) hu hbits hport
      have htype {bit : Bool} {e : PortEdge} := namedEdge_typeByte (bit := bit) (e := e) hu hbits hport
      refine ⟨fun hb => ?_, fun hb => ?_, ?_⟩
      · have hnext : u.cvp.nextShift true = 0x31 := hb
        rw [exec, execReadSetpoint, htype ((hcompletes true).trans (if_pos hnext)), hnext]
        rfl
      · have hnext : u.cvp.nextShift false = 0x32 := BitVec.or_zero.trans hb
        rw [exec, execWriteMeasurement, htype (by rw [hcompletes, hnext]; rfl), hnext]
        rfl
      · intro bit b hread hwrite
        have hother : u.cvp.completes? bit = some .otherType :=
          (hcompletes bit).trans ((if_neg hread).trans (if_neg hwrite))
        have htaken : u.cvp.cleared.takeType (u.cvp.nextShift bit) = { byte with port := .ignore } :=
          (if_neg hread).trans (if_neg hwrite)
        rw [exec, execUnknownPortType, htype hother, htaken]
        rfl
    · rw [exec, execReadSetpointEnd, namedEdge_lastRead hu hbits hport, pendingSwap_eq_swapped]
      rfl
  · intro due s now ended
    refine ⟨fun hdue => ⟨fun n hport => ?_, fun n hport hswap => ?_⟩, exec_strobeTimer⟩
    · rw [exec_pauseTimer hdue hport, pendingSwap_eq_swapped]
      rfl
    · have hkept : s.cvp.abandoned.pendingSwap now = ended := if_neg (by
        rw [show s.cvp.abandoned.swapPending = false from hswap]
        exact Bool.false_ne_true)
      rw [exec_pauseTimer hdue hport, hkept]
      rfl

end Sys2Proof.Machine
end

section
/-! SUPPORT. Eight edges of the port clock, and the six bytes that a read sends (R84 to R87, 5.3.1). -/

namespace Sys2Proof.Machine

/-! ## Runs of commands -/

/-- A run that ends in one more command. -/
theorem execAll_concat {cs : List Instr} {c : Instr} {s t : State} (h : execAll cs s = .next t) :
    execAll (cs ++ [c]) s = exec c t := by
  induction cs generalizing s with
  | nil =>
    obtain rfl := Host.Outcome.next.inj h
    simp only [List.nil_append, execAll]
    cases exec c s <;> rfl
  | cons d ds ih =>
    simp only [List.cons_append, execAll] at h ⊢
    split at h
    · next u _ => exact ih h
    · cases h
    · cases h

/-! ## The bits of a byte, most significant first (R84) -/

/-- The bits taken so far are the byte without its last ones, and the next bit is the first of those. -/
theorem shift_next (b : Byte) (m : Nat) :
    (b >>> (m + 1)) <<< 1 ||| (if b.getLsbD m then 1#8 else 0#8) = b >>> m := by
  ext i hi
  cases i with
  | zero => cases hb : b.getLsbD m <;> simp_all
  | succ i => cases hb : b.getLsbD m <;> simp_all [Nat.add_right_comm m 1 i, ← Nat.add_assoc]

/-- R84: the state after `k` edges with the first bits of the byte `b`. -/
def State.shifted (s : State) (dt : Clocks) (b : Byte) (k : Nat) : State :=
  { s with clock := s.clock + k * dt, cvp := { s.cvp with bitCount := k, shift := b >>> (8 - k) } }

section
variable (s : State) (dt : Clocks) (b : Byte)

theorem shifted_nextShift {k : Nat} (hk : k < 8) :
    (s.shifted dt b k).cvp.nextShift (b.getMsbD k) = b >>> (8 - (k + 1)) := by
  have hbit : b.getMsbD k = b.getLsbD (8 - (k + 1)) := by
    rw [BitVec.getMsbD_eq_getLsbD, decide_eq_true hk, Bool.true_and, Nat.sub_sub, Nat.add_comm 1 k]
  have hdepth : 8 - k = 8 - (k + 1) + 1 := by omega
  have hnext := shift_next b (8 - (k + 1))
  rw [← hdepth, ← hbit] at hnext
  exact hnext

theorem execAll_shifted (hopen : s.portOpen) (hbits : s.cvp.bitCount = 0) (hshift : s.cvp.shift = 0) {k : Nat}
    (hk : k ≤ 7) :
    execAll ((List.range k).map fun i => .portClockRisingEdge dt (b.getMsbD i)) s = .next (s.shifted dt b k) := by
  obtain ⟨hline, hseen⟩ := hopen
  induction k with
  | zero =>
    have hstart : s.shifted dt b 0 = s := by
      have hempty : b >>> (8 - 0) = s.cvp.shift := hshift ▸ BitVec.ushiftRight_eq_zero (Nat.le_refl 8)
      rw [State.shifted, hempty, Nat.zero_mul, Nat.add_zero, ← hbits]
    exact congrArg Host.Outcome.next hstart.symm
  | succ k ih =>
    rw [List.range_succ, List.map_append, List.map_singleton, execAll_concat (ih (Nat.le_of_succ_le hk)),
      exec_edge_within dt _ (s.shifted dt b k) hline hseen hk, shifted_nextShift s dt b (Nat.lt_succ_of_lt hk)]
    have hclock : (s.shifted dt b k).clock + dt = s.clock + (k + 1) * dt := by
      rw [Nat.succ_mul, ← Nat.add_assoc]
      rfl
    rw [hclock]
    rfl

/-- R84: eight edges act on the byte that their bits make. -/
theorem execAll_byte (hopen : s.portOpen) (hbits : s.cvp.bitCount = 0) (hshift : s.cvp.shift = 0) :
    execAll ((List.range 8).map fun i => .portClockRisingEdge dt (b.getMsbD i)) s =
      .next (State.portByte { s with clock := s.clock + 8 * dt } b) := by
  have hseven := execAll_shifted s dt b hopen hbits hshift (Nat.le_refl 7)
  obtain ⟨hline, hseen⟩ := hopen
  rw [List.range_succ, List.map_append, List.map_singleton, execAll_concat hseven,
    exec_edge_last dt _ (s.shifted dt b 7) hline hseen rfl, shifted_nextShift s dt b (by decide)]
  have hclock : (s.shifted dt b 7).clock + dt = s.clock + 8 * dt := by
    rw [Nat.succ_mul 7, ← Nat.add_assoc]
    rfl
  have hcvp : { (s.shifted dt b 7).cvp with bitCount := 0, shift := 0 } = s.cvp := by
    rw [← hbits, ← hshift]
    rfl
  rw [hclock, hcvp]
  simp [State.shifted]

end

/-! ## Edges that are not counted, and data out (R84, R86) -/

theorem counting_iff (s : State) : s.cvp.counting = true ↔ s.portOpen := by simp [Cvp.counting, State.portOpen]

theorem exec_edge_shut {s : State} (h : ¬ s.portOpen) (dt : Clocks) (bit : Bool) :
    exec (.portClockRisingEdge dt bit) s = .next { s with clock := s.clock + dt } := by
  have hshut : ¬ (s.elapse dt).cvp.counting = true := fun k => h ((counting_iff s).mp k)
  rw [exec, execPortClockRisingEdge, State.edge, if_neg hshut]
  rfl

@[simp] theorem SetpointBlock.bytes_length (b : SetpointBlock) : b.bytes.length = 6 := by
  simp [SetpointBlock.bytes, bytes16]

theorem SetpointBlock.flags_toNat (b : SetpointBlock) : b.flags.toNat =
    (if b.enable then 1 else 0) + (if b.rideThrough then 2 else 0) + (if b.reactivePriority then 4 else 0) := by
  obtain ⟨counter, enable, rideThrough, reactivePriority, exportLimit, reactive⟩ := b
  cases enable <;> cases rideThrough <;> cases reactivePriority <;> rfl

/-- 5.3.1: each field at its offset. -/
theorem SetpointBlock.laidOut_bytes (b : SetpointBlock) : laidOut b.bytes 6 b.layout := by
  have hlen := b.bytes_length
  have hlimit : u16At b.bytes 2 = b.exportLimit := bytes16_parts b.exportLimit
  have hreactive : u16At b.bytes 4 = b.reactive := bytes16_parts b.reactive
  have hcounter : u8At b.bytes 0 = b.counter := rfl
  have hflags : u8At b.bytes 1 = b.flags := rfl
  refine ⟨hlen, ?_⟩
  simp [SetpointBlock.layout, numberAt_one, numberAt_two, hlimit, hreactive, hcounter, hflags, SetpointBlock.flags_toNat]

/-- R84, R86: the bit of the byte to be sent, most significant first. -/
theorem dataOut_read {s : State} {n : Nat} (hopen : s.portOpen) (hport : s.cvp.port = .read n) (hn : n < 6)
    (hbits : s.cvp.bitCount < 8) :
    s.cvp.dataOut = (numberAt s.cvp.front.bytes n 1).testBit (7 - s.cvp.bitCount) := by
  have hnumber : numberAt s.cvp.front.bytes n 1 = (s.cvp.front.bytes.getD n 0).toNat :=
    numberAt_one (by rw [SetpointBlock.bytes_length]; exact hn)
  have hcounting : s.cvp.counting = true := (counting_iff s).mpr hopen
  simp only [Cvp.dataOut, hport, hcounting, Bool.true_and, hnumber]
  rw [BitVec.getMsbD_eq_getLsbD, decide_eq_true hbits, Bool.true_and, BitVec.getLsbD]

theorem dataOut_low {s : State} (h : ¬ s.portOpen ∨ ∀ n, s.cvp.port ≠ .read n) : s.cvp.dataOut = false := by
  simp only [Cvp.dataOut]
  split
  · next n hport =>
    have hshut : ¬ s.portOpen := h.resolve_right fun k => k n hport
    rw [Bool.eq_false_iff.mpr fun k => hshut ((counting_iff s).mp k), Bool.false_and]
  all_goals rfl

/-- Settles O33: the eight edges act on their byte, and the act by the state of the port. -/
theorem eightEdgesMakeAByte : Obligations.EightEdgesMakeAByte := by
  refine ⟨fun dt bit s h => exec_edge_shut h dt bit,
    fun s => ⟨s.cvp.front.laidOut_bytes, fun n hopen hport hn hbits => dataOut_read hopen hport hn hbits, dataOut_low⟩, ?_⟩
  intro dt b s hopen hbits hshift run now
  have hrun : run = .next (State.portByte { s with clock := now } b) := execAll_byte s dt b hopen hbits hshift
  rw [hrun]
  refine ⟨fun hport => ?_, fun n hport hn => ?_, fun n hport hn => ?_, fun hport => ?_⟩
  · simp only [State.portByte, hport]
    rfl
  · simp only [State.portByte, hport, if_pos hn]
    rfl
  · simp only [State.portByte, hport, if_pos hn]
    rfl
  · rcases hport with hport | hport <;> simp only [State.portByte, hport]

end Sys2Proof.Machine
end

section
/-! SUPPORT. A gone report of a code that trips, and what the reports of an arrival leave of the block it has taken (R94, R98,
R181, R205). -/

namespace Sys2Proof.Machine

/-! ## A gone report of a code that trips (R178, R180, R205) -/

section
variable (f : Flm) (now : Stamp)

/-- R178: a gone report opens no record. -/
theorem Flm.any_of_take_gone_any {q : FaultCode → Bool} {c : FaultCode}
    (h : (f.take now (.gone c)).opens.any (fun x => q x.code) = true) : f.opens.any (fun x => q x.code) = true := by
  simp only [Flm.take, Flm.takeGone] at h
  split at h
  · exact h
  · split at h
    · split at h
      · refine (any_map_code q _ (fun r => ?_) _).symm.trans h
        split <;> rfl
      · obtain ⟨r, hr, hq⟩ := List.any_eq_true.mp h
        exact List.any_eq_true.mpr ⟨r, (List.mem_filter.mp hr).1, hq⟩
    · exact h

theorem Flm.no_trip_take_gone {c : FaultCode} (h : f.reaction.trip = false) :
    (f.take now (.gone c)).reaction.trip = false :=
  Bool.eq_false_iff.mpr fun htrip =>
    Bool.eq_false_iff.mp h (f.any_of_take_gone_any now (q := fun c => c.severity.trips) htrip)

end

section
variable (s : State)

/-- R181, R205: the OSC is told where the trip ceases by it. -/
theorem report_gone_trip {c : FaultCode} (hc : c.severity = .trip) : s.report (.gone c) =
    if s.flm.reaction.trip = true ∧ (s.quiet (.gone c)).flm.reaction.trip = false then (s.quiet (.gone c)).oscTripCeases
    else s.quiet (.gone c) := by
  have hreaction : (s.quiet (.gone c)).flm.reaction = _ := s.flm.reaction_take_trip s.stamp (r := .gone c) hc
  have hyaw := congrArg Reaction.yawStop hreaction
  have huntwist := congrArg Reaction.untwistYawStop hreaction
  have hsafe := congrArg Reaction.safeStop hreaction
  rw [State.report, State.tell]
  cases hbefore : s.flm.reaction.trip with
  | true => cases (s.quiet (.gone c)).flm.reaction.trip <;> simp [yawStopArises, hyaw, huntwist, hsafe]
  | false =>
    have hafter : (s.quiet (.gone c)).flm.reaction.trip = false := s.flm.no_trip_take_gone s.stamp hbefore
    simp [yawStopArises, hyaw, huntwist, hsafe, hafter]

/-- R205: the OSC alone moves when trip ceases. -/
theorem oscTripCeases_eq : s.oscTripCeases = { s with osc := s.oscTripCeases.osc } := by
  simp only [State.oscTripCeases, State.testStart]
  split
  case h_2 => split <;> rfl
  all_goals rfl

theorem oscTripCeases_tripped (h : s.osc.state = .tripped) :
    s.oscTripCeases = { s with osc := { s.osc with restartDue := some (s.clock + ms 60000) } } := by
  simp only [State.oscTripCeases, h]
  rfl

theorem oscTripCeases_standby (h : s.osc.state = .standby) : s.oscTripCeases = s.tested := by
  simp only [State.oscTripCeases, h]
  exact testStart_eq_tested h

theorem oscTripCeases_other (h1 : s.osc.state ≠ .tripped) (h2 : s.osc.state ≠ .standby) : s.oscTripCeases = s := by
  simp only [State.oscTripCeases]
  split
  case h_1 hs => exact absurd hs h1
  case h_2 hs => exact absurd hs h2
  all_goals rfl

end

/-! ## What stands after an arrival -/

/-- The codes that moves of the arbiter and of the OSC report by themselves, whatever the report that begins them. -/
def FaultCode.incidental (c : FaultCode) : Bool := c.ofArbiter || c == .restartLimit || c == .startTimeout

/-- What an arrival leaves of the port, of its block and of the timers that judge it, with the condition of one code. -/
structure Landing where
  clock : Clocks
  port : PortState
  bitCount : Nat
  staging : List Byte
  measurement : Measurement
  silenceDue : Option Clocks
  overvoltageDue : Option Clocks
  holds : Bool

def State.landing (s : State) (c : FaultCode) : Landing :=
  { clock := s.clock, port := s.cvp.port, bitCount := s.cvp.bitCount, staging := s.cvp.staging
    measurement := s.cvp.measurement, silenceDue := s.cvp.silenceDue, overvoltageDue := s.cvp.overvoltageDue
    holds := s.flm.holds c }

section
variable {s t : State} {c : FaultCode}

/-- R91: a swap and a block handed are nothing to the measurement. -/
theorem State.handBlock_landing (s : State) (c : FaultCode) (e : Bool) (n : Nat) :
    (s.handBlock e n).landing c = s.landing c := by
  rw [State.handBlock, writeBlock_eq_handed, Cvp.handed]
  split <;> rfl

theorem State.enableOff_landing (s : State) (c : FaultCode) : s.enableOff.landing c = s.landing c := by
  simp only [State.enableOff]
  split
  · exact State.handBlock_landing _ c _ _
  · rfl

/-- A move of the blocks beyond, at the same moment. -/
theorem State.landing_of_outlook (hc : c.ofArbiter = false) (hclock : t.clock = s.clock)
    (hcvp : t.outlook.cvp = s.outlook.cvp) (hholds : t.outlook.holds = s.outlook.holds) : t.landing c = s.landing c := by
  have hflm : t.flm.holds c = s.flm.holds c := by simpa [State.outlook, hc] using congrFun hholds c
  have hsame : t.cvp = s.cvp := hcvp
  simp only [State.landing, hclock, hsame, hflm]

theorem FaultCode.incidental_iff (h : c.incidental = false) :
    c.ofArbiter = false ∧ c ≠ .restartLimit ∧ c ≠ .startTimeout := by
  simpa [FaultCode.incidental, and_assoc] using h

section
variable (s) (hc : c.incidental = false)
include hc

theorem State.yawStopCause_landing (b : Bool) : (s.yawStopCause b).landing c = s.landing c := by
  obtain ⟨harbiter, -⟩ := FaultCode.incidental_iff hc
  refine State.landing_of_outlook harbiter (by simp) ?_ ?_ <;> rw [State.yawStopCause_outlook]

theorem State.apaEnterRideThrough_landing : s.apaEnterRideThrough.landing c = s.landing c := by
  obtain ⟨harbiter, -⟩ := FaultCode.incidental_iff hc
  refine State.landing_of_outlook harbiter (by simp) ?_ ?_ <;> rw [State.apaEnterRideThrough_outlook]

theorem State.apaLeaveRideThrough_landing : s.apaLeaveRideThrough.landing c = s.landing c := by
  obtain ⟨harbiter, -⟩ := FaultCode.incidental_iff hc
  refine State.landing_of_outlook harbiter (by simp) ?_ ?_ <;> rw [State.apaLeaveRideThrough_outlook]

theorem State.enterTripped_landing : s.enterTripped.landing c = s.landing c := by
  obtain ⟨-, hlimit, htimeout⟩ := FaultCode.incidental_iff hc
  have hoff := s.enableOff_landing c
  simp only [State.landing, Landing.mk.injEq] at hoff
  obtain ⟨hclock, hport, hcount, hstaging, hblock, hsilence, hover, -⟩ := hoff
  rw [enterTripped_eq]
  simp only [State.landing, hclock, hport, hcount, hstaging, hblock, hsilence, hover,
    trippedFlm_holds_other s hlimit htimeout]

theorem State.oscTripHolds_landing : s.oscTripHolds.landing c = s.landing c := by
  simp only [State.oscTripHolds]
  split
  case h_1 | h_2 | h_3 | h_4 =>
    split
    · rfl
    · exact s.enterTripped_landing hc
  all_goals rfl

omit hc in
theorem State.testStart_landing : s.testStart.landing c = s.landing c := by
  simp only [State.testStart]
  split <;> rfl

omit hc in
theorem State.oscTripCeases_landing : s.oscTripCeases.landing c = s.landing c := by
  rw [oscTripCeases_eq]
  rfl

omit hc in
theorem State.oscSafeStopHolds_landing : s.oscSafeStopHolds.landing c = s.landing c := by
  simp only [State.oscSafeStopHolds]
  split
  case h_7 | h_8 | h_9 => rfl
  all_goals exact s.enableOff_landing c

/-- R181: whatever is told, the block and the conditions stand. -/
theorem State.tell_landing (before : Reaction) : (s.tell before).landing c = s.landing c := by
  simp only [State.tell]
  repeat' split
  all_goals
    simp only [State.oscTripCeases_landing, State.oscSafeStopHolds_landing, State.oscTripHolds_landing _ hc,
      State.yawStopCause_landing _ hc]

/-- R172: a report of another code. -/
theorem State.report_landing {r : Report} (hr : r.code ≠ c) : (s.report r).landing c = s.landing c := by
  have hholds : (s.quiet r).flm.holds c = s.flm.holds c :=
    s.flm.take_holds_other _ r fun hi => hr (FaultCode.index_injective hi)
  refine (State.tell_landing (s.quiet r) hc _).trans ?_
  rw [State.landing, hholds]
  rfl

theorem State.reportGone_landing {d : FaultCode} (hd : d ≠ c) : (s.reportGone d).landing c = s.landing c := by
  simp only [State.reportGone]
  split
  · exact s.report_landing hc hd
  · rfl

/-- R172: the condition of the code reported. -/
theorem State.report_holds (r : Report) : (s.report r).flm.holds c = (s.flm.take s.stamp r).holds c :=
  congrArg Landing.holds (State.tell_landing (s.quiet r) hc _)

theorem State.reportGone_holds : (s.reportGone c).flm.holds c = false := by
  simp only [State.reportGone]
  split
  · exact (s.report_holds hc _).trans (s.flm.takeGone_holds _ c)
  · next h => exact Bool.eq_false_iff.mpr h

end
end

end Sys2Proof.Machine
end

section
/-! SUPPORT. The steps of an arrival one by one: what each leaves of the block, and a station out of production by the fault
word (R94, R95, R98, R103, R204). -/

namespace Sys2Proof.Machine

/-! ## The block and the conditions after the arrival (R94, R95, R103) -/

section
variable {s : State} {c : FaultCode} (hc : c.incidental = false)
include hc

/-- A move of the ride-through alone. -/
theorem State.leaveRideThrough_landing (hd : c ≠ .rideThroughEvent) (trip : Bool) :
    (s.leaveRideThrough trip).landing c = s.landing c := by
  have htold (t : State) : (t.oscLeaveRideThrough trip).landing c = t.landing c := by
    simp only [State.oscLeaveRideThrough]
    split
    case h_1 =>
      split
      · exact t.enterTripped_landing hc
      · rfl
    all_goals rfl
  exact (State.report_landing _ hc (r := .gone .rideThroughEvent) hd.symm).trans
    ((htold _).trans (State.apaLeaveRideThrough_landing _ hc))

theorem State.enterRideThrough_landing (hd : c ≠ .rideThroughEvent) (v : Nat) :
    (s.enterRideThrough v).landing c = s.landing c :=
  (State.report_landing _ hc (r := .present .rideThroughEvent v) hd.symm).trans
    (State.apaEnterRideThrough_landing (s.dipped v) hc)

theorem State.curveReached_landing (hu : c ≠ .gridUndervoltageTrip) (hd : c ≠ .rideThroughEvent) :
    s.curveReached.landing c = s.landing c :=
  (State.leaveRideThrough_landing hc hd true).trans
    (s.report_landing hc (r := .present .gridUndervoltageTrip _) hu.symm)

theorem State.arrivalInRideThrough_landing (hu : c ≠ .gridUndervoltageTrip) (hd : c ≠ .rideThroughEvent) (v : Nat) :
    (s.arrivalInRideThrough v).landing c = s.landing c := by
  simp only [State.arrivalInRideThrough]
  split
  · split
    · exact State.curveReached_landing (s := s.setCvp (s.cvp.lower v)) hc hu hd
    · rfl
  · rfl

/-- R94, step 5: what comes before the judgement of overvoltage. -/
theorem State.judgeVoltage_split (hu : c ≠ .gridUndervoltageTrip) (hd : c ≠ .rideThroughEvent) :
    ∃ t : State, s.judgeVoltage = t.judgeOvervoltage s.cvp.voltage ∧ t.landing c = s.landing c := by
  refine ⟨_, rfl, ?_⟩
  have hgone : (if 900 ≤ s.cvp.voltage then s.reportGone .gridUndervoltageTrip else s).landing c = s.landing c := by
    split
    · exact s.reportGone_landing hc hu.symm
    · rfl
  refine Eq.trans ?_ hgone
  generalize (if 900 ≤ s.cvp.voltage then s.reportGone .gridUndervoltageTrip else s) = u
  split
  · exact State.arrivalInRideThrough_landing hc hu hd _
  · split
    · exact State.enterRideThrough_landing hc hd _
    · rfl

/-- R103: the overvoltage timer moves, and no condition but that of its own code. -/
theorem State.judgeOvervoltage_landing (ho : c ≠ .gridOvervoltage) (v : Nat) : (s.judgeOvervoltage v).landing c =
    { s.landing c with overvoltageDue := (s.judgeOvervoltage v).cvp.overvoltageDue } := by
  have hgone (t : State) : (t.reportGone .gridOvervoltage).landing c = t.landing c := t.reportGone_landing hc ho.symm
  have hdue (t : State) : (t.reportGone .gridOvervoltage).cvp.overvoltageDue = t.cvp.overvoltageDue :=
    congrArg Landing.overvoltageDue (hgone t)
  simp only [State.judgeOvervoltage]
  split
  · split <;> rfl
  · rw [hgone, hdue]
    rfl

theorem State.judgeVoltage_landing (hu : c ≠ .gridUndervoltageTrip) (hd : c ≠ .rideThroughEvent)
    (ho : c ≠ .gridOvervoltage) :
    s.judgeVoltage.landing c = { s.landing c with overvoltageDue := s.judgeVoltage.cvp.overvoltageDue } := by
  obtain ⟨t, ht, hlanding⟩ := State.judgeVoltage_split (s := s) hc hu hd
  rw [ht, State.judgeOvervoltage_landing hc ho, hlanding]

end

/-- R103: at 1100 or less. -/
theorem State.judgeVoltage_low {s : State} (hv : s.cvp.voltage ≤ 1100) :
    s.judgeVoltage.flm.holds .gridOvervoltage = false ∧ s.judgeVoltage.cvp.overvoltageDue = none := by
  obtain ⟨t, ht, -⟩ := State.judgeVoltage_split (s := s) (c := .converterPortSilent) rfl (by decide) (by decide)
  let u : State := t.setCvp { t.cvp with overvoltageDue := none }
  have hjudged : s.judgeVoltage = u.reportGone .gridOvervoltage := ht.trans (if_neg (Nat.not_lt.mpr hv))
  have hdue := congrArg Landing.overvoltageDue
    (u.reportGone_landing (c := .converterPortSilent) (d := .gridOvervoltage) rfl (by decide))
  rw [hjudged]
  exact ⟨State.reportGone_holds u rfl, hdue⟩

theorem State.oscArrival_landing (s : State) (c : FaultCode) : s.oscArrival.landing c = s.landing c := by
  have hstopped (t : State) : t.endStopping.landing c = t.landing c :=
    (State.testStart_landing _).trans (t.enableOff_landing c)
  simp only [State.oscArrival]
  split
  case h_1 => exact State.testStart_landing _
  case h_2 => split <;> rfl
  case h_3 =>
    split
    · exact hstopped _
    · rfl
  all_goals rfl

theorem State.oscArrival_arrivalSeen (s : State) : s.oscArrival.osc.arrivalSeen = true := by
  have hstart (t : State) : t.testStart.osc.arrivalSeen = t.osc.arrivalSeen := by
    simp only [State.testStart]
    split <;> rfl
  have hstopped (t : State) : t.endStopping.osc.arrivalSeen = t.osc.arrivalSeen := by
    refine (hstart _).trans ?_
    rw [State.setOsc_osc, enableOff_osc]
  simp only [State.oscArrival]
  split
  case h_1 => exact hstart _
  case h_2 => split <;> rfl
  case h_3 =>
    split
    · exact hstopped _
    · rfl
  all_goals rfl

/-- R95: the fault word. -/
theorem State.reportFaultWord_holds (s : State) :
    s.reportFaultWord.flm.holds .converterReported = (s.cvp.measurement.faultWord != 0) := by
  simp only [State.reportFaultWord]
  split
  · next h => rw [State.reportGone_holds s rfl, h]; rfl
  · next h =>
    rw [State.report_holds s rfl, Flm.takePresent_holds]
    exact (bne_iff_ne.mpr h).symm

theorem State.reportFaultWord_landing (s : State) {c : FaultCode} (hc : c.incidental = false) (hr : c ≠ .converterReported) :
    s.reportFaultWord.landing c = s.landing c := by
  simp only [State.reportFaultWord]
  split
  · exact s.reportGone_landing hc hr.symm
  · exact s.report_landing hc hr.symm

/-! ## Out of production (R204, R205) -/

/-- R80, R199, R204: TRIPPED with the enable off and the extra block handed, whether a restart delay runs or not. -/
structure State.AtRest (s : State) : Prop where
  state : s.osc.state = .tripped
  enable : s.osc.enable = false
  limit : s.scu.eLim = 0
  backEnable : s.cvp.backEnable = false
  backLimit : s.cvp.backLimit = 0

namespace State.AtRest
variable {s t : State}

theorem of_tripsTo (h : s.tripsTo t) : t.AtRest := by
  obtain ⟨hframe, hosc, -⟩ := h
  obtain ⟨henable, hlimit, -⟩ := s.cvp.handed_extra s.clock
  rw [hframe, hosc]
  exact ⟨rfl, rfl, rfl, henable, hlimit⟩

theorem quiet (h : s.AtRest) (r : Report) : (s.quiet r).AtRest := ⟨h.state, h.enable, h.limit, h.backEnable, h.backLimit⟩

/-- R205: a trip that comes to hold or ceases moves the restart delay alone. -/
theorem report_present (h : s.AtRest) {c : FaultCode} (hc : c.severity = .trip) (v : Int) :
    (s.report (.present c v)).AtRest := by
  rw [report_trip_idle s hc v (.inl (by rw [h.state]; rfl))]
  refine ⟨?_, ?_, h.limit, h.backEnable, h.backLimit⟩
  · simp only []
    split <;> exact h.state
  · simp only []
    split <;> exact h.enable

theorem report_gone (h : s.AtRest) {c : FaultCode} (hc : c.severity = .trip) : (s.report (.gone c)).AtRest := by
  have hquiet := h.quiet (.gone c)
  rw [report_gone_trip s hc]
  split
  · rw [oscTripCeases_tripped _ hquiet.state]
    exact ⟨hquiet.state, hquiet.enable, hquiet.limit, hquiet.backEnable, hquiet.backLimit⟩
  · exact hquiet

theorem reportGone (h : s.AtRest) {c : FaultCode} (hc : c.severity = .trip) : (s.reportGone c).AtRest := by
  simp only [State.reportGone]
  split
  · exact h.report_gone hc
  · exact h

theorem leaveRideThrough (h : s.AtRest) (trip : Bool) : (s.leaveRideThrough trip).AtRest := by
  have hleft : s.left.AtRest := by
    rw [left_eq]
    exact ⟨h.state, h.enable, h.limit, h.backEnable, h.backLimit⟩
  have htold : s.left.oscLeaveRideThrough trip = s.left := by simp only [State.oscLeaveRideThrough, hleft.state]
  rw [leaveRideThrough_eq, htold]
  exact hleft.quiet _

theorem arrivalInRideThrough (h : s.AtRest) (v : Nat) : (s.arrivalInRideThrough v).AtRest := by
  have hset (lowest : Nat) (curve recovery : Option Clocks) :
      (s.setCvp { s.cvp with lowest := lowest, curveDue := curve, recoveryDue := recovery }).AtRest :=
    ⟨h.state, h.enable, h.limit, h.backEnable, h.backLimit⟩
  simp only [State.arrivalInRideThrough]
  split
  · split
    · exact ((hset _ _ _).report_present rfl _).leaveRideThrough true
    · exact hset _ _ _
  · exact hset _ _ _

theorem judgeOvervoltage (h : s.AtRest) (v : Nat) : (s.judgeOvervoltage v).AtRest := by
  have hset (due : Option Clocks) : (s.setCvp { s.cvp with overvoltageDue := due }).AtRest :=
    ⟨h.state, h.enable, h.limit, h.backEnable, h.backLimit⟩
  simp only [State.judgeOvervoltage]
  split
  · split
    · exact hset _
    · exact h
  · exact (hset none).reportGone rfl

theorem judgeVoltage (h : s.AtRest) : s.judgeVoltage.AtRest := by
  have hgone : (if 900 ≤ s.cvp.voltage then s.reportGone .gridUndervoltageTrip else s).AtRest := by
    split
    · exact h.reportGone rfl
    · exact h
  simp only [State.judgeVoltage]
  generalize (if 900 ≤ s.cvp.voltage then s.reportGone .gridUndervoltageTrip else s) = u at hgone ⊢
  refine State.AtRest.judgeOvervoltage ?_ _
  split
  · exact hgone.arrivalInRideThrough _
  · split
    · next hdip => cases hgone.state.symm.trans hdip.2
    · exact hgone

theorem oscArrival (h : s.AtRest) : s.oscArrival.AtRest := by
  rw [oscArrival_other s (by rw [h.state]; decide) (by rw [h.state]; decide) (by rw [h.state]; decide)]
  exact ⟨h.state, h.enable, h.limit, h.backEnable, h.backLimit⟩

end State.AtRest

/-- R178, R181: with no trip in force the silence that ends is nothing to the OSC. -/
theorem reportGone_of_no_trip {s : State} {c : FaultCode} (hc : c.severity = .trip) (h : s.flm.reaction.trip = false) :
    s.reportGone c = s.quietGone c := by
  have hquiet : s.report (.gone c) = s.quiet (.gone c) :=
    (report_gone_trip s hc).trans (if_neg fun k => by rw [h] at k; cases k.1)
  rw [State.reportGone, hquiet]
  rfl

/-- R95, R204: the fault word of an arrival trips a producing station. -/
theorem faultWord_trips {s : State} (hm : s.cvp.measurement.faultWord ≠ 0) (hp : s.osc.state.isProducing = true)
    (he : s.osc.enable = true) (htrip : s.flm.reaction.trip = false) :
    (s.reportGone .converterPortSilent).reportFaultWord.AtRest := by
  let f : Flm := s.flm.goneIf s.stamp .converterPortSilent
  have hgone : s.reportGone .converterPortSilent = s.setFlm f :=
    (reportGone_of_no_trip rfl htrip).trans (quietGone_eq s .converterPortSilent)
  have hf : f.reaction.trip = false := by
    simp only [f, Flm.goneIf]
    split
    · exact s.flm.no_trip_take_gone _ htrip
    · exact htrip
  have hword : (s.setFlm f).reportFaultWord =
      (s.setFlm f).report (.present .converterReported s.cvp.measurement.faultWord.toNat) := if_neg hm
  rw [hgone, hword]
  exact .of_tripsTo (report_tripsTo (s.setFlm f) rfl _ hp he hf).1

end Sys2Proof.Machine
end

section
/-! SUPPORT. A measurement arrival in the terms of the statement (R87, R94, R95, R98, R103, R201, R204, R205, 5.3.2). -/

namespace Sys2Proof.Machine

/-- 5.3.2: each field of a block received at its offset. -/
theorem laidOut_readMeasurement {bs : List Byte} (h : bs.length = 10) : laidOut bs 10 (readMeasurement bs).layout := by
  refine ⟨h, ?_⟩
  simp [Measurement.layout, readMeasurement, numberAt_two, h]

/-! ## Any arrival (R94, R95, R103, R204) -/

section
variable (u : State)

/-- R94: the state when the first three steps have been taken. -/
def State.judged : State := (u.reportGone .converterPortSilent).reportFaultWord

theorem judged_landing {c : FaultCode} (hc : c.incidental = false) (hs : c ≠ .converterPortSilent)
    (hr : c ≠ .converterReported) : u.judged.landing c = u.landing c :=
  (State.reportFaultWord_landing _ hc hr).trans (u.reportGone_landing hc hs.symm)

/-- What the arrival leaves in the port, by any code that its steps do not report. -/
theorem arrived_landing : u.judged.judgeVoltage.oscArrival.landing .coolingLost =
    { u.landing .coolingLost with overvoltageDue := u.judged.judgeVoltage.cvp.overvoltageDue } := by
  rw [State.oscArrival_landing, State.judgeVoltage_landing rfl (by decide) (by decide) (by decide),
    judged_landing u rfl (by decide) (by decide)]

theorem arrived_converterPortSilent : u.judged.judgeVoltage.oscArrival.flm.holds .converterPortSilent = false := by
  have hvoltage := State.judgeVoltage_landing (s := u.judged) (c := .converterPortSilent) rfl (by decide) (by decide)
    (by decide)
  have hword := State.reportFaultWord_landing (u.reportGone .converterPortSilent) (c := .converterPortSilent) rfl
    (by decide)
  calc u.judged.judgeVoltage.oscArrival.flm.holds .converterPortSilent
      = u.judged.judgeVoltage.flm.holds .converterPortSilent :=
        congrArg Landing.holds (State.oscArrival_landing _ .converterPortSilent)
    _ = u.judged.flm.holds .converterPortSilent := congrArg Landing.holds hvoltage
    _ = (u.reportGone .converterPortSilent).flm.holds .converterPortSilent := congrArg Landing.holds hword
    _ = false := u.reportGone_holds rfl

theorem arrived_converterReported :
    u.judged.judgeVoltage.oscArrival.flm.holds .converterReported = (u.cvp.measurement.faultWord != 0) := by
  have hvoltage := State.judgeVoltage_landing (s := u.judged) (c := .converterReported) rfl (by decide) (by decide)
    (by decide)
  have hsilent := u.reportGone_landing (c := .converterReported) (d := .converterPortSilent) rfl (by decide)
  calc u.judged.judgeVoltage.oscArrival.flm.holds .converterReported
      = u.judged.judgeVoltage.flm.holds .converterReported :=
        congrArg Landing.holds (State.oscArrival_landing _ .converterReported)
    _ = u.judged.flm.holds .converterReported := congrArg Landing.holds hvoltage
    _ = ((u.reportGone .converterPortSilent).cvp.measurement.faultWord != 0) := State.reportFaultWord_holds _
    _ = (u.cvp.measurement.faultWord != 0) :=
        congrArg (fun l : Landing => l.measurement.faultWord != 0) hsilent

theorem judged_voltage : u.judged.cvp.voltage = u.cvp.voltage :=
  congrArg (fun l : Landing => l.measurement.voltage.toNat) (judged_landing u (c := .coolingLost) rfl (by decide) (by decide))

theorem arrived_low (hv : u.cvp.voltage ≤ 1100) :
    u.judged.judgeVoltage.oscArrival.flm.holds .gridOvervoltage = false ∧
      u.judged.judgeVoltage.oscArrival.cvp.overvoltageDue = none := by
  obtain ⟨hholds, hdue⟩ := State.judgeVoltage_low (s := u.judged) ((judged_voltage u).trans_le hv)
  have hosc := State.oscArrival_landing u.judged.judgeVoltage .gridOvervoltage
  exact ⟨(congrArg Landing.holds hosc).trans hholds, (congrArg Landing.overvoltageDue hosc).trans hdue⟩

end

/-! ## An arrival with a clear fault word, outside ride-through (R94, R98, R201, R205) -/

section
variable {s : State} {dt : Clocks} {bit : Bool} {m : Measurement}

/-- R94, R95: neither silence nor a fault word is reported gone. -/
theorem exec_clearArrival (ha : s.arrives bit m) (hm : m.faultWord = 0) (hsilent : s.flm.holds .converterPortSilent = false)
    (hreported : s.flm.holds .converterReported = false) :
    exec (.measurementArrival dt bit) s = .next ((s.written (s.clock + dt) m).judgeVoltage.oscArrival) := by
  let u : State := s.written (s.clock + dt) m
  have hs : u.reportGone .converterPortSilent = u := reportGone_absent hsilent
  have hf : u.reportFaultWord = u := (if_pos hm).trans (reportGone_absent hreported)
  rw [exec_arrival ha, hs, hf]

/-- R94, R103: with no dip to ride through, and the FLM and the OSC at `f` and `o` when the undervoltage has been judged. -/
theorem exec_calmArrival {f : Flm} {o : Osc} (ha : s.arrives bit m) (hm : m.faultWord = 0)
    (hsilent : s.flm.holds .converterPortSilent = false) (hreported : s.flm.holds .converterReported = false)
    (hover : f.holds .gridOvervoltage = false) (hr : s.cvp.rideThrough = false)
    (hdip : ¬ (m.voltage.toNat < 850 ∧ o.state = .producing))
    (hunder : (if 900 ≤ m.voltage.toNat then (s.written (s.clock + dt) m).reportGone .gridUndervoltageTrip
      else s.written (s.clock + dt) m) = { s.written (s.clock + dt) m with flm := f, osc := o }) :
    exec (.measurementArrival dt bit) s = .next (State.oscArrival { s with
      clock := s.clock + dt, cvp := s.cvp.afterArrival (s.clock + dt) m, flm := f, osc := o }) := by
  let w : State := { s.written (s.clock + dt) m with flm := f, osc := o }
  have hride : ¬ w.cvp.rideThrough = true := by rw [show w.cvp.rideThrough = false from hr]; exact Bool.false_ne_true
  have hjudged : (s.written (s.clock + dt) m).judgeVoltage = w.judgeOvervoltage m.voltage.toNat := by
    rw [State.judgeVoltage]
    simp only [show (s.written (s.clock + dt) m).cvp.voltage = m.voltage.toNat from rfl, hunder]
    rw [if_neg hride, if_neg hdip]
  rw [exec_clearArrival ha hm hsilent hreported, hjudged, judgeOvervoltage_quiet (s := w) hover]
  rfl

/-- R98, R205: the undervoltage that ends moves the OSC where the trip ends with it. -/
theorem undervoltage_gone {u : State} (h : u.flm.holds .gridUndervoltageTrip = true) {f : Flm}
    (hf : f = u.flm.take u.stamp (.gone .gridUndervoltageTrip)) : u.reportGone .gridUndervoltageTrip =
      { u with
        flm := f
        osc := if u.flm.reaction.trip = true ∧ f.reaction.trip = false then (u.setFlm f).oscTripCeases.osc else u.osc } := by
  have hquiet : u.quiet (.gone .gridUndervoltageTrip) = u.setFlm f := congrArg u.setFlm hf.symm
  rw [State.reportGone, if_pos h, report_gone_trip u rfl, hquiet, State.setFlm_flm]
  by_cases hceased : u.flm.reaction.trip = true ∧ f.reaction.trip = false
  · rw [if_pos hceased, if_pos hceased, oscTripCeases_eq]
    rfl
  · rw [if_neg hceased, if_neg hceased]
    rfl

end

/-- Any arrival: the block, the conditions, and a station that the fault word takes out of production. -/
theorem arrival_takes_block {dt : Clocks} {bit : Bool} {m : Measurement} {s : State} (ha : s.arrives bit m) :
    ∃ t, exec (.measurementArrival dt bit) s = .next t ∧ t.clock = s.clock + dt ∧ t.cvp.measurement = m ∧
      t.cvp.silenceDue = some (s.clock + dt + ms 60) ∧ t.cvp.port = .done ∧ t.cvp.bitCount = 0 ∧ t.cvp.staging = [] ∧
      t.osc.arrivalSeen = true ∧ t.flm.holds .converterPortSilent = false ∧
      t.flm.holds .converterReported = (m.faultWord != 0) ∧
      (m.voltage.toNat ≤ 1100 → t.flm.holds .gridOvervoltage = false ∧ t.cvp.overvoltageDue = none) ∧
      (m.faultWord ≠ 0 → s.osc.state.isProducing = true → s.osc.enable = true → s.flm.reaction.trip = false →
        t.osc.state = .tripped ∧ t.osc.enable = false ∧ t.scu.eLim = 0 ∧ t.cvp.backEnable = false ∧ t.cvp.backLimit = 0) := by
  let u : State := s.written (s.clock + dt) m
  have hlanding := arrived_landing u
  simp only [State.landing, Landing.mk.injEq] at hlanding
  obtain ⟨hclock, hport, hcount, hstaging, hblock, hsilence, -, -⟩ := hlanding
  refine ⟨_, exec_arrival ha, hclock, hblock, hsilence, hport, hcount, hstaging, State.oscArrival_arrivalSeen _,
    arrived_converterPortSilent u, arrived_converterReported u, arrived_low u, fun hword hp he htrip => ?_⟩
  have hrest : u.judged.AtRest := faultWord_trips (s := u) hword hp he htrip
  obtain ⟨hstate, henable, hlimit, hback, hbackLimit⟩ := hrest.judgeVoltage.oscArrival
  exact ⟨hstate, henable, hlimit, hback, hbackLimit⟩

/-! ## The undervoltage that ends (R98, R205, R201) -/

section
variable {s : State} {now : Clocks} {m : Measurement} {f : Flm}

/-- R98: the OSC when the undervoltage has been judged and the FLM is at `f`. -/
def State.oscJudged (s : State) (now : Clocks) (m : Measurement) (f : Flm) : Osc :=
  if s.flm.reaction.trip = true ∧ f.reaction.trip = false then ((s.written now m).setFlm f).oscTripCeases.osc else s.osc

theorem undervoltage_judged (h : s.flm.holds .gridUndervoltageTrip = true)
    (hf : f = if m.voltage.toNat < 900 then s.flm else s.flm.take (stampOf now) (.gone .gridUndervoltageTrip)) :
    (if 900 ≤ m.voltage.toNat then (s.written now m).reportGone .gridUndervoltageTrip else s.written now m) =
      { s.written now m with flm := f, osc := s.oscJudged now m f } := by
  by_cases hv : m.voltage.toNat < 900
  · have hkept : f = s.flm := hf.trans (if_pos hv)
    have hosc : s.oscJudged now m f = s.osc := if_neg fun h => by rw [hkept, h.1] at h; cases h.2
    rw [if_neg (Nat.not_le.mpr hv), hosc, hkept]
    rfl
  · rw [if_pos (Nat.not_lt.mp hv)]
    exact undervoltage_gone (u := s.written now m) h (hf.trans (if_neg hv))

/-- R205: TRIPPED starts the restart delay. -/
theorem oscJudged_tripped (h : s.osc.state = .tripped) : s.oscJudged now m f =
    if s.flm.reaction.trip = true ∧ f.reaction.trip = false then { s.osc with restartDue := some (now + ms 60000) }
    else s.osc := by
  have hceases := oscTripCeases_tripped ((s.written now m).setFlm f) h
  exact if_congr Iff.rfl (congrArg State.osc hceases) rfl

/-- R201, R205: STANDBY tests the start conditions, and may start. -/
theorem oscJudged_standby (h : s.osc.state = .standby) : s.oscJudged now m f =
    if s.flm.reaction.trip = true ∧ ((s.written now m).setFlm f).mayStart then
      { s.osc with state := .starting, enable := true, startDue := some (now + ms 10000) }
    else s.osc := by
  have hceases := congrArg State.osc (oscTripCeases_standby ((s.written now m).setFlm f) h)
  have hend : s.oscJudged now m f = if s.flm.reaction.trip = true ∧ f.reaction.trip = false then
      ((s.written now m).setFlm f).tested.osc else s.osc := if_congr Iff.rfl hceases rfl
  rw [hend]
  by_cases hstart : ((s.written now m).setFlm f).mayStart
  · rw [show ((s.written now m).setFlm f).tested = _ from if_pos hstart]
    exact if_congr (and_congr_right fun _ => ⟨fun _ => hstart, fun h => h.2.1⟩) rfl rfl
  · rw [show ((s.written now m).setFlm f).tested = _ from if_neg hstart]
    exact (ite_self _).trans (if_neg fun h => hstart h.2).symm

theorem oscJudged_other (h1 : s.osc.state ≠ .tripped) (h2 : s.osc.state ≠ .standby) : s.oscJudged now m f = s.osc := by
  rw [State.oscJudged, oscTripCeases_other ((s.written now m).setFlm f) h1 h2]
  exact ite_self _

/-- R94: an arrival that moves the OSC nowhere is only seen. -/
theorem oscArrival_unmoved (h1 : s.osc.state ≠ .standby) (h2 : s.osc.state ≠ .starting) (h3 : s.osc.state ≠ .stopping) :
    State.oscArrival { s with clock := now, cvp := s.cvp.afterArrival now m, flm := f } = { s with
      clock := now, cvp := s.cvp.afterArrival now m, flm := f, osc := { s.osc with arrivalSeen := true } } :=
  oscArrival_other { s with clock := now, cvp := s.cvp.afterArrival now m, flm := f } h1 h2 h3

/-- R201: the arrival is seen only when the OSC acts on it. -/
theorem mayStart_written : ((s.written now m).setFlm f).mayStart ↔
    State.mayStart { s with
      clock := now, cvp := s.cvp.afterArrival now m, flm := f, osc := { s.osc with arrivalSeen := true } } ∧
    s.osc.arrivalSeen = true :=
  ⟨fun ⟨hrun, htrip, hflow, hsilence, hseen⟩ => ⟨⟨hrun, htrip, hflow, hsilence, rfl⟩, hseen⟩,
    fun ⟨⟨hrun, htrip, hflow, hsilence, _⟩, hseen⟩ => ⟨hrun, htrip, hflow, hsilence, hseen⟩⟩

/-- R94, R98, R201: a station that starts where its trip ends can enter PRODUCING at the same arrival. -/
theorem oscArrival_standby_judged (hs : s.osc.state = .standby) (hm : m.faultWord = 0) :
    let u : State := { s with
      clock := now, cvp := s.cvp.afterArrival now m, flm := f, osc := { s.osc with arrivalSeen := true } }
    State.oscArrival { s with
        clock := now, cvp := s.cvp.afterArrival now m, flm := f, osc := s.oscJudged now m f } =
      if (s.flm.reaction.trip = true ∧ f.reaction.trip = false) ∧ u.mayStart ∧ s.osc.arrivalSeen = true ∧
          0 < m.actual.toInt then
        { u with osc := { u.osc with state := .producing, enable := true, startDue := none } }
      else u.tested := by
  intro u
  rw [oscJudged_standby hs]
  by_cases hstart : s.flm.reaction.trip = true ∧ ((s.written now m).setFlm f).mayStart
  · obtain ⟨htrip, hmay⟩ := hstart
    obtain ⟨hu, hseen⟩ := mayStart_written.mp hmay
    have htested : u.tested = _ := if_pos hu
    rw [if_pos ⟨htrip, hmay⟩, oscArrival_starting _ rfl hm, htested]
    exact if_congr ⟨fun hactual => ⟨⟨htrip, hu.2.1⟩, hu, hseen, hactual⟩, fun h => h.2.2.2⟩ rfl (by simp [u])
  · have hnot : ¬ ((s.flm.reaction.trip = true ∧ f.reaction.trip = false) ∧ u.mayStart ∧ s.osc.arrivalSeen = true ∧
        0 < m.actual.toInt) :=
      fun ⟨⟨htrip, _⟩, hmay, hseen, _⟩ => hstart ⟨htrip, mayStart_written.mpr ⟨hmay, hseen⟩⟩
    rw [if_neg hstart, if_neg hnot]
    exact (oscArrival_standby { s with clock := now, cvp := s.cvp.afterArrival now m, flm := f } hs).trans
      (testStart_eq_tested hs)

end

/-- R98, R201, R203, R205: the states that neither an arrival nor the end of a trip moves. -/
theorem OpState.unmoved_by_arrival {x : OpState} {v : Nat}
    (h : (x = .producing ∧ 850 ≤ v) ∨ x = .safeStop ∨ x = .loading ∨ x = .unconfigured) :
    ¬ (v < 850 ∧ x = .producing) ∧ x ≠ .tripped ∧ x ≠ .standby ∧ x ≠ .starting ∧ x ≠ .stopping := by
  rcases h with ⟨rfl, hv⟩ | rfl | rfl | rfl
  · exact ⟨fun h => Nat.not_lt.mpr hv h.1, by decide, by decide, by decide, by decide⟩
  all_goals simp

/-- Settles O36: any arrival by the steps of R94, then the arrivals that report nothing gone, or the undervoltage alone. -/
theorem arrivalTakesTheBlock : Obligations.ArrivalTakesTheBlock := by
  refine ⟨fun bs h => laidOut_readMeasurement h, fun dt bit m s ha => ⟨arrival_takes_block ha, ?_, ?_⟩⟩
  · intro hm hq hr hs
    obtain ⟨hsilent, hreported, hunder, hover⟩ := hq
    have hgone : (s.written (s.clock + dt) m).reportGone .gridUndervoltageTrip = s.written (s.clock + dt) m :=
      reportGone_absent hunder
    have hmoved : ¬ (m.voltage.toNat < 850 ∧ s.osc.state = .producing) ∧ s.osc.state ≠ .standby ∧
        s.osc.state ≠ .starting ∧ s.osc.state ≠ .stopping := by
      rcases or_left_comm.mp hs with htripped | hs
      · simp [htripped]
      · obtain ⟨hdip, -, hothers⟩ := OpState.unmoved_by_arrival hs
        exact ⟨hdip, hothers⟩
    obtain ⟨hdip, hstandby, hstarting, hstopping⟩ := hmoved
    rw [exec_calmArrival (f := s.flm) (o := s.osc) ha hm hsilent hreported hover hr hdip (by rw [hgone, ite_self]; rfl),
      oscArrival_unmoved hstandby hstarting hstopping]
  · intro hm hsilent hreported hover hunder hr f ceased u
    have hfover : f.holds .gridOvervoltage = false := by
      simp only [f]
      split
      · exact hover
      · exact (s.flm.take_holds_other _ (.gone .gridUndervoltageTrip) (by decide)).trans hover
    have harrival (hdip : ¬ (m.voltage.toNat < 850 ∧ (s.oscJudged (s.clock + dt) m f).state = .producing)) :=
      exec_calmArrival (bit := bit) ha hm hsilent hreported hfover hr hdip (undervoltage_judged hunder rfl)
    refine ⟨?_, fun hs => ?_, fun hs => ?_, fun hs => ?_⟩
    · by_cases hv : m.voltage.toNat < 900
      · simpa [f, hv] using hunder
      · simpa [f, hv] using s.flm.takeGone_holds _ .gridUndervoltageTrip
    · have hosc := oscJudged_tripped (now := s.clock + dt) (m := m) (f := f) hs
      have hstate : (s.oscJudged (s.clock + dt) m f).state = .tripped := by
        rw [hosc]
        split <;> exact hs
      rw [harrival (by rw [hstate]; simp), oscArrival_other _ (by rw [hstate]; decide) (by rw [hstate]; decide)
        (by rw [hstate]; decide), hosc]
      by_cases hc : ceased
      · rw [if_pos hc, if_pos hc]
      · rw [if_neg hc, if_neg hc]
    · have hstate : (s.oscJudged (s.clock + dt) m f).state ≠ .producing := by
        rw [oscJudged_standby hs]
        split
        · exact OpState.noConfusion
        · rw [hs]
          exact OpState.noConfusion
      rw [harrival fun h => hstate h.2, oscArrival_standby_judged hs hm]
    · obtain ⟨hdip, htripped, hstandby, hstarting, hstopping⟩ := OpState.unmoved_by_arrival hs
      have hosc := oscJudged_other (now := s.clock + dt) (m := m) (f := f) htripped hstandby
      rw [harrival (by rw [hosc]; exact hdip), hosc, oscArrival_unmoved hstandby hstarting hstopping]

end Sys2Proof.Machine
end

section
/-! SUPPORT. The table of the yaw states and the budget of the APA under the moves of the arbiter: what a sound station holds in
each yaw state, and that every move leads to such a station (R115 to R121, R142, R160 to R169). -/

namespace Sys2Proof.Machine

/-! ## Drives selected (R117) -/

/-- The lowest `m` set entries are no more than `m`. -/
theorem setCount_lowestSet_le {n : Nat} (p : Fin n → Bool) (m : Nat) : setCount (lowestSet p m) ≤ m := by
  rw [setCount, length_filter_finRange]
  refine (Finset.card_le_card_of_injOn (setBelow p) (t := Finset.range m) (fun f hf => ?_) fun e he f hf hef => ?_).trans
    (Finset.card_range m).le
  · have hf : lowestSet p m f = true := by simpa using hf
    simpa using (by simpa [lowestSet] using hf : p f = true ∧ setBelow p f < m).2
  · have hset (g : Fin n) (hg : g ∈ ((Finset.univ.filter fun i => lowestSet p m i = true : Finset (Fin n)) : Set (Fin n))) :
        p g = true := by
      have hg : lowestSet p m g = true := by simpa using hg
      exact (by simpa [lowestSet] using hg : p g = true ∧ setBelow p g < m).1
    rcases lt_trichotomy e f with hlt | heq | hgt
    · exact absurd hef (setBelow_lt p (hset e he) hlt).ne
    · exact heq
    · exact absurd hef (setBelow_lt p (hset f hf) hgt).ne'

/-- The entries of a table by their numbers. -/
theorem toList_eq_map_finRange {α : Type} {n : Nat} (v : Vector α n) : v.toList = (List.finRange n).map fun e => v[e] := by
  rw [← List.ofFn_eq_map]
  exact List.ext_getElem (by simp) (by simp)

/-- The set entries of a table before `d`, counted in the table or by their numbers. -/
theorem count_take_eq_setBelow {n : Nat} (v : Vector Bool n) (d : Fin n) :
    (v.toList.take d.val).count true = setBelow (fun e => v[e]) d := by
  have htake : ∀ e ∈ (List.finRange n).take d.val, e < d := by
    intro e he
    obtain ⟨i, hi, rfl⟩ := List.mem_take_iff_getElem.mp he
    simp only [List.getElem_finRange]
    exact Fin.lt_def.mpr (by simpa using (Nat.lt_min.mp hi).1)
  have hdrop : ∀ e ∈ (List.finRange n).drop d.val, ¬ e < d := by
    intro e he
    obtain ⟨i, hi, rfl⟩ := List.mem_drop_iff_getElem.mp he
    simp only [List.getElem_finRange]
    exact fun hlt => by simpa using Fin.lt_def.mp hlt
  have hrest : ((List.finRange n).drop d.val).countP (fun e => decide (e < d) && v[e]) = 0 :=
    List.countP_eq_zero.mpr fun e he => by simp [hdrop e he]
  rw [toList_eq_map_finRange, ← List.map_take, List.count, List.countP_map, setBelow, ← List.countP_eq_length_filter]
  conv_rhs => rw [← List.take_append_drop d.val (List.finRange n), List.countP_append, hrest]
  exact List.countP_congr fun e he => by simp [htake e he]

/-- R117: the lowest-numbered usable drives. -/
theorem selectDrives_eq (usable : Vector Bool 6) (k : Nat) :
    selectDrives usable k = Vector.ofFn (lowestSet (fun e => usable[e]) k) := by
  simp only [selectDrives, count_take_eq_setBelow]
  rfl

/-- R117: the selection holds no more drives than the grant. -/
theorem countSet_selectDrives (usable : Vector Bool 6) (k : Nat) : countSet (selectDrives usable k) ≤ k := by
  rw [selectDrives_eq, countSet_ofFn]
  exact setCount_lowestSet_le _ k

theorem countSet_none : countSet (Vector.replicate 6 false) = 0 := by decide

/-! ## The table of the yaw states (R115 to R121, R160) -/

/-- The table of 6.5 for a station in which an image is `unloaded` or not. -/
def State.yawFits (s : State) (unloaded : Bool) : Prop :=
  s.ywc.releaseOut = (s.ywc.state == .brakeRelease || s.ywc.state == .moving) ∧
    (s.ywc.state ≠ .moving → s.ywc.enables = Vector.replicate 6 false) ∧
    countSet s.ywc.enables ≤ s.apa.yawGranted ∧
    (s.apa.yawGranted = 0 ∨ (4 ≤ s.apa.yawGranted ∧ s.apa.yawGranted ≤ 6)) ∧
    (s.apa.yawGranted = 0 ↔ s.ywc.state = .idle ∨ s.ywc.state = .requestPower) ∧
    s.apa.yawRequest.isSome = (s.ywc.state == .requestPower) ∧
    s.ywc.move.isSome = (s.ywc.state != .idle) ∧
    (unloaded = true → s.ywc.state = .idle ∧ s.ywc.evalDue = none)

theorem yawSound_iff (s : State) : s.yawSound ↔ s.yawFits s.osc.state.isUnloaded := Iff.rfl

namespace State.yawFits
variable {s : State} {b : Bool}

/-! What makes a station fit in each yaw state. -/

theorem of_idle (hs : s.ywc.state = .idle) (hout : s.ywc.releaseOut = false)
    (hen : s.ywc.enables = Vector.replicate 6 false) (hmove : s.ywc.move = none) (hgrant : s.apa.yawGranted = 0)
    (hreq : s.apa.yawRequest = none) (heval : b = true → s.ywc.evalDue = none) : s.yawFits b := by
  simp [State.yawFits, hs, hout, hen, hmove, hgrant, hreq, countSet_none]
  exact heval

theorem of_requestPower (hs : s.ywc.state = .requestPower) (hout : s.ywc.releaseOut = false)
    (hen : s.ywc.enables = Vector.replicate 6 false) (hmove : s.ywc.move.isSome = true) (hgrant : s.apa.yawGranted = 0)
    (hreq : s.apa.yawRequest.isSome = true) : s.yawFits false := by
  simp [State.yawFits, hs, hout, hen, hmove, hgrant, hreq, countSet_none]

/-- R116, R117, R121: the three states that hold a grant. -/
theorem of_granted (hs : s.ywc.state = .brakeRelease ∨ s.ywc.state = .moving ∨ s.ywc.state = .brakeApply)
    (hout : s.ywc.releaseOut = (s.ywc.state == .brakeRelease || s.ywc.state == .moving))
    (hen : s.ywc.state ≠ .moving → s.ywc.enables = Vector.replicate 6 false)
    (hcount : countSet s.ywc.enables ≤ s.apa.yawGranted)
    (hmove : s.ywc.move.isSome = true) (hgrant : 4 ≤ s.apa.yawGranted ∧ s.apa.yawGranted ≤ 6)
    (hreq : s.apa.yawRequest = none) : s.yawFits false := by
  have hne : s.apa.yawGranted ≠ 0 := by omega
  rcases hs with hs | hs | hs <;> simp_all [State.yawFits]

/-! What a station that fits holds in each yaw state. -/

variable (h : s.yawFits b)
include h

theorem loaded (hs : s.ywc.state ≠ .idle) : b = false := by
  obtain ⟨-, -, -, -, -, -, -, hidle⟩ := h
  exact Bool.eq_false_iff.mpr fun hb => hs (hidle hb).1

/-- R109: before a load no evaluation is due. -/
theorem loaded_of_eval (hd : s.ywc.evalDue.isSome = true) : b = false := by
  obtain ⟨-, -, -, -, -, -, -, hidle⟩ := h
  refine Bool.eq_false_iff.mpr fun hb => ?_
  rw [(hidle hb).2] at hd
  cases hd

theorem enables_of (hs : s.ywc.state ≠ .moving) : s.ywc.enables = Vector.replicate 6 false := by
  obtain ⟨-, hen, -⟩ := h
  exact hen hs

theorem releaseOut_of (hs : s.ywc.state = .idle ∨ s.ywc.state = .requestPower ∨ s.ywc.state = .brakeApply) :
    s.ywc.releaseOut = false := by
  obtain ⟨hout, -⟩ := h
  rw [hout]
  rcases hs with hs | hs | hs <;> rw [hs] <;> rfl

theorem ungranted (hs : s.ywc.state = .idle ∨ s.ywc.state = .requestPower) : s.apa.yawGranted = 0 := by
  obtain ⟨-, -, -, -, hgrant, -⟩ := h
  exact hgrant.mpr hs

/-- R121, R160: what a station holds that has been granted a move. -/
theorem granted (hs : s.ywc.state = .brakeRelease ∨ s.ywc.state = .moving ∨ s.ywc.state = .brakeApply) :
    (4 ≤ s.apa.yawGranted ∧ s.apa.yawGranted ≤ 6) ∧ s.apa.yawRequest = none ∧ s.ywc.move.isSome = true := by
  obtain ⟨-, -, -, hrange, hgrant, hreq, hmove, -⟩ := h
  refine ⟨hrange.resolve_left fun hzero => ?_, ?_, ?_⟩
  · rcases hs with hs | hs | hs <;> simp [hs] at hgrant <;> exact hgrant hzero
  · rw [← Option.not_isSome_iff_eq_none, hreq]
    rcases hs with hs | hs | hs <;> simp [hs]
  · rw [hmove]
    rcases hs with hs | hs | hs <;> simp [hs]

/-- R115: a request waits in REQUEST_POWER alone. -/
theorem waiting (hr : s.apa.yawRequest.isSome = true) : s.ywc.state = .requestPower := by
  obtain ⟨-, -, -, -, -, hreq, -⟩ := h
  simpa using hreq.symm.trans hr

theorem unrequested (hs : s.ywc.state ≠ .requestPower) : s.apa.yawRequest = none := by
  rw [← Option.not_isSome_iff_eq_none]
  exact fun hr => hs (h.waiting hr)

theorem move_of (hs : s.ywc.state ≠ .idle) : s.ywc.move.isSome = true := by
  obtain ⟨-, -, -, -, -, -, hmove, -⟩ := h
  rw [hmove]
  simpa using hs

theorem unmoved (hs : s.ywc.state = .idle) : s.ywc.move = none := by
  obtain ⟨-, -, -, -, -, -, hmove, -⟩ := h
  rw [← Option.not_isSome_iff_eq_none, hmove, hs]
  decide

/-- A change of what the table does not speak of. -/
theorem congr {t : State} (hstate : t.ywc.state = s.ywc.state) (hout : t.ywc.releaseOut = s.ywc.releaseOut)
    (hen : t.ywc.enables = s.ywc.enables) (hmove : t.ywc.move = s.ywc.move) (heval : t.ywc.evalDue = s.ywc.evalDue)
    (hgrant : t.apa.yawGranted = s.apa.yawGranted) (hreq : t.apa.yawRequest = s.apa.yawRequest) : t.yawFits b := by
  simpa only [State.yawFits, hstate, hout, hen, hmove, heval, hgrant, hreq] using h

end State.yawFits

/-! ## The budget of the APA (R142, R143, R159, R160) -/

/-- R142, R143: the fans granted are the fans running, none of them FAILED. -/
def State.fansFit (s : State) : Prop :=
  setCount s.clc.runs = s.apa.fansGranted ∧ ∀ f : Fin 4, s.clc.fans[f].failed = true → s.clc.runs f = false

/-- R159, R160: the figures are in order, and the granted total is within the configured budget. -/
def Apa.funded (a : Apa) : Prop :=
  a.figures.pumpLoad ≤ a.figures.budgetRt ∧ a.figures.budgetRt ≤ a.figures.budget ∧ a.total ≤ a.figures.budget

/-- R167, R168: shedding is owed only while a stopped move keeps its grant. -/
def State.shedFits (s : State) : Prop := s.apa.shedPending = true → s.ywc.state = .brakeApply

/-- The budget kept at every moment of a command. -/
def State.powerFits (s : State) : Prop := s.fansFit ∧ s.apa.funded ∧ s.shedFits

theorem powerSound_iff (s : State) :
    s.powerSound ↔ s.powerFits ∧ (s.osc.state.isUnloaded = true → s.apa.rideThrough = false) := by
  constructor
  · rintro ⟨hcount, hfailed, hpump, hbudget, htotal, hride, hshed⟩
    exact ⟨⟨⟨(setCount_runs _).trans hcount, hfailed⟩, ⟨hpump, hbudget, htotal⟩, hshed⟩, hride⟩
  · rintro ⟨⟨⟨hcount, hfailed⟩, ⟨hpump, hbudget, htotal⟩, hshed⟩, hride⟩
    exact ⟨(setCount_runs _).symm.trans hcount, hfailed, hpump, hbudget, htotal, hride, hshed⟩

theorem Apa.inForce_le {a : Apa} (h : a.figures.budgetRt ≤ a.figures.budget) : a.inForce ≤ a.figures.budget := by
  simp only [Apa.inForce]
  split
  · exact h
  · exact Nat.le_refl _

end Sys2Proof.Machine
end

section
/-! SUPPORT. The moves of the arbiter and of the yaw states, one by one (R115 to R121, R142, R163 to R169). -/

namespace Sys2Proof.Machine

/-! ## Fans (R142, R163, R168) -/

/-- One entry more is set. -/
theorem setCount_insert {n : Nat} {p q : Fin n → Bool} {f : Fin n} (hf : p f = false) (hq : ∀ g, q g = (p g || f == g)) :
    setCount q = setCount p + 1 := by
  rw [setCount, setCount, length_filter_finRange, length_filter_finRange, ← Finset.card_insert_of_notMem (a := f) (by simp [hf])]
  congr 1
  ext g
  simp only [hq, Finset.mem_insert, Finset.mem_filter, Finset.mem_univ, true_and, Bool.or_eq_true, beq_iff_eq]
  constructor
  · rintro (hg | rfl)
    · exact .inr hg
    · exact .inl rfl
  · rintro (rfl | hg)
    · exact .inr rfl
    · exact .inl hg

@[simp] theorem setFanOut_failed (now : Clocks) (c : Clc) (f : Fin 4) (on : Bool) (g : Fin 4) :
    (c.setFanOut now f on).fans[g].failed = c.fans[g].failed := by
  have hg : (update c.fans f fun x => x.change now { x with runOut := on })[g] = _ := update_get _ _ _ _
  simp only [Clc.setFanOut, hg]
  split <;> rfl

theorem fanToStart_some {c : Clc} {f : Fin 4} (h : c.fanToStart = some f) : c.fans[f].failed = false ∧ c.runs f = false := by
  simpa [Clc.runs] using lowest?_some h

theorem grantFan_clc (s : State) : s.grantFan.clc =
    s.clc.fanToStart.elim s.clc fun f => s.clc.setFanOut s.clock f true := by
  have hstart : (s.setApa { s.apa with fanRequest := false }).clc.fanToStart = s.clc.fanToStart := rfl
  simp only [State.grantFan, hstart]
  cases s.clc.fanToStart <;> rfl

theorem stopFan_clc (s : State) : s.stopFan.clc = s.clc.fanToStop.elim s.clc fun f => s.clc.setFanOut s.clock f false := by
  simp only [State.stopFan]
  cases s.clc.fanToStop <;> rfl

/-- R163: one fan more is granted, and it runs. -/
theorem grantFan_fansFit {s : State} (h : s.fansFit) : s.grantFan.fansFit := by
  obtain ⟨hcount, hfailed⟩ := h
  obtain ⟨hapa, hruns⟩ := grantFan_spec s
  have hmark (g : Fin 4) : s.grantFan.clc.fans[g].failed = s.clc.fans[g].failed := by
    rw [grantFan_clc]
    cases s.clc.fanToStart with
    | none => rfl
    | some f => exact setFanOut_failed _ _ _ _ _
  rw [State.fansFit, hapa]
  cases hstart : s.clc.fanToStart with
  | none =>
    simp only [Option.isSome_none, Bool.false_eq_true, if_false]
    have hsame : s.grantFan.clc.runs = s.clc.runs := funext fun g => by simpa [hstart] using hruns g
    rw [hsame]
    exact ⟨hcount, fun g hg => hfailed g ((hmark g).symm.trans hg)⟩
  | some f =>
    obtain ⟨hgood, hoff⟩ := fanToStart_some hstart
    simp only [Option.isSome_some, if_true]
    refine ⟨by rw [setCount_insert hoff fun g => by simpa [hstart] using hruns g, hcount], fun g hg => ?_⟩
    rw [hmark g] at hg
    rw [hruns g, hfailed g hg, hstart]
    simp only [Bool.false_or, beq_eq_false_iff_ne, ne_eq, Option.some.injEq]
    rintro rfl
    rw [hgood] at hg
    cases hg

/-- R142, R168: one grant fewer, and the highest-numbered running fan off. -/
theorem takeBackFan_fansFit {s : State} (h : s.fansFit) :
    ((s.setApa { s.apa with fansGranted := s.apa.fansGranted - 1 }).stopFan).fansFit := by
  obtain ⟨hcount, hfailed⟩ := h
  let u : State := s.setApa { s.apa with fansGranted := s.apa.fansGranted - 1 }
  have hmark (g : Fin 4) : u.stopFan.clc.fans[g].failed = s.clc.fans[g].failed := by
    rw [stopFan_clc]
    cases u.clc.fanToStop with
    | none => rfl
    | some f => exact setFanOut_failed _ _ _ _ _
  have hruns : u.stopFan.clc.runs = lowestSet s.clc.runs (setCount s.clc.runs - 1) := stopFan_runs u
  refine ⟨?_, fun g hg => ?_⟩
  · rw [hruns, setCount_lowestSet_pred, State.stopFan_apa, hcount]
    rfl
  · rw [hruns, lowestSet, hfailed g ((hmark g).symm.trans hg), Bool.false_and]

theorem Apa.total_fewerFans {a : Apa} {n : Nat} (hn : n ≤ a.fansGranted) : ({ a with fansGranted := n } : Apa).total ≤ a.total := by
  have := Nat.mul_le_mul_left a.figures.fanLoad hn
  simp only [Apa.total]
  omega

theorem Apa.total_ungranted (a : Apa) : ({ a with yawGranted := 0, overrideSent := false } : Apa).total ≤ a.total := by
  simp only [Apa.total]
  omega

theorem Apa.funded.fewerFans {a : Apa} {n : Nat} (h : a.funded) (hn : n ≤ a.fansGranted) :
    ({ a with fansGranted := n } : Apa).funded := by
  obtain ⟨hpump, hbudget, htotal⟩ := h
  exact ⟨hpump, hbudget, (Apa.total_fewerFans hn).trans htotal⟩

@[simp] theorem State.grantFan_ywc (s : State) : s.grantFan.ywc = s.ywc := by
  simp only [State.grantFan]
  split <;> rfl

theorem grantFan_funded {s : State} (h : s.apa.funded) (hfree : (s.apa.figures.fanLoad : Int) ≤ s.apa.free) :
    s.grantFan.apa.funded := by
  obtain ⟨hpump, hbudget, htotal⟩ := h
  have hforce := Apa.inForce_le hbudget
  obtain ⟨hapa, -⟩ := grantFan_spec s
  rw [hapa]
  refine ⟨hpump, hbudget, ?_⟩
  simp only [Apa.free] at hfree
  simp only [Apa.total] at hfree htotal ⊢
  split
  · rw [Nat.mul_succ]
    omega
  · exact htotal

section
variable {s : State}

theorem tryFan_powerFits (h : s.powerFits) : s.tryFan.powerFits := by
  obtain ⟨hfans, hfunded, hshed⟩ := h
  simp only [State.tryFan]
  split
  · next hfan =>
    obtain ⟨-, hfree, -⟩ := hfan
    refine ⟨grantFan_fansFit hfans, grantFan_funded hfunded hfree, ?_⟩
    simpa only [State.shedFits, State.grantFan_ywc, (grantFan_spec s).1] using hshed
  · exact ⟨hfans, hfunded, hshed⟩

/-- R165: a grant taken back leaves what the yaw states go by. -/
theorem takeBackFan_apa : ((s.setApa { s.apa with fansGranted := s.apa.fansGranted - 1 }).stopFan).apa =
    { s.apa with fansGranted := s.apa.fansGranted - 1 } := State.stopFan_apa _

theorem takeBackFan_powerFits (h : s.powerFits) :
    ((s.setApa { s.apa with fansGranted := s.apa.fansGranted - 1 }).stopFan).powerFits := by
  obtain ⟨hfans, hfunded, hshed⟩ := h
  refine ⟨takeBackFan_fansFit hfans, ?_, ?_⟩
  · rw [takeBackFan_apa]
    exact hfunded.fewerFans (Nat.sub_le _ 1)
  · simpa only [State.shedFits, takeBackFan_apa, State.stopFan_ywc, State.setApa_ywc] using hshed

theorem takeBackFans_powerFits (n : Nat) (h : s.powerFits) : (s.takeBackFans n).powerFits := by
  induction n generalizing s with
  | zero => exact h
  | succ n ih =>
    simp only [State.takeBackFans]
    split
    · exact ih (takeBackFan_powerFits h)
    · exact h

theorem shed_powerFits (h : s.powerFits) : s.shed.powerFits := by
  obtain ⟨hfans, hfunded, -⟩ := takeBackFans_powerFits s.apa.fansGranted h
  exact ⟨hfans, hfunded, fun hs => by cases hs⟩

end

/-! ## A grant (R116, R117, R164) -/

section
variable (now : Clocks) (k : Nat) (y : Ywc)

/-- R116: BRAKE_RELEASE with the brake release output on. -/
def Ywc.released : Ywc := Ywc.setBrake now { y with state := .brakeRelease } true y.brakeIn

theorem Ywc.enterBrakeRelease_on (hb : y.brakeIn = true) :
    y.enterBrakeRelease now k = (y.released now).enterMoving now k := if_pos hb

theorem Ywc.enterBrakeRelease_off (hb : y.brakeIn = false) : y.enterBrakeRelease now k = y.released now :=
  if_neg (by rw [Ywc.setBrake, hb]; exact Bool.false_ne_true)

theorem Ywc.enterBrakeRelease_state :
    (y.enterBrakeRelease now k).state = if y.brakeIn then .moving else .brakeRelease := by
  cases hb : y.brakeIn
  · rw [y.enterBrakeRelease_off now k hb]
    rfl
  · rw [y.enterBrakeRelease_on now k hb]
    rfl

theorem Ywc.enterBrakeRelease_enables :
    (y.enterBrakeRelease now k).enables = if y.brakeIn then selectDrives y.usable k else y.enables := by
  cases hb : y.brakeIn
  · rw [y.enterBrakeRelease_off now k hb]
    rfl
  · rw [y.enterBrakeRelease_on now k hb]
    rfl

@[simp] theorem Ywc.enterBrakeRelease_releaseOut : (y.enterBrakeRelease now k).releaseOut = true := by
  simp only [Ywc.enterBrakeRelease]
  split <;> rfl

@[simp] theorem Ywc.enterBrakeRelease_move : (y.enterBrakeRelease now k).move = y.move := by
  simp only [Ywc.enterBrakeRelease]
  split <;> rfl

end

/-- R164: what a grant leaves of the APA. -/
theorem grantYaw_apa (s : State) (k : Nat) :
    (s.grantYaw k).apa = { s.apa with yawGranted := k, yawRequest := none, overrideSent := false } := by
  simp [State.grantYaw]

/-- R115, R116: what a grant leaves of the YWC. -/
theorem grantYaw_ywc (s : State) (k : Nat) :
    (s.grantYaw k).ywc = ({ s.ywc with waitDue := none } : Ywc).enterBrakeRelease s.clock k := by
  simp [State.grantYaw]

@[simp] theorem grantYaw_clc (s : State) (k : Nat) : (s.grantYaw k).clc = s.clc := by simp [State.grantYaw]

theorem grantYaw_yawFits {s : State} {b : Bool} {k : Nat} (h : s.yawFits b) (hr : s.apa.yawRequest.isSome = true)
    (hk : 4 ≤ k ∧ k ≤ 6) : (s.grantYaw k).yawFits b := by
  have hs := h.waiting hr
  have hmove := h.move_of (by rw [hs]; decide)
  have hnone := h.enables_of (by rw [hs]; decide)
  obtain rfl := h.loaded (by rw [hs]; decide)
  have hstate := Ywc.enterBrakeRelease_state s.clock k { s.ywc with waitDue := none }
  have hen := Ywc.enterBrakeRelease_enables s.clock k { s.ywc with waitDue := none }
  rw [← grantYaw_ywc] at hstate hen
  refine State.yawFits.of_granted ?_ ?_ ?_ ?_ ?_ (by rw [grantYaw_apa]; exact hk) (by rw [grantYaw_apa])
  · rw [hstate]
    split <;> simp
  · rw [grantYaw_ywc, Ywc.enterBrakeRelease_releaseOut, ← grantYaw_ywc, hstate]
    split <;> rfl
  · rw [hstate, hen]
    split <;> simp [hnone]
  · rw [hen, grantYaw_apa]
    split
    · exact countSet_selectDrives _ _
    · simp [hnone, countSet_none]
  · rw [grantYaw_ywc, Ywc.enterBrakeRelease_move]
    exact hmove

/-- R164: the offer is within six motors and free power. -/
theorem yawOffer_le (s : State) (h : 4 ≤ s.yawOffer) :
    s.yawOffer ≤ 6 ∧ (s.apa.figures.yawLoad * s.yawOffer : Nat) ≤ s.apa.free := by
  have hsix : s.yawOffer ≤ 6 := Nat.min_le_left _ _
  have hdiv : s.yawOffer ≤ s.apa.free.toNat / s.apa.figures.yawLoad := (Nat.min_le_right _ _).trans (Nat.min_le_right _ _)
  have hmul : s.apa.figures.yawLoad * s.yawOffer ≤ s.apa.free.toNat :=
    (Nat.mul_le_mul_left _ hdiv).trans (Nat.mul_div_le _ _)
  have hpos : 0 < s.apa.free.toNat := by
    refine Nat.pos_of_ne_zero fun hzero => ?_
    rw [hzero, Nat.zero_div] at hdiv
    omega
  exact ⟨hsix, by omega⟩

theorem grantYaw_funded {s : State} {k : Nat} (h : s.apa.funded) (hg : s.apa.yawGranted = 0)
    (hk : (s.apa.figures.yawLoad * k : Nat) ≤ s.apa.free) : (s.grantYaw k).apa.funded := by
  obtain ⟨hpump, hbudget, htotal⟩ := h
  have hforce := Apa.inForce_le hbudget
  rw [grantYaw_apa]
  refine ⟨hpump, hbudget, ?_⟩
  simp only [Apa.free, Apa.total, hg, Nat.mul_zero] at hk
  simp only [Apa.total]
  omega

/-! ## The end of a move (R115, R119, R121) -/

section
variable {s : State} {b : Bool}

/-- R165: with no request waiting, what a release of the yaw grant leaves of the APA. -/
theorem releaseYaw_apa (hr : s.apa.yawRequest = none) :
    s.releaseYaw.apa.yawGranted = 0 ∧ s.releaseYaw.apa.yawRequest = none := by
  simp only [State.releaseYaw]
  split <;> rw [tryRequests_of_none (by simpa using hr)] <;> simp [hr]

/-- R160: less is granted. -/
theorem releaseYaw_powerFits (hr : s.apa.yawRequest = none) (h : s.powerFits) : s.releaseYaw.powerFits := by
  obtain ⟨hfans, ⟨hpump, hbudget, htotal⟩, hshed⟩ := h
  have hless : (s.setApa { s.apa with yawGranted := 0, overrideSent := false }).powerFits :=
    ⟨hfans, ⟨hpump, hbudget, (Apa.total_ungranted _).trans htotal⟩, hshed⟩
  simp only [State.releaseYaw]
  split
  · rw [tryRequests_of_none (by simpa using hr)]
    exact tryFan_powerFits (shed_powerFits hless)
  · rw [tryRequests_of_none (by simpa using hr)]
    exact tryFan_powerFits hless

@[simp] theorem yawToIdle_clc (s : State) : s.yawToIdle.clc = s.clc := by
  simp only [State.yawToIdle]
  split <;> simp

/-- R121: the return to IDLE, with nothing granted, requested or put out. -/
theorem yawToIdle_yawFits (hout : s.ywc.releaseOut = false) (hen : s.ywc.enables = Vector.replicate 6 false)
    (hgrant : s.apa.yawGranted = 0) (hreq : s.apa.yawRequest = none) : s.yawToIdle.yawFits false := by
  obtain ⟨retry, hywc⟩ := yawToIdle_ywc s
  refine State.yawFits.of_idle ?_ ?_ ?_ ?_ ?_ ?_ fun hb => by cases hb
  · rw [hywc]
  · rw [hywc]
    exact hout
  · rw [hywc]
    exact hen
  · rw [hywc]
  · rw [State.yawToIdle_apa]
    exact hgrant
  · rw [State.yawToIdle_apa]
    exact hreq

theorem yawToIdle_powerFits (hs : s.apa.shedPending = false) (h : s.powerFits) : s.yawToIdle.powerFits := by
  obtain ⟨hfans, hfunded, -⟩ := h
  refine ⟨?_, by rwa [State.yawToIdle_apa], fun hp => ?_⟩
  · simpa only [State.fansFit, yawToIdle_clc, State.yawToIdle_apa] using hfans
  · rw [State.yawToIdle_apa, hs] at hp
    cases hp

/-- R121: the end of a move that has been stopped. -/
theorem endMove_fits (hs : s.ywc.state = .brakeApply) (h : s.yawFits b) :
    s.endMove.yawFits b ∧ (s.powerFits → s.endMove.powerFits) := by
  obtain ⟨-, hreq, -⟩ := h.granted (.inr (.inr hs))
  obtain ⟨hgrant, hreq'⟩ := releaseYaw_apa hreq
  have hywc := releaseYaw_ywc hreq
  obtain rfl := h.loaded (by rw [hs]; decide)
  refine ⟨yawToIdle_yawFits ?_ ?_ hgrant hreq', fun hp => ?_⟩
  · rw [hywc]
    exact h.releaseOut_of (.inr (.inr hs))
  · rw [hywc]
    exact h.enables_of (by rw [hs]; decide)
  · exact yawToIdle_powerFits (State.releaseYaw_shedPending s) (releaseYaw_powerFits hreq hp)

/-- R121: BRAKE_APPLY while the brake is not yet applied. -/
theorem braked_fits (hs : s.ywc.state = .brakeRelease ∨ s.ywc.state = .moving) (h : s.yawFits b) :
    s.braked.yawFits b ∧ (s.fansFit → s.apa.funded → s.braked.powerFits) := by
  have hgranted : s.ywc.state = .brakeRelease ∨ s.ywc.state = .moving ∨ s.ywc.state = .brakeApply :=
    hs.elim .inl fun hm => .inr (.inl hm)
  obtain ⟨hgrant, hreq, hmove⟩ := h.granted hgranted
  obtain rfl := h.loaded (by rcases hs with hs | hs <;> rw [hs] <;> decide)
  refine ⟨State.yawFits.of_granted (.inr (.inr rfl)) rfl (fun _ => rfl) ?_ hmove hgrant hreq, fun hfans hfunded => ?_⟩
  · exact (countSet_none).le.trans (Nat.zero_le _)
  · exact ⟨hfans, hfunded, fun _ => rfl⟩

/-- R119, R167: a stop settles the shedding too, for which it may have been made. -/
theorem enterBrakeApply_fits (hs : s.ywc.state = .brakeRelease ∨ s.ywc.state = .moving) (h : s.yawFits b) :
    s.enterBrakeApply.yawFits b ∧ (s.fansFit → s.apa.funded → s.enterBrakeApply.powerFits) := by
  obtain ⟨hyaw, hpower⟩ := braked_fits hs h
  rw [enterBrakeApply_eq]
  split
  · exact ⟨hyaw, hpower⟩
  · obtain ⟨hyaw', hpower'⟩ := endMove_fits rfl hyaw
    exact ⟨hyaw', fun hfans hfunded => hpower' (hpower hfans hfunded)⟩

/-- R115: a request withdrawn. -/
theorem withdrawYaw_fits (hs : s.ywc.state = .requestPower) (h : s.yawFits b) :
    s.withdrawYaw.yawFits b ∧ (s.powerFits → s.withdrawYaw.powerFits) := by
  let u : State := s.setApa { s.apa with yawRequest := none }
  have hw : s.withdrawYaw = (u.tryFan.quietGone .yawWaitPower).yawToIdle := by
    rw [State.withdrawYaw, tryRequests_of_none rfl]
  obtain rfl := h.loaded (by rw [hs]; decide)
  rw [hw]
  refine ⟨yawToIdle_yawFits ?_ ?_ ?_ ?_, fun ⟨hfans, hfunded, hshed⟩ => ?_⟩
  · rw [State.quietGone_ywc, State.tryFan_ywc]
    exact h.releaseOut_of (.inr (.inl hs))
  · rw [State.quietGone_ywc, State.tryFan_ywc]
    exact h.enables_of (by rw [hs]; decide)
  · rw [State.quietGone_apa, tryFan_yawGranted]
    exact h.ungranted (.inr hs)
  · rw [State.quietGone_apa, State.tryFan_yawRequest]
    rfl
  · have hnone : s.apa.shedPending = false := by
      refine Bool.eq_false_iff.mpr fun hp => ?_
      have happly := hshed hp
      rw [hs] at happly
      cases happly
    have hu : u.tryFan.powerFits := tryFan_powerFits ⟨hfans, hfunded, hshed⟩
    refine yawToIdle_powerFits (by rw [State.quietGone_apa, State.tryFan_shedPending]; exact hnone) ?_
    rw [quietGone_eq]
    exact hu

end

/-! ## The two kept -/

/-- From `r` to `s` the table of the yaw states and the budget are kept. -/
def FitsKept (r s : State) : Prop :=
  (∀ b, r.yawFits b → s.yawFits b) ∧ ∀ b, r.yawFits b → r.powerFits → s.powerFits

namespace FitsKept
variable {r s t : State}

theorem refl (s : State) : FitsKept s s := ⟨fun _ => id, fun _ _ => id⟩

theorem trans (h : FitsKept r s) (g : FitsKept s t) : FitsKept r t := by
  obtain ⟨hyaw, hpower⟩ := h
  obtain ⟨gyaw, gpower⟩ := g
  exact ⟨fun b => gyaw b ∘ hyaw b, fun b hr hp => gpower b (hyaw b hr) (hpower b hr hp)⟩

/-- What a move keeps of a station that fits. -/
theorem move (h : FitsKept r s) (hm : ∀ b, s.yawFits b → t.yawFits b ∧ (s.powerFits → t.powerFits)) : FitsKept r t :=
  h.trans ⟨fun b hb => (hm b hb).1, fun b hb => (hm b hb).2⟩

theorem ite {c : Prop} [Decidable c] (h : FitsKept r s) (g : FitsKept r t) : FitsKept r (if c then s else t) := by
  split
  · exact h
  · exact g

/-! ## Fans -/

theorem tryFan (h : FitsKept r s) : FitsKept r s.tryFan := by
  refine h.move fun b hy => ⟨?_, tryFan_powerFits⟩
  simpa only [State.yawFits, State.tryFan_ywc, tryFan_yawGranted, State.tryFan_yawRequest] using hy

theorem takeBackFan (h : FitsKept r s) :
    FitsKept r ((s.setApa { s.apa with fansGranted := s.apa.fansGranted - 1 }).stopFan) := by
  refine h.move fun b hy => ⟨?_, takeBackFan_powerFits⟩
  simpa only [State.yawFits, takeBackFan_apa, State.stopFan_ywc, State.setApa_ywc] using hy

theorem shed (h : FitsKept r s) : FitsKept r s.shed := by
  refine h.move fun b hy => ⟨?_, shed_powerFits⟩
  simpa only [State.yawFits, State.shed_ywc, State.shed_yawGranted, State.shed_yawRequest] using hy

/-! ## The requests (R162 to R164) -/

theorem tryYaw (h : FitsKept r s) : FitsKept r s.tryYaw := by
  simp only [State.tryYaw]
  split
  · next hoffer =>
    obtain ⟨hr, hfour⟩ := hoffer
    obtain ⟨hsix, hfree⟩ := yawOffer_le s hfour
    refine h.move fun b hy => ⟨grantYaw_yawFits hy hr ⟨hfour, hsix⟩, fun ⟨hfans, hfunded, hshed⟩ => ?_⟩
    have hs := hy.waiting hr
    refine ⟨?_, grantYaw_funded hfunded (hy.ungranted (.inr hs)) hfree, fun hp => ?_⟩
    · simpa only [State.fansFit, grantYaw_apa, grantYaw_clc] using hfans
    · rw [grantYaw_apa] at hp
      have happly := hshed hp
      rw [hs] at happly
      cases happly
  · exact h

theorem tryRequests (h : FitsKept r s) : FitsKept r s.tryRequests := .ite h.tryYaw.tryFan h.tryFan.tryYaw

/-! ## The stops (R119, R166) -/

theorem endMove (h : FitsKept r s) (hs : s.ywc.state = .brakeApply) : FitsKept r s.endMove :=
  h.move fun _ hy => endMove_fits hs hy

theorem enterBrakeApply (h : FitsKept r s) (hs : s.ywc.state = .brakeRelease ∨ s.ywc.state = .moving) :
    FitsKept r s.enterBrakeApply := by
  refine h.move fun b hy => ?_
  obtain ⟨hyaw, hpower⟩ := enterBrakeApply_fits hs hy
  exact ⟨hyaw, fun ⟨hfans, hfunded, _⟩ => hpower hfans hfunded⟩

theorem yawStopCause (h : FitsKept r s) (b : Bool) : FitsKept r (s.yawStopCause b) := by
  simp only [State.yawStopCause]
  split
  case h_1 hs => exact .ite (h.move fun _ hy => withdrawYaw_fits hs hy) h
  case h_2 hs => exact h.enterBrakeApply (.inl hs)
  case h_3 hs => exact h.enterBrakeApply (.inr hs)
  all_goals exact h

theorem examine (h : FitsKept r s) : FitsKept r s.examine := by
  refine .ite (FitsKept.yawStopCause ?_ false) h.tryRequests
  exact h.tryRequests

theorem releaseFans (h : FitsKept r s) (n : Nat) : FitsKept r (s.releaseFans n) := by
  induction n generalizing s with
  | zero => exact h
  | succ n ih => exact ih h.takeBackFan.examine

end FitsKept

end Sys2Proof.Machine
end

section
/-! SUPPORT. The moves of the arbiter, the reports, the converter port and ride-through keep the yaw states and the budget
sound (R97 to R100, R115 to R121, R165 to R169, R181). -/

namespace Sys2Proof.Machine

/-- From `r` to `s` the two are kept: the table of the yaw states, and with it the budget. -/
def GridKept (r s : State) : Prop := (r.yawSound → s.yawSound) ∧ (r.yawSound → r.powerSound → s.powerSound)

namespace GridKept
variable {r s t : State}

theorem refl (s : State) : GridKept s s := ⟨id, fun _ => id⟩

theorem trans (h : GridKept r s) (g : GridKept s t) : GridKept r t := by
  obtain ⟨hyaw, hpower⟩ := h
  obtain ⟨gyaw, gpower⟩ := g
  exact ⟨gyaw ∘ hyaw, fun hr hp => gpower (hyaw hr) (hpower hr hp)⟩

theorem ite {c : Prop} [Decidable c] (h : GridKept r s) (g : GridKept r t) : GridKept r (if c then s else t) := by
  split
  · exact h
  · exact g

/-- A timer that has run out. -/
theorem atDue {act : State → State} (h : GridKept r s) (due : Option Clocks)
    (ha : ∀ t, due = some t → GridKept r (s.runTo t) → GridKept r (act (s.runTo t))) : GridKept r (s.atDue due act) := by
  cases due with
  | none => exact h
  | some t => exact ha t rfl h

/-- What the arbiter keeps, with the image loaded or not as before and the budget in force at most raised. -/
theorem fits (h : GridKept r s) (hf : FitsKept s t) (hu : t.osc.state.isUnloaded = s.osc.state.isUnloaded)
    (hride : s.apa.rideThrough = false → t.apa.rideThrough = false) : GridKept r t := by
  obtain ⟨hyaw, hpower⟩ := hf
  refine h.trans ⟨fun hs => ?_, fun hs hp => ?_⟩
  · rw [yawSound_iff, hu]
    exact hyaw _ hs
  · obtain ⟨hfits, hunder⟩ := (powerSound_iff s).mp hp
    exact (powerSound_iff t).mpr ⟨hpower _ hs hfits, fun ht => hride (hunder (hu.symm.trans ht))⟩

/-- A move of the arbiter. -/
theorem arbiter (h : GridKept r s) (hf : FitsKept s t) (hout : t.outlook = s.outlook) : GridKept r t := by
  have hosc : t.osc = s.osc := congrArg Outlook.osc hout
  have hride : t.apa.rideThrough = s.apa.rideThrough := congrArg Outlook.rideThrough hout
  exact h.fits hf (by rw [hosc]) (by rw [hride]; exact id)

/-- A move that leaves the three blocks, and the image loaded or not as before. -/
theorem frame (h : GridKept r s) (hywc : t.ywc = s.ywc) (hclc : t.clc = s.clc) (hapa : t.apa = s.apa)
    (hfoot : t.footing = s.footing) : GridKept r t := by
  have hu : t.osc.state.isUnloaded = s.osc.state.isUnloaded := congrArg Footing.unloaded hfoot
  refine h.fits ⟨fun b hb => ?_, fun b _ hp => ?_⟩ hu (by rw [hapa]; exact id)
  · simpa only [State.yawFits, hywc, hapa] using hb
  · simpa only [State.powerFits, State.fansFit, State.shedFits, hywc, hclc, hapa] using hp

/-! ## The arbiter and the yaw states -/

theorem yawStopCause (h : GridKept r s) (b : Bool) : GridKept r (s.yawStopCause b) :=
  h.arbiter ((FitsKept.refl s).yawStopCause b) (s.yawStopCause_outlook b)
theorem examine (h : GridKept r s) : GridKept r s.examine := h.arbiter (FitsKept.refl s).examine s.examine_outlook
theorem shed (h : GridKept r s) : GridKept r s.shed := h.arbiter (FitsKept.refl s).shed s.shed_outlook
theorem releaseFans (h : GridKept r s) (n : Nat) : GridKept r (s.releaseFans n) :=
  h.arbiter ((FitsKept.refl s).releaseFans n) (s.releaseFans_outlook n)
theorem enterBrakeApply (h : GridKept r s) (hs : s.ywc.state = .brakeRelease ∨ s.ywc.state = .moving) :
    GridKept r s.enterBrakeApply := h.arbiter ((FitsKept.refl s).enterBrakeApply hs) s.enterBrakeApply_outlook
theorem endMove (h : GridKept r s) (hs : s.ywc.state = .brakeApply) : GridKept r s.endMove :=
  h.arbiter ((FitsKept.refl s).endMove hs) s.endMove_outlook

/-! ## The OSC, which is neither (R181, R201, R205, R207) -/

theorem testStart (h : GridKept r s) : GridKept r s.testStart :=
  h.frame s.testStart_ywc s.testStart_clc s.testStart_apa s.testStart_footing
theorem oscTripHolds (h : GridKept r s) : GridKept r s.oscTripHolds :=
  h.frame s.oscTripHolds_ywc s.oscTripHolds_clc s.oscTripHolds_apa s.oscTripHolds_footing
theorem oscTripCeases (h : GridKept r s) : GridKept r s.oscTripCeases :=
  h.frame s.oscTripCeases_ywc s.oscTripCeases_clc s.oscTripCeases_apa s.oscTripCeases_footing
theorem oscSafeStopHolds (h : GridKept r s) : GridKept r s.oscSafeStopHolds :=
  h.frame s.oscSafeStopHolds_ywc s.oscSafeStopHolds_clc s.oscSafeStopHolds_apa s.oscSafeStopHolds_footing

/-- The OSC alone moves, within the states before a load or within those after. -/
theorem setOsc (h : GridKept r s) {o : Osc} (ho : o.state.isUnloaded = s.osc.state.isUnloaded) :
    GridKept r (s.setOsc o) := h.fits (FitsKept.refl s) ho id

/-! ## Reports (R181) -/

theorem tell (h : GridKept r s) (before : Reaction) : GridKept r (s.tell before) := by
  have hyaw : GridKept r (if yawStopArises before s.flm.reaction s.ywc.move then s.yawStopCause true else s) :=
    .ite (h.yawStopCause true) h
  have htrip := GridKept.ite (c := s.flm.reaction.trip && !before.trip) hyaw.oscTripHolds hyaw
  have hsafe := GridKept.ite (c := s.flm.reaction.safeStop && !before.safeStop) htrip.oscSafeStopHolds htrip
  exact .ite (c := before.trip && !s.flm.reaction.trip) hsafe.oscTripCeases hsafe

theorem report (h : GridKept r s) (x : Report) : GridKept r (s.report x) := GridKept.tell (s := s.quiet x) h _

theorem reportGone (h : GridKept r s) (c : FaultCode) : GridKept r (s.reportGone c) := .ite (h.report _) h

theorem reportBitmap (h : GridKept r s) (c : FaultCode) (a b : Nat) : GridKept r (s.reportBitmap c a b) :=
  .ite h (.ite (h.report _) (h.report _))

theorem watchFlow {act : State → State} (h : GridKept r (act s)) : GridKept r (s.watchFlow act) := .ite h h.testStart

/-! ## The control period and the converter port -/

theorem controlPeriod (h : GridKept r s) : GridKept r s.controlPeriod := h.atDue _ fun _ _ ht => ht

theorem pauseTimer (h : GridKept r s) : GridKept r s.pauseTimer := by
  refine h.atDue _ fun t _ ht => ?_
  split
  case h_1 => exact GridKept.report (by exact ht) _
  all_goals exact ht

end GridKept

/-! ## Ride-through (R97 to R100, R167 to R169) -/

/-- R167: a move that holds a grant is stopped first, the shedding then owed while the brake goes on. -/
theorem apaEnterRideThrough_fits {s : State} {b : Bool} (h : s.yawFits b) :
    s.apaEnterRideThrough.yawFits b ∧ (s.powerFits → s.apaEnterRideThrough.powerFits) := by
  let u : State := s.setApa { s.apa with rideThrough := true }
  let v : State := u.setApa { u.apa with shedPending := true }
  have hv : v.yawFits b := h
  by_cases hg : 0 < s.apa.yawGranted
  · have heq : s.apaEnterRideThrough = v.yawStopCause false := if_pos hg
    rw [heq]
    refine ⟨((FitsKept.refl v).yawStopCause false).1 b hv, fun ⟨hfans, hfunded, _⟩ => ?_⟩
    simp only [State.yawStopCause]
    split
    case h_1 hs => exact absurd (h.ungranted (.inr hs)) hg.ne'
    case h_2 hs => exact (enterBrakeApply_fits (.inl hs) hv).2 hfans hfunded
    case h_3 hs => exact (enterBrakeApply_fits (.inr hs) hv).2 hfans hfunded
    case h_4 hs => exact absurd (h.ungranted (.inl hs)) hg.ne'
    case h_5 hs => exact ⟨hfans, hfunded, fun _ => hs⟩
  · have heq : s.apaEnterRideThrough = u.shed := if_neg hg
    rw [heq]
    exact ⟨(FitsKept.refl u).shed.1 b h, shed_powerFits (s := u)⟩

/-- R169: shedding is owed no more. -/
theorem apaLeaveRideThrough_fitsKept (s : State) : FitsKept s s.apaLeaveRideThrough := by
  have hleft : FitsKept s (s.setApa { s.apa with rideThrough := false, shedPending := false }) :=
    ⟨fun _ => id, fun _ _ ⟨hfans, hfunded, _⟩ => ⟨hfans, hfunded, fun k => by cases k⟩⟩
  exact hleft.examine

namespace GridKept
variable {r s t : State}

/-- R97: an entry from PRODUCING. -/
theorem enterRideThrough (h : GridKept r s) (v : Nat) (hs : s.osc.state = .producing) : GridKept r (s.enterRideThrough v) := by
  let c : Cvp := { s.cvp with
    rideThrough := true, entryTime := s.clock, lowest := v, curveDue := some (s.clock + allowedTime v), recoveryDue := none }
  let u : State := ((s.setCvp c).setOsc { s.osc with state := .rideThrough }).setScu
    { s.scu with hold := true, dHold := s.scu.announced }
  have hu : s.enterRideThrough v = u.apaEnterRideThrough.report (.present .rideThroughEvent v) := rfl
  have hosc : u.apaEnterRideThrough.osc = u.osc := congrArg Outlook.osc u.apaEnterRideThrough_outlook
  have hloaded : s.osc.state.isUnloaded = false := by rw [hs]; rfl
  rw [hu]
  refine GridKept.report (h.trans ⟨fun hy => ?_, fun hy hp => ?_⟩) _
  · rw [yawSound_iff, hosc]
    rw [yawSound_iff, hloaded] at hy
    exact (apaEnterRideThrough_fits (s := u) hy).1
  · obtain ⟨hfits, -⟩ := (powerSound_iff s).mp hp
    refine (powerSound_iff _).mpr ⟨(apaEnterRideThrough_fits (s := u) hy).2 hfits, fun k => ?_⟩
    rw [hosc] at k
    cases k

theorem oscLeaveRideThrough (h : GridKept r s) (trip : Bool) : GridKept r (s.oscLeaveRideThrough trip) := by
  have hfoot := s.oscLeaveRideThrough_footing trip
  simp only [State.oscLeaveRideThrough] at hfoot ⊢
  split
  case h_1 hs =>
    simp only [hs] at hfoot
    split
    · next ht =>
      rw [if_pos ht] at hfoot
      exact h.frame s.enterTripped_ywc s.enterTripped_clc s.enterTripped_apa hfoot
    · next ht =>
      rw [if_neg ht] at hfoot
      exact h.frame rfl rfl rfl hfoot
  all_goals exact h

theorem leaveRideThrough (h : GridKept r s) (trip : Bool) : GridKept r (s.leaveRideThrough trip) := by
  let u : State := (s.setCvp { s.cvp with rideThrough := false, recoveryDue := none, curveDue := none }).setScu
    { s.scu with hold := false }
  have hout := u.apaLeaveRideThrough_outlook
  have hosc : u.apaLeaveRideThrough.osc = u.osc := congrArg Outlook.osc hout
  have hride : u.apaLeaveRideThrough.apa.rideThrough = false := congrArg Outlook.rideThrough hout
  have hapa : GridKept r u.apaLeaveRideThrough :=
    GridKept.fits (s := u) h (apaLeaveRideThrough_fitsKept u) (by rw [hosc]) fun _ => hride
  exact (hapa.oscLeaveRideThrough trip).report _

theorem curveReached (h : GridKept r s) : GridKept r s.curveReached := (h.report _).leaveRideThrough true

theorem arrivalInRideThrough (h : GridKept r s) (v : Nat) : GridKept r (s.arrivalInRideThrough v) := by
  have hlow : GridKept r (s.setCvp (s.cvp.lower v)) := h
  exact .ite (.ite hlow.curveReached (by exact h)) h

theorem judgeOvervoltage (h : GridKept r s) (v : Nat) : GridKept r (s.judgeOvervoltage v) := by
  simp only [State.judgeOvervoltage]
  split
  · split <;> exact h
  · exact GridKept.reportGone (by exact h) _

theorem judgeVoltage (h : GridKept r s) : GridKept r s.judgeVoltage := by
  have hgone := GridKept.ite (c := 900 ≤ s.cvp.voltage) (h.reportGone .gridUndervoltageTrip) h
  simp only [State.judgeVoltage]
  generalize (if 900 ≤ s.cvp.voltage then s.reportGone .gridUndervoltageTrip else s) = u at hgone ⊢
  refine GridKept.judgeOvervoltage ?_ _
  split
  · exact hgone.arrivalInRideThrough _
  · split
    · next hdip => exact hgone.enterRideThrough _ hdip.2
    · exact hgone

/-! ## The arrival (R94, R201, R203) -/

/-- R199, R203: the entry to STANDBY from a state after a load. -/
theorem enterStandby (h : GridKept r s) (hu : s.osc.state.isUnloaded = false) : GridKept r s.enterStandby :=
  h.frame s.enterStandby_ywc s.enterStandby_clc s.enterStandby_apa (s.enterStandby_footing hu)

theorem endStopping_ywc (s : State) : s.endStopping.ywc = s.ywc := by simp [State.endStopping]
theorem endStopping_clc (s : State) : s.endStopping.clc = s.clc := by simp [State.endStopping]
theorem endStopping_apa (s : State) : s.endStopping.apa = s.apa := by simp [State.endStopping]

theorem endStopping (h : GridKept r s) (hu : s.osc.state.isUnloaded = false) : GridKept r s.endStopping :=
  h.frame (endStopping_ywc s) (endStopping_clc s) (endStopping_apa s) (s.endStopping_footing hu)

theorem oscArrival (h : GridKept r s) : GridKept r s.oscArrival := by
  have hseen : GridKept r (s.setOsc { s.osc with arrivalSeen := true }) := h
  simp only [State.oscArrival]
  split
  case h_1 => exact hseen.testStart
  case h_2 hs => exact .ite (hseen.setOsc (by rw [hs]; rfl)) hseen
  case h_3 hs => exact .ite (hseen.endStopping (by rw [hs]; rfl)) hseen
  all_goals exact hseen

theorem arrival (h : GridKept r s) (bytes : List Byte) : GridKept r (s.arrival bytes) := by
  refine GridKept.oscArrival (GridKept.judgeVoltage ?_)
  have hgone : GridKept r (State.reportGone
      (s.setCvp { s.cvp with measurement := readMeasurement bytes, silenceDue := some (s.after (ms 60)) })
      .converterPortSilent) := GridKept.reportGone (by exact h) _
  exact .ite (hgone.reportGone _) (hgone.report _)

theorem portByte (h : GridKept r s) (b : Byte) : GridKept r (s.portByte b) := by
  simp only [State.portByte]
  split
  case h_1 => exact h
  case h_2 => exact .ite h h
  case h_3 => exact .ite h (GridKept.arrival (by exact h) _)
  all_goals exact h

theorem edge (h : GridKept r s) (bit : Bool) : GridKept r (s.edge bit) := by
  have hbit : GridKept r (s.setCvp (s.cvp.takeBit bit)) := h
  exact .ite (.ite hbit (hbit.portByte _)) h

theorem namedEdge (h : GridKept r s) (e : PortEdge) (bit : Bool) : GridKept r (s.namedEdge e bit) := .ite (h.edge bit) h

/-! ## Timers of the port -/

theorem strobeTimer (h : GridKept r s) : GridKept r s.strobeTimer := h.atDue _ fun _ _ ht => ht

theorem silenceTimer (h : GridKept r s) : GridKept r s.silenceTimer :=
  h.atDue _ fun _ _ ht => GridKept.report (by exact ht) _

theorem curveDeadline (h : GridKept r s) : GridKept r s.curveDeadline := h.atDue _ fun _ _ ht => ht.curveReached

theorem recoveryTimer (h : GridKept r s) : GridKept r s.recoveryTimer := h.atDue _ fun _ _ ht => ht.leaveRideThrough false

theorem overvoltageTimer (h : GridKept r s) : GridKept r s.overvoltageTimer :=
  h.atDue _ fun _ _ ht => GridKept.report (by exact ht) _

end GridKept

end Sys2Proof.Machine
end

section
/-! SUPPORT. What the yaw controller's own moves come to: the usable drives watched, power requested, and the misalignment
count of an evaluation (R110, R115, R119, R124). -/

namespace Sys2Proof.Machine

/-! ## The usable drives (R119, R124) -/

/-- R119: the fault manager once the count of usable drives has gone from `before` to `after`. -/
def Flm.drivesJudged (f : Flm) (now : Stamp) (before after : Nat) : Flm :=
  if 4 ≤ before ∧ after < 4 then f.take now (.present .yawDrivesInsufficient after)
  else if before < 4 ∧ 4 ≤ after then f.take now (.gone .yawDrivesInsufficient)
  else f

/-- R119, R124: ready inputs or marks have changed, and the two reports are made. -/
def State.drivesChanged (s : State) (act : Ywc → Ywc) : State :=
  (s.setYwc (act s.ywc)).setFlm
    ((s.flm.bitmapMoved s.clock .driveFeedback s.ywc.markedBitmap (act s.ywc).markedBitmap).drivesJudged s.stamp
      s.ywc.usableCount (act s.ywc).usableCount)

theorem reportDrives_eq (s : State) (a b : Nat) : s.reportDrives a b = s.setFlm (s.flm.drivesJudged s.stamp a b) := by
  simp only [State.reportDrives, State.report_mild _ (.present .yawDrivesInsufficient b) rfl,
    State.report_mild _ (.gone .yawDrivesInsufficient) rfl, Flm.drivesJudged]
  split
  · rfl
  · split <;> rfl

/-- R117, R119, R162: the two reports are the fault manager's, the stop or the selection and the examination follow. -/
theorem watchDrives_eq (s : State) (act : Ywc → Ywc) :
    s.watchDrives act =
      (let v := (s.drivesChanged act).reselect s.ywc.usableCount (act s.ywc).usableCount
       if s.ywc.usableCount ≠ (act s.ywc).usableCount ∧ v.apa.yawRequest.isSome then v.examine else v) := by
  simp only [State.watchDrives, reportBitmap_mild _ .driveFeedback _ _ rfl, reportDrives_eq]
  rfl

/-- R119: in the states without a stop cause and without a selection the count is only watched. -/
theorem reselect_idle {s : State} (hs : s.ywc.state = .idle ∨ s.ywc.state = .requestPower ∨ s.ywc.state = .brakeApply)
    (a b : Nat) : s.reselect a b = s := by
  rcases hs with hs | hs | hs <;> simp [State.reselect, hs]

/-- R124: the change alone, where neither a drive is stopped or selected nor a request examined. -/
theorem watchDrives_unrequested {s : State} {act : Ywc → Ywc} (hact : (act s.ywc).state = s.ywc.state)
    (hs : s.ywc.state = .idle ∨ s.ywc.state = .requestPower ∨ s.ywc.state = .brakeApply) (hr : s.apa.yawRequest = none) :
    s.watchDrives act = s.drivesChanged act := by
  have hstill : (s.drivesChanged act).reselect s.ywc.usableCount (act s.ywc).usableCount = s.drivesChanged act :=
    reselect_idle (by simpa [State.drivesChanged, hact] using hs) _ _
  have hnone : (s.drivesChanged act).apa.yawRequest = none := hr
  simp [watchDrives_eq, hstill, hnone]

/-! ## Requesting power (R115, R124) -/

/-- R115: REQUEST_POWER with the move, the marks reviewed and the request placed. -/
def State.requested (s : State) (m : Move) : State :=
  let u := (s.setYwc { s.ywc with
    state := .requestPower, move := some m, waitDue := some (s.after (ms 60000)) }).drivesChanged Ywc.reviewMarks
  u.setApa { u.apa with yawRequest := some m.urgent }

theorem enterRequestPower_eq {s : State} (hr : s.apa.yawRequest = none) (m : Move) :
    s.enterRequestPower m = (s.requested m).examine := by
  let u : State := s.setYwc { s.ywc with state := .requestPower, move := some m, waitDue := some (s.after (ms 60000)) }
  have hwatch : u.watchDrives Ywc.reviewMarks = u.drivesChanged Ywc.reviewMarks :=
    watchDrives_unrequested rfl (.inr (.inl rfl)) hr
  exact congrArg (fun w : State => (w.setApa { w.apa with yawRequest := some m.urgent }).examine) hwatch

/-! ## The misalignment count (R110) -/

/-- R110: the count saturates at 60, and MISALIGNMENT is the fault manager's alone. -/
theorem countMisalignment_eq (s : State) :
    s.countMisalignment = (s.setYwc { s.ywc with
      misalignCount := if 300 < s.ywc.filteredError.natAbs then min 60 (s.ywc.misalignCount + 1) else 0 }).setFlm
        (s.misalignedFlm s.clock s.ywc.filteredError) := by
  simp only [State.countMisalignment, State.misalignedFlm, State.report_mild _ (.present .misalignment _) rfl,
    State.reportGone_mild _ .misalignment rfl]
  split
  · split <;> rfl
  · rw [quietGone_eq, Flm.goneIf]
    rfl

/-! ## An evaluation before it decides (R107 to R110) -/

/-- R107, R108: a sample moves the window and what the gross check goes by. -/
theorem Ywc.takeSample_eq (y : Ywc) : ∃ w g b u,
    y.takeSample = { y with window := w, grossCount := g, bypass := b, urgent := u } := by
  simp only [Ywc.takeSample, Ywc.grossCheck]
  split
  · split
    · exact ⟨_, _, _, _, rfl⟩
    · split <;> exact ⟨_, _, _, _, rfl⟩
  · exact ⟨_, _, _, _, rfl⟩

/-- R107, R110: the YWC with the sample, W_f and the misalignment count of an evaluation. -/
def Ywc.evaluated (y : Ywc) : Ywc :=
  { y.takeSample with
    windDirection := y.takeSample.filteredWind
    misalignCount := if 300 < y.takeSample.filteredError.natAbs then min 60 (y.misalignCount + 1) else 0 }

theorem Ywc.evaluated_eq (y : Ywc) : y.evaluated = { y with
    window := y.evaluated.window, grossCount := y.evaluated.grossCount, bypass := y.evaluated.bypass
    urgent := y.evaluated.urgent, windDirection := y.evaluated.windDirection
    misalignCount := y.evaluated.misalignCount } := by
  obtain ⟨w, g, b, u, hy⟩ := y.takeSample_eq
  simp only [Ywc.evaluated, hy]

/-- R107 to R110: the state at the moment of decision. -/
def State.evaluated (s : State) : State :=
  (s.setYwc s.ywc.evaluated).setFlm (s.misalignedFlm s.clock s.ywc.takeSample.filteredError)

theorem State.evaluated_state (s : State) : s.evaluated.ywc.state = s.ywc.state := by
  simp only [State.evaluated, State.setFlm_ywc, State.setYwc_ywc]
  rw [Ywc.evaluated_eq]

theorem State.counted_eq (s : State) : State.countMisalignment ((s.setYwc s.ywc.takeSample).setYwc
    { s.ywc.takeSample with windDirection := s.ywc.takeSample.filteredWind }) = s.evaluated := by
  obtain ⟨w, g, b, u, hy⟩ := s.ywc.takeSample_eq
  simp only [countMisalignment_eq, State.evaluated, Ywc.evaluated, hy]
  rfl

section
variable {s : State}

/-! R107, steps 6 and 7, R120: what an evaluation goes on with. -/

theorem evaluateYaw_idle (hs : s.ywc.state = .idle) : s.evaluateYaw = s.evaluated.decideMove := by
  simp only [State.evaluateYaw, State.setYwc_ywc, State.counted_eq, State.evaluated_state, hs]

theorem evaluateYaw_moving (hs : s.ywc.state = .moving) : s.evaluateYaw = s.evaluated.stallCheck := by
  simp only [State.evaluateYaw, State.setYwc_ywc, State.counted_eq, State.evaluated_state, hs]

theorem evaluateYaw_still (hs : s.ywc.state = .requestPower ∨ s.ywc.state = .brakeRelease ∨ s.ywc.state = .brakeApply) :
    s.evaluateYaw = s.evaluated := by
  rcases hs with hs | hs | hs <;>
    simp only [State.evaluateYaw, State.setYwc_ywc, State.counted_eq, State.evaluated_state, hs]

end

end Sys2Proof.Machine
end
section
/-! SUPPORT. The link, the peer table and the yaw controller keep the yaw states and the budget sound (R107 to R131). -/

namespace Sys2Proof.Machine

namespace GridKept
variable {r s t : State}

/-! ## The line and own frames -/

theorem duplicateDetected (h : GridKept r s) (v : Int) : GridKept r (s.duplicateDetected v) :=
  GridKept.report (by exact h) _

theorem idleGap (h : GridKept r s) : GridKept r s.idleGap := by
  simp only [State.idleGap]
  split <;> exact h

theorem boundary (h : GridKept r s) : GridKept r s.boundary := by
  simp only [State.boundary]
  split <;> exact h

theorem arbitrationStart (h : GridKept r s) : GridKept r s.arbitrationStart := by
  simp only [State.arbitrationStart]
  split <;> exact h

theorem lightSeenInTrail (h : GridKept r s) : GridKept r s.lightSeenInTrail := by
  simp only [State.lightSeenInTrail]
  split <;> exact h

theorem pulsePosition (h : GridKept r s) (heard : Bool) : GridKept r (s.pulsePosition heard) := by
  simp only [State.pulsePosition]
  split
  · exact h
  · exact .ite (by split <;> exact h) h

theorem survival (h : GridKept r s) (lit : Bool) : GridKept r (s.survival lit) := by
  simp only [State.survival]
  split
  case h_1 =>
    split
    · exact h
    · split <;> exact h
  all_goals exact h

theorem echoMismatch (h : GridKept r s) (bit : HeardBit) : GridKept r (s.echoMismatch bit) := by
  simp only [State.echoMismatch]
  split
  · exact h
  · exact .ite (.ite h (GridKept.duplicateDetected (by exact h) 1)) h

theorem frameSent (h : GridKept r s) : GridKept r s.frameSent := by
  simp only [State.frameSent, State.serve]
  split
  · exact h
  · split
    case h_4 => split <;> exact h
    all_goals exact h

theorem frameTooLong (h : GridKept r s) : GridKept r s.frameTooLong := .ite h h

theorem duplicateTimer (h : GridKept r s) : GridKept r s.duplicateTimer :=
  h.atDue _ fun _ _ ht => GridKept.report (by exact ht) _

/-! ## The peer table -/

theorem watchPeers {act : State → State} (h : GridKept r (act s)) : GridKept r (s.watchPeers act) :=
  (h.reportBitmap _ _ _).reportBitmap _ _ _

theorem dispatch (h : GridKept r s) (n : Nat) (act : State → Fin 12 → PeerEntry → PeerEntry) :
    GridKept r (s.dispatch n act) := by
  simp only [State.dispatch]
  split
  · exact h
  · next j _ =>
    refine .ite ?_ h
    have hwatch : GridKept r (s.watchPeers fun t => t.setEntry j (act s j)) := GridKept.watchPeers (by exact h)
    exact .ite (GridKept.report (by exact hwatch) _) hwatch

theorem foreignFrame (h : GridKept r s) (n : Nat) : GridKept r (s.foreignFrame n) := GridKept.report (by exact h) _

theorem ageTimerStale (h : GridKept r s) (j : Fin 12) : GridKept r (s.ageTimerStale j) := by
  simp only [State.ageTimerStale]
  split
  · exact GridKept.watchPeers (by exact h)
  · exact h

theorem ageTimerLost (h : GridKept r s) (j : Fin 12) : GridKept r (s.ageTimerLost j) := by
  simp only [State.ageTimerLost]
  split
  · exact GridKept.watchPeers (by exact h)
  · exact h

theorem isolationTimer (h : GridKept r s) : GridKept r s.isolationTimer :=
  h.atDue _ fun _ _ ht => GridKept.report (by exact ht) _

theorem foreignTimer (h : GridKept r s) : GridKept r s.foreignTimer :=
  h.atDue _ fun _ _ ht => GridKept.report (by exact ht) _

/-! ## Received frames -/

theorem whenFrame {heard : List BitTime} {row : RxFrame → Bool} {act : State → State} (h : GridKept r s)
    (ha : ∀ t, GridKept r t → GridKept r (act t)) : GridKept r (s.whenFrame heard row act) := .ite (ha _ h) h

theorem flagIf (h : GridKept r s) (b : Bool) (e : LinkError) : GridKept r (s.flagIf b e) := .ite h h

theorem senderChecks {rest : State → State} (h : GridKept r s) (x : Header) (corrected : Bool)
    (hr : ∀ t, GridKept r t → GridKept r (rest t)) : GridKept r (s.senderChecks x corrected rest) :=
  have hflag := h.flagIf corrected .headerCorrected
  .ite (hflag.duplicateDetected 2) (.ite (GridKept.foreignFrame (by exact hflag) _) (hr _ hflag))

theorem longFrame (h : GridKept r s) (heard : List BitTime) (kinds : Nat → Bool)
    (act : List Byte → State → Fin 12 → PeerEntry → PeerEntry) : GridKept r (s.longFrame heard kinds act) := by
  unfold State.longFrame
  refine h.whenFrame fun t ht => ?_
  split
  · exact ht.senderChecks _ _ fun u hu => .ite hu (.ite hu (hu.dispatch _ _))
  all_goals exact ht

theorem discardedFrame (h : GridKept r s) (heard : List BitTime) : GridKept r (s.discardedFrame heard) := by
  unfold State.discardedFrame
  refine h.whenFrame fun t ht => ?_
  split
  case h_3 corrected _ => exact ht.flagIf corrected .headerCorrected
  all_goals exact ht

/-- A command keeps what its owner keeps. -/
theorem takeCommand (h : GridKept r s) (x : Header) {owner : BitVec 4 → State → Answer}
    (ho : ∀ target, GridKept r (owner target s).after) : GridKept r (s.takeCommand x owner) := by
  simp only [State.takeCommand, State.broadcast, State.targeted]
  refine .ite (.ite h ?_) (.ite (.ite h (.ite h ?_)) h)
  · split
    · exact h
    · split
      case h_1 => exact ho 15
      all_goals exact h
  · split
    · exact h
    · exact ho x.sender

theorem commandFrame (h : GridKept r s) (heard : List BitTime) (codes : Nat → Bool)
    {owner : Nat → BitVec 4 → State → Answer}
    (ho : ∀ (t : State) (arg : Nat) (target : BitVec 4), GridKept r t → GridKept r (owner arg target t).after) :
    GridKept r (s.commandFrame heard codes owner) := by
  unfold State.commandFrame
  refine h.whenFrame fun t ht => ?_
  split
  · exact ht.senderChecks _ _ fun u hu => .ite hu ((hu.dispatch _ _).takeCommand _ fun target => ho _ _ target (hu.dispatch _ _))
  all_goals exact ht

/-! ## Wind and heading inputs (R105, R106) -/

theorem vaneReading (h : GridKept r s) (x : Option (Fin 3600)) : GridKept r (s.vaneReading x) := by
  cases x with
  | none => exact h
  | some v =>
    simp only [State.vaneReading]
    split
    · exact GridKept.report (by exact h) _
    · exact h

theorem platformReading (h : GridKept r s) (x : Option (Fin 3600)) : GridKept r (s.platformReading x) := by
  cases x <;> exact h

theorem windReading (h : GridKept r s) (x : Option (Fin 801)) : GridKept r (s.windReading x) := by
  cases x <;> exact h

theorem vaneInvalidTimer (h : GridKept r s) : GridKept r s.vaneInvalidTimer :=
  h.atDue _ fun _ _ ht => GridKept.report (by exact ht) _

theorem waitPowerTimer (h : GridKept r s) : GridKept r s.waitPowerTimer :=
  h.atDue _ fun _ _ ht => GridKept.report (by exact ht) _

theorem brakeRetryTimer (h : GridKept r s) : GridKept r s.brakeRetryTimer :=
  h.atDue _ fun _ _ ht => GridKept.report (by exact ht) _

/-! ## Drives (R117, R119, R124) -/

/-- R117: in MOVING the drives are selected within the grant. -/
theorem select (h : GridKept r s) (hs : s.ywc.state = .moving) :
    GridKept r (s.setYwc (s.ywc.selectUnder s.clock s.apa.yawGranted)) := by
  refine h.fits ⟨fun b hy => ?_, fun b _ hp => hp⟩ rfl id
  obtain ⟨hgrant, hreq, hmove⟩ := hy.granted (.inr (.inl hs))
  obtain rfl := hy.loaded (by rw [hs]; decide)
  obtain ⟨hout, -⟩ := hy
  exact .of_granted (.inr (.inl hs)) hout (fun hne => absurd hs hne) (countSet_selectDrives _ _) hmove hgrant hreq

theorem reselect (h : GridKept r s) (a b : Nat) : GridKept r (s.reselect a b) := by
  simp only [State.reselect]
  split
  · split
    case h_1 hs => exact h.enterBrakeApply (.inl hs)
    case h_2 hs => exact h.enterBrakeApply (.inr hs)
    all_goals exact h
  · split
    case h_1 hs => exact h.select hs
    all_goals exact h

/-- R124: ready inputs, marks and feedback timers are none of the table's. -/
theorem watchDrives (h : GridKept r s) {act : Ywc → Ywc} (hact : GridKept s (s.drivesChanged act)) :
    GridKept r (s.watchDrives act) := by
  rw [watchDrives_eq]
  have hall := (h.trans hact).reselect s.ywc.usableCount (act s.ywc).usableCount
  exact .ite hall.examine hall

theorem driveFeedback (h : GridKept r s) (d : Fin 6) : GridKept r (s.driveFeedback d) :=
  h.atDue _ fun _ _ ht => ht.watchDrives (GridKept.refl _)

/-! ## Requesting power (R115) -/

theorem requested (h : GridKept r s) (m : Move) (hs : s.ywc.state = .idle) (hl : s.yawSound → s.osc.state.isUnloaded = false) :
    GridKept r (s.requested m) := by
  have hfits (hy : s.yawFits s.osc.state.isUnloaded) : (s.requested m).yawFits false :=
    .of_requestPower rfl (hy.releaseOut_of (.inl hs)) (hy.enables_of (by rw [hs]; decide)) rfl (hy.ungranted (.inl hs)) rfl
  refine h.trans ⟨fun hy => ?_, fun hy hp => ?_⟩
  · have hfit := hfits hy
    rw [← hl hy] at hfit
    exact hfit
  · obtain ⟨⟨hfans, hfunded, hshed⟩, hunder⟩ := (powerSound_iff s).mp hp
    refine (powerSound_iff _).mpr ⟨⟨hfans, hfunded, fun k => ?_⟩, hunder⟩
    have happly := hshed k
    rw [hs] at happly
    cases happly

theorem enterRequestPower (h : GridKept r s) (m : Move) (hs : s.ywc.state = .idle)
    (hl : s.yawSound → s.osc.state.isUnloaded = false) : GridKept r (s.enterRequestPower m) := by
  by_cases hr : s.apa.yawRequest = none
  · rw [enterRequestPower_eq hr]
    exact (h.requested m hs hl).examine
  · have hno : ¬ s.yawSound := fun hy => hr (State.yawFits.unrequested hy (by rw [hs]; decide))
    exact h.trans ⟨fun hy => absurd hy hno, fun hy => absurd hy hno⟩

/-! ## An evaluation (R107 to R114, R120) -/

theorem stallCheck (h : GridKept r s) : GridKept r s.stallCheck := by
  have hstill (n : Nat) : GridKept r (s.setYwc { s.ywc with stallRef := s.ywc.twist, stallCount := n }) := h
  exact .ite (((hstill _).report _).yawStopCause false) (hstill _)

/-- R109: the evaluation timer runs once a load has completed. -/
theorem decideMove (h : GridKept r s) (hs : s.ywc.state = .idle) (hd : s.ywc.evalDue.isSome = true) :
    GridKept r s.decideMove := by
  refine .ite (GridKept.enterRequestPower (by exact h) _ hs fun hy => ?_) h
  exact State.yawFits.loaded_of_eval hy hd

/-- R107: an evaluation due at another moment, the sample taken and the wind formed. -/
theorem sampled (h : GridKept r s) (due : Clocks) (hd : s.ywc.evalDue.isSome = true) (y : Ywc)
    (hy : y = { s.ywc with
      evalDue := some due, window := y.window, grossCount := y.grossCount, bypass := y.bypass, urgent := y.urgent
      windDirection := y.windDirection, misalignCount := y.misalignCount }) : GridKept r (s.setYwc y) := by
  refine h.fits ⟨fun b hb => ?_, fun b _ hp => ?_⟩ rfl id
  · obtain rfl := hb.loaded_of_eval hd
    obtain ⟨hout, hen, hcount, hrange, hgrant, hreq, hmove, -⟩ := hb
    rw [hy]
    exact ⟨hout, hen, hcount, hrange, hgrant, hreq, hmove, fun k => by cases k⟩
  · rw [hy]
    exact hp

theorem yawEvaluation (h : GridKept r s) : GridKept r s.yawEvaluation := by
  refine h.atDue _ fun t hd ht => ?_
  rw [hd]
  generalize hu : (s.runTo t).setYwc _ = u
  have hcount : GridKept r u.evaluated := by
    have hset := ht.sampled (t + ms 1000) (by rw [State.runTo_ywc, hd]; rfl) u.ywc.evaluated
      (by rw [← hu]; exact Ywc.evaluated_eq _)
    rw [← hu] at hset ⊢
    exact hset
  have hdue : u.evaluated.ywc.evalDue.isSome = true := by
    simp only [State.evaluated, State.setFlm_ywc, State.setYwc_ywc]
    rw [Ywc.evaluated_eq, ← hu]
    rfl
  cases hs : u.ywc.state with
  | idle =>
    rw [evaluateYaw_idle hs]
    exact hcount.decideMove (u.evaluated_state.trans hs) hdue
  | moving =>
    rw [evaluateYaw_moving hs]
    exact hcount.stallCheck
  | requestPower | brakeRelease | brakeApply =>
    rw [evaluateYaw_still (by simp [hs])]
    exact hcount

/-! ## The brake (R116, R121 to R123) -/

/-- R116: the brake is released, and the drives are selected. -/
theorem enterMoving (h : GridKept r s) (hs : s.ywc.state = .brakeRelease) :
    GridKept r (s.setYwc (s.ywc.enterMoving s.clock s.apa.yawGranted)) := by
  refine h.fits ⟨fun b hy => ?_, fun b _ ⟨hfans, hfunded, hshed⟩ => ⟨hfans, hfunded, fun k => ?_⟩⟩ rfl id
  · obtain ⟨hgrant, hreq, hmove⟩ := hy.granted (.inl hs)
    obtain rfl := hy.loaded (by rw [hs]; decide)
    obtain ⟨hout, -⟩ := hy
    exact .of_granted (.inr (.inl rfl)) (hout.trans (by rw [hs]; rfl)) (fun hne => absurd rfl hne)
      (countSet_selectDrives _ _) hmove hgrant hreq
  · have happly := hshed k
    rw [hs] at happly
    cases happly

theorem brakeInput (h : GridKept r s) (level : Bool) : GridKept r (s.brakeInput level) := by
  have hset (b : Bool) : GridKept r (s.setYwc (s.ywc.setBrake s.clock s.ywc.releaseOut b)) := h
  have hgone (b : Bool) {c : Prop} [Decidable c] := GridKept.ite (c := c) ((hset b).reportGone .brakeApplyFail) (hset b)
  simp only [State.brakeInput]
  refine .ite h ?_
  split
  case h_1 hs => exact (hgone _).enterMoving hs
  case h_2 hs => exact (hgone _).endMove hs
  all_goals exact hgone _

theorem releaseMonitor (h : GridKept r s) : GridKept r s.releaseMonitor :=
  h.atDue _ fun _ _ ht => GridKept.yawStopCause (GridKept.report (by exact ht) _) false

theorem applyMonitor (h : GridKept r s) : GridKept r s.applyMonitor := by
  refine h.atDue _ fun t _ ht => ?_
  generalize (if (s.runTo t).ywc.state = .brakeApply then (1 : Int) else 2) = value
  have hreport : GridKept r
      (State.report ((s.runTo t).setYwc { (s.runTo t).ywc with applyDue := none }) (.present .brakeApplyFail value)) :=
    GridKept.report (by exact ht) _
  simp only []
  split
  case h_1 hs => exact hreport.endMove hs
  all_goals exact hreport

/-! ## Twist (R118, R125 to R128) -/

theorem takeTwist (h : GridKept r s) (x : Int) : GridKept r (s.takeTwist x) := by
  have hset : GridKept r (s.setYwc { s.ywc with twist := saturateTwist x }) := h
  exact .ite (hset.report _) (.ite (hset.reportGone _) hset)

theorem compareHardLimit (h : GridKept r s) : GridKept r s.compareHardLimit :=
  .ite (.ite h (h.report _)) (h.reportGone _)

/-- Until a load completes the hard limit is not compared. -/
theorem compareWhenLoaded (h : GridKept r s) :
    GridKept r (if s.osc.state.isUnloaded then s else s.compareHardLimit) := .ite h h.compareHardLimit

theorem startTwist (h : GridKept r s) (zone : Option Int) : GridKept r (s.startTwist zone) := by
  cases zone with
  | none => exact GridKept.takeTwist (GridKept.report (by exact h) _) _
  | some z => exact GridKept.takeTwist (by exact h) _

theorem seekTarget (h : GridKept r s) : GridKept r s.seekTarget := by
  simp only [State.seekTarget]
  split
  · next hreached =>
    obtain ⟨hs, -⟩ := hreached
    exact h.enterBrakeApply (.inr hs)
  · exact h

theorem encoderReading (h : GridKept r s) (angle : Fin 3600) (zone : Option Int) :
    GridKept r (s.encoderReading angle zone) := by
  have hangle : GridKept r (s.setYwc { s.ywc with angle := angle.val }) := h
  have hmoved : GridKept r (s.setYwc { s.ywc with angle := angle.val }).moveTwist := GridKept.takeTwist (by exact hangle) _
  exact (GridKept.ite (c := s.ywc.twistKnown) hmoved (hangle.startTwist zone)).compareWhenLoaded.seekTarget

theorem rereadZone (h : GridKept r s) (zone : Option Int) : GridKept r (s.rereadZone zone) := by
  refine .ite ?_ h
  cases zone with
  | none => exact .ite h (h.report _)
  | some z =>
    have htwist := (h.reportGone .twistUnknown).takeTwist (nacelleSigned s.ywc.angle + 3600 * z)
    exact htwist.compareWhenLoaded

/-! ## The commands to the yaw controller (R129, R130) -/

/-- R130: before a load no move is made. -/
theorem ownUntwist (h : GridKept r s) : GridKept r s.ownUntwist.after := by
  simp only [State.ownUntwist]
  split
  case h_1 hs =>
    by_cases hl : s.osc.state.isUnloaded = true
    · have hidle : s.untwistIdle = true := by simp [State.untwistIdle, hl]
      exact h.trans (by rw [State.untwist, if_pos hidle]; exact GridKept.refl s)
    · exact .ite h (h.enterRequestPower _ hs fun _ => by simpa using hl)
  all_goals exact h

end GridKept

end Sys2Proof.Machine
end

section
/-! SUPPORT. Cooling and sensing keep the yaw states and the budget sound: a failed fan is replaced under its grant, or the
grant goes (R135 to R157). -/

namespace Sys2Proof.Machine

/-! ## Fans FAILED (R143) -/

/-- Every usable fan runs where none is left to start. -/
theorem usableFans_le {c : Clc} (h : c.fanToStart = none) : c.usableFans ≤ setCount c.runs := by
  have hall := lowest?_none.mp h
  rw [Clc.usableFans, toList_eq_map_finRange, List.filter_map, List.length_map, setCount, ← List.countP_eq_length_filter,
    ← List.countP_eq_length_filter]
  refine List.countP_mono_left fun f _ hf => ?_
  have hgood : c.fans[f].failed = false := by simpa using hf
  simpa [-Fin.getElem_fin, Clc.runs, hgood] using hall f

/-- One entry fewer is set. -/
theorem setCount_erase {n : Nat} {p q : Fin n → Bool} {f : Fin n} (hf : p f = true) (hq : ∀ g, q g = (p g && g != f)) :
    setCount p = setCount q + 1 :=
  setCount_insert (f := f) (by simp [hq]) fun g => by
    by_cases hg : f = g
    · simp [← hg, hf]
    · rw [hq, bne_iff_ne.mpr (Ne.symm hg), beq_false_of_ne hg, Bool.and_true, Bool.or_false]

/-- R143: the CLC with fan `f` marked FAILED and turned off. -/
def Clc.fanFailed (c : Clc) (now : Clocks) (f : Fin 4) : Clc :=
  { c with fans := update c.fans f fun x => x.change now { x with failed := true, runOut := false } }

theorem Clc.fanFailed_runs (c : Clc) (now : Clocks) (f g : Fin 4) :
    (c.fanFailed now f).runs g = (c.runs g && g != f) := by
  have hg : (update c.fans f fun x => x.change now { x with failed := true, runOut := false })[g] = _ := update_get _ _ _ _
  simp only [Clc.runs, Clc.fanFailed, hg]
  by_cases hfg : f = g
  · subst hfg
    simp [Fan.change]
  · simp [hfg, Ne.symm hfg]

theorem Clc.fanFailed_failed (c : Clc) (now : Clocks) (f g : Fin 4) :
    (c.fanFailed now f).fans[g].failed = (c.fans[g].failed || f == g) := by
  have hg : (update c.fans f fun x => x.change now { x with failed := true, runOut := false })[g] = _ := update_get _ _ _ _
  simp only [Clc.fanFailed, hg]
  by_cases hfg : f = g
  · simp [hfg, Fan.change]
  · simp [hfg]

/-- The failed fan is off, whatever the others do. -/
theorem Clc.fanFailed_off {c : Clc} (h : ∀ g : Fin 4, c.fans[g].failed = true → c.runs g = false) (now : Clocks) (f : Fin 4)
    (g : Fin 4) (hg : (c.fanFailed now f).fans[g].failed = true) : (c.fanFailed now f).runs g = false := by
  rw [Clc.fanFailed_failed] at hg
  rw [Clc.fanFailed_runs]
  rcases Bool.or_eq_true_iff.mp hg with hg | hg
  · rw [h g hg, Bool.false_and]
  · simp [(beq_iff_eq.mp hg).symm]

/-- R142: a fan to start is turned on. -/
theorem startFan_fansFit {s : State} {f : Fin 4} (hf : s.clc.fanToStart = some f)
    (hcount : setCount s.clc.runs + 1 = s.apa.fansGranted) (hoff : ∀ g : Fin 4, s.clc.fans[g].failed = true → s.clc.runs g = false) :
    (s.setClc (s.clc.setFanOut s.clock f true)).fansFit := by
  obtain ⟨hgood, hstill⟩ := fanToStart_some hf
  have hruns (g : Fin 4) : (s.clc.setFanOut s.clock f true).runs g = (s.clc.runs g || f == g) := by
    have hg : (update s.clc.fans f fun x => x.change s.clock { x with runOut := true })[g] = _ := update_get _ _ _ _
    simp only [Clc.runs, Clc.setFanOut, hg]
    by_cases hfg : f = g
    · simp [hfg, Fan.change]
    · simp [hfg]
  refine ⟨(setCount_insert hstill hruns).trans hcount, fun g hg => ?_⟩
  have hmark : s.clc.fans[g].failed = true := (setFanOut_failed s.clock s.clc f true g).symm.trans hg
  have hne : (f == g) = false := by
    rw [beq_eq_false_iff_ne]
    rintro rfl
    rw [hgood] at hmark
    cases hmark
  exact (hruns g).trans (by rw [hoff g hmark, hne]; rfl)

/-- R143: the fan marked, and FAN_FAIL with the fault manager. -/
def State.fanMarked (s : State) (f : Fin 4) : State :=
  (s.setClc (s.clc.fanFailed s.clock f)).quiet (.present .fanFail (s.clc.fanFailed s.clock f).failedFans)

theorem failFan_eq (s : State) (f : Fin 4) : s.failFan f =
    if s.clc.runs f then
      if (s.fanMarked f).clc.usableFans < (s.fanMarked f).apa.fansGranted then
        ((s.fanMarked f).setApa { (s.fanMarked f).apa with fansGranted := (s.fanMarked f).apa.fansGranted - 1 }).examine
      else
        (s.fanMarked f).clc.fanToStart.elim (s.fanMarked f) fun g =>
          (s.fanMarked f).setClc ((s.fanMarked f).clc.setFanOut (s.fanMarked f).clock g true)
    else s.fanMarked f := by
  simp only [State.failFan]
  generalize hm : State.report _ _ = u
  have hu : u = s.fanMarked f := hm.symm.trans (State.report_mild (s.setClc (s.clc.fanFailed s.clock f)) _ rfl)
  rw [← hu]
  refine if_congr Iff.rfl (if_congr Iff.rfl rfl ?_) rfl
  cases u.clc.fanToStart <;> rfl

theorem failFan_fitsKept (s : State) (f : Fin 4) : FitsKept s (s.failFan f) := by
  let u : State := s.fanMarked f
  have hoff : s.fansFit → ∀ g : Fin 4, u.clc.fans[g].failed = true → u.clc.runs g = false :=
    fun ⟨_, hfailed⟩ => Clc.fanFailed_off hfailed s.clock f
  by_cases hrun : s.clc.runs f = true
  · have hfewer : setCount s.clc.runs = setCount u.clc.runs + 1 := setCount_erase hrun (s.clc.fanFailed_runs s.clock f)
    by_cases hless : u.clc.usableFans < u.apa.fansGranted
    · have heq : s.failFan f = (u.setApa { u.apa with fansGranted := u.apa.fansGranted - 1 }).examine := by
        rw [failFan_eq, if_pos hrun]
        exact if_pos hless
      rw [heq]
      refine FitsKept.examine ⟨fun b hy => hy, fun b _ ⟨hfans, hfunded, hshed⟩ => ⟨⟨?_, hoff hfans⟩, ?_, hshed⟩⟩
      · obtain ⟨hcount, -⟩ := hfans
        exact Nat.eq_sub_of_add_eq (hfewer.symm.trans hcount)
      · exact hfunded.fewerFans (Nat.sub_le _ 1)
    · have heq : s.failFan f = u.clc.fanToStart.elim u fun g => u.setClc (u.clc.setFanOut u.clock g true) := by
        rw [failFan_eq, if_pos hrun]
        exact if_neg hless
      rw [heq]
      refine ⟨fun b hy => ?_, fun b _ ⟨hfans, hfunded, hshed⟩ => ?_⟩
      · cases u.clc.fanToStart <;> exact hy
      · have hgranted : setCount u.clc.runs + 1 = u.apa.fansGranted := hfewer.symm.trans hfans.1
        cases hg : u.clc.fanToStart with
        | none =>
          have := usableFans_le hg
          omega
        | some g => exact ⟨startFan_fansFit hg hgranted (hoff hfans), hfunded, hshed⟩
  · have heq : s.failFan f = u := by
      rw [failFan_eq, if_neg hrun]
    have hsame : u.clc.runs = s.clc.runs := funext fun g => by
      rw [show u.clc.runs g = _ from s.clc.fanFailed_runs s.clock f g]
      by_cases hg : g = f
      · subst hg
        simpa using hrun
      · simp [hg]
    rw [heq]
    refine ⟨fun b hy => hy, fun b _ ⟨hfans, hfunded, hshed⟩ => ⟨⟨?_, hoff hfans⟩, hfunded, hshed⟩⟩
    rw [hsame]
    exact hfans.1

theorem failFan_unloaded (s : State) (f : Fin 4) :
    (s.failFan f).osc.state.isUnloaded = s.osc.state.isUnloaded ∧ (s.failFan f).apa.rideThrough = s.apa.rideThrough := by
  refine ⟨congrArg Footing.unloaded (s.failFan_footing f), ?_⟩
  rw [failFan_eq]
  simp only []
  split
  · split
    · exact congrArg Outlook.rideThrough (State.examine_outlook _)
    · generalize (Clc.fanToStart _) = g
      cases g <;> rfl
  · rfl

@[simp] theorem Clc.setChannel_fans (c : Clc) (i : Fin 8) (t : TempChannel) : (c.setChannel i t).fans = c.fans := by
  simp only [Clc.setChannel, apply_ite Clc.fans, ite_self]

@[simp] theorem Clc.takeDuty_fans (now : Clocks) (c : Clc) (i : Fin 2) : (c.takeDuty now i).fans = c.fans := rfl

namespace GridKept
variable {r s t : State}

/-! ## Cooling (R135 to R150) -/

/-- The fans run and are marked as before, or a mark is gone. -/
theorem setClc (h : GridKept r s) {c : Clc} (hruns : c.runs = s.clc.runs)
    (hfailed : ∀ f : Fin 4, c.fans[f].failed = true → s.clc.fans[f].failed = true) : GridKept r (s.setClc c) := by
  refine h.fits ⟨fun b hy => hy, fun b _ ⟨⟨hcount, hoff⟩, hfunded, hshed⟩ => ⟨⟨?_, fun f hf => ?_⟩, hfunded, hshed⟩⟩ rfl id
  · exact (congrArg setCount hruns).trans hcount
  · exact (congrFun hruns f).trans (hoff f (hfailed f hf))

/-- The CLC moves, but for its fans. -/
theorem setPumps (h : GridKept r s) {c : Clc} (hf : c.fans = s.clc.fans) : GridKept r (s.setClc c) :=
  h.setClc (by unfold Clc.runs; rw [hf]) fun f k => by rwa [hf] at k

theorem temperatureReading (h : GridKept r s) (i : Fin 8) (x : Option Int) : GridKept r (s.temperatureReading i x) := by
  simp only [State.temperatureReading]
  split
  · exact h
  · next t _ =>
    have hset : GridKept r (s.setClc (s.clc.setChannel i (t.take s.clock x))) :=
      h.setPumps (Clc.setChannel_fans _ _ _)
    exact .ite (.ite (hset.report _) (hset.report _)) hset

theorem holdTimer (h : GridKept r s) (i : Fin 8) : GridKept r (s.holdTimer i) := by
  simp only [State.holdTimer]
  split
  · exact h
  · refine h.atDue _ fun _ _ ht => GridKept.report ?_ _
    exact ht.setPumps (Clc.setChannel_fans _ _ _)

theorem flowReading (h : GridKept r s) (x : Option (Fin 2001)) : GridKept r (s.flowReading x) := by
  cases x with
  | none => exact h
  | some v => exact GridKept.watchFlow (by exact h)

theorem failPump (h : GridKept r s) (i : Fin 2) : GridKept r (s.failPump i) := by
  unfold State.failPump
  extract_lets duty old c u v
  have hc : (if duty then { c with flowDue := none } else c : Clc).fans = s.clc.fans := by split <;> rfl
  have hmark : GridKept r v := (h.setPumps hc).report _
  clear_value v
  refine .ite ?_ hmark
  split
  case h_1 => exact hmark.setPumps (Clc.takeDuty_fans _ _ _)
  all_goals exact hmark.report _

theorem flowMonitor (h : GridKept r s) : GridKept r s.flowMonitor := by
  refine h.atDue _ fun t _ ht => ?_
  split
  · exact GridKept.watchFlow (GridKept.failPump (by exact ht) _)
  · exact ht

theorem pumpRunning (h : GridKept r s) (i : Fin 2) (level : Bool) : GridKept r (s.pumpRunning i level) :=
  GridKept.watchFlow (by exact h)

theorem pumpFeedback (h : GridKept r s) (i : Fin 2) : GridKept r (s.pumpFeedback i) :=
  h.atDue _ fun _ _ ht => GridKept.watchFlow (ht.failPump i)

theorem fanRunning (h : GridKept r s) (f : Fin 4) (level : Bool) : GridKept r (s.fanRunning f level) := by
  have hget (g : Fin 4) : (update s.clc.fans f fun x => x.change s.clock { x with runIn := level })[g] = _ :=
    update_get _ _ _ _
  refine h.setClc (funext fun g => ?_) fun g hg => ?_
  · simp only [Clc.runs, hget]
    split <;> rfl
  · simp only [hget] at hg
    split at hg <;> exact hg

theorem failFan (h : GridKept r s) (f : Fin 4) : GridKept r (s.failFan f) := by
  obtain ⟨hu, hride⟩ := failFan_unloaded s f
  exact h.fits (failFan_fitsKept s f) hu (by rw [hride]; exact id)

theorem fanFeedback (h : GridKept r s) (f : Fin 4) : GridKept r (s.fanFeedback f) := h.atDue _ fun _ _ ht => ht.failFan f

theorem actOnFans (h : GridKept r s) : GridKept r s.actOnFans := by
  have hwithdrawn : GridKept r s.withdrawFan := .ite (GridKept.examine (by exact h)) h
  exact .ite (GridKept.examine (by exact h)) (hwithdrawn.releaseFans _)

theorem judgeOvertemperature (h : GridKept r s) : GridKept r s.judgeOvertemperature :=
  .ite h (.ite (.ite h (h.report _)) (h.reportGone _))

theorem judgeCable (h : GridKept r s) : GridKept r s.judgeCable :=
  .ite h (.ite (.ite h (h.report _)) (.ite (h.reportGone _) h))

theorem takeMinFlow (h : GridKept r s) : GridKept r s.takeMinFlow := GridKept.watchFlow (by exact h)

theorem formLimits (h : GridKept r s) : GridKept r s.formValve.formThermalLimit := by
  have hvalve : GridKept r s.formValve := h.setPumps rfl
  exact hvalve.setPumps rfl

theorem evaluateCooling (h : GridKept r s) : GridKept r s.evaluateCooling := by
  unfold State.evaluateCooling
  have hflow := h.takeMinFlow
  generalize s.takeMinFlow = u at hflow ⊢
  have hfans : GridKept r (u.setClc u.clc.stage).actOnFans := GridKept.actOnFans (by exact hflow)
  exact hfans.formLimits.judgeOvertemperature.judgeCable

theorem coolingEvaluation (h : GridKept r s) : GridKept r s.coolingEvaluation := by
  unfold State.coolingEvaluation
  extract_lets due u
  have hu : GridKept r (u.setClc { u.clc with evalDue := due + ms 1000 }) := h
  exact hu.evaluateCooling

/-- R150: a fan comes back, and does not run. -/
theorem reviewMarks (h : GridKept r s) : GridKept r (s.setClc
    { s.clc with pumps := mapTable s.clc.pumps Pump.review, fans := mapTable s.clc.fans Fan.review }) := by
  refine h.setClc (funext fun f => ?_) fun f hf => ?_
  · simp only [Clc.runs, mapTable_get, Fan.review]
    split <;> rfl
  · simp only [mapTable_get, Fan.review] at hf
    split at hf
    · cases hf
    · exact hf

theorem reviewCooling (h : GridKept r s) : GridKept r s.reviewCooling := by
  have hmarks := h.reviewMarks
  unfold State.reviewCooling
  generalize s.setClc _ = u at hmarks ⊢
  have hduty : GridKept r u.resumeDuty := by
    refine .ite hmarks ?_
    split
    · exact GridKept.reportGone (hmarks.setPumps (Clc.takeDuty_fans _ _ _)) _
    · exact hmarks
  have hpump : GridKept r (match u.resumeDuty.clc.failedPump? with
      | some i => u.resumeDuty.report (.present .pumpFail (i.val + 1 : Nat))
      | none => u.resumeDuty.reportGone .pumpFail) := by
    split
    · exact hduty.report _
    · exact hduty.reportGone _
  exact .ite (hpump.reportGone _) (hpump.report _)

/-! ## Sensing (R153 to R157) -/

theorem watchSense (h : GridKept r s) (act : Cts → Cts) : GridKept r (s.watchSense act) :=
  watchSense_induction (P := GridKept r) h fun _ _ _ _ _ _ ht => ht.reportBitmap _ _ _

theorem scanTimer (h : GridKept r s) : GridKept r s.scanTimer := h.atDue _ fun _ _ ht => ht

theorem dischargeEnd (h : GridKept r s) : GridKept r s.dischargeEnd := by
  simp only [State.dischargeEnd]
  split <;> exact h

theorem takeReading (h : GridKept r s) (i : Fin 8) (x : RawClass) : GridKept r (s.takeReading i x) := by
  have hwatch := h.watchSense fun c => { c with channels := update c.channels i (·.debounce x) }
  exact hwatch

theorem comparatorTrip (h : GridKept r s) (n : Nat) : GridKept r (s.comparatorTrip n) := by
  simp only [State.comparatorTrip]
  split
  case h_1 => exact .ite (GridKept.takeReading (by exact h) _ _) h
  all_goals exact h

theorem ceilingReached (h : GridKept r s) : GridKept r s.ceilingReached := by
  simp only [State.ceilingReached]
  split
  case h_1 => exact GridKept.takeReading (by exact h) _ _
  all_goals exact h

end GridKept

end Sys2Proof.Machine
end

section
/-! SUPPORT. The image, the load, the resets, the timers of the OSC and the commands keep the yaw states and the budget
sound (R159, R188 to R207). -/

namespace Sys2Proof.Machine

/-! ## The figures of an image (R159, R168) -/

/-- R195: the figures of a good image are in order. -/
theorem Staging.good_budgets {st : Staging} {own : Nat} (h : ∀ q ∈ st.failures own, q.2 = false) :
    st.figures.pumpLoad ≤ st.figures.budgetRt ∧ st.figures.budgetRt ≤ st.figures.budget := by
  have h14 := h (14, decide (st.figures.budgetRt < st.figures.pumpLoad ∨ st.figures.budget < st.figures.budgetRt))
    (by simp [Staging.failures])
  simp only [decide_eq_false_iff_not] at h14
  omega

/-- R168: taking fans back needs no more than the fans to match the grants. -/
theorem takeBackFans_fansFit (n : Nat) {s : State} (h : s.fansFit) : (s.takeBackFans n).fansFit := by
  induction n generalizing s with
  | zero => exact h
  | succ n ih =>
    simp only [State.takeBackFans]
    split
    · exact ih (takeBackFan_fansFit h)
    · exact h

/-- R168: with no yaw motor granted, shedding brings any total into the budget. -/
theorem shed_funds {s : State} (hfans : s.fansFit) (hg : s.apa.yawGranted = 0)
    (hpump : s.apa.figures.pumpLoad ≤ s.apa.figures.budgetRt) (hbudget : s.apa.figures.budgetRt ≤ s.apa.figures.budget) :
    s.shed.powerFits := by
  have hforce : s.apa.figures.pumpLoad ≤ s.apa.inForce := by
    simp only [Apa.inForce]
    split
    · exact hpump
    · exact hpump.trans hbudget
  have hfigures : s.shed.apa.figures = s.apa.figures := congrArg Basis.figures s.shed_basis
  have htotal : s.shed.apa.total ≤ s.shed.apa.inForce := shed_fits ⟨hfans.1, hforce⟩ hg
  have hle : s.shed.apa.inForce ≤ s.shed.apa.figures.budget := Apa.inForce_le (by rw [hfigures]; exact hbudget)
  refine ⟨takeBackFans_fansFit _ hfans, ⟨?_, ?_, htotal.trans hle⟩, fun k => by cases k⟩
  · rw [hfigures]
    exact hpump
  · rw [hfigures]
    exact hbudget

/-- R159: the figures of an image are taken with the YWC in IDLE. -/
theorem loadPower_fits {s : State} {st : Staging} {own : Nat} (hy : s.yawFits false) (hs : s.ywc.state = .idle)
    (hgood : ∀ q ∈ st.failures own, q.2 = false) :
    (s.loadPower st).yawFits false ∧ (s.fansFit → (s.loadPower st).powerFits) := by
  let u : State := s.setApa { s.apa with figures := st.figures }
  have hu : u.yawFits false := hy
  have hshed : u.shed.yawFits false := (FitsKept.refl u).shed.1 false hu
  obtain ⟨hyaw, hpower⟩ := (FitsKept.refl u.shed).examine
  obtain ⟨hpump, hbudget⟩ := Staging.good_budgets hgood
  exact ⟨hyaw false hshed, fun hfans => hpower false hshed
    (shed_funds (s := u) hfans (hu.ungranted (.inl hs)) hpump hbudget)⟩

/-- R197: the OSC leaves LOADING for a state after a load. -/
theorem loadModes_loaded (s : State) (q : StationRecord) :
    ∃ o : Osc, s.loadModes q = s.setOsc o ∧ o.state.isUnloaded = false := by
  obtain ⟨o, heq, ho⟩ := loadModes_eq s q
  refine ⟨o, heq, ?_⟩
  rw [ho]
  split
  · rfl
  · split <;> rfl

/-- R106, R132, R159: a load in a state that fits, up to the OSC. -/
theorem loadBlocks_fits {s : State} {st : Staging} {own : Nat} (q : StationRecord) (hu : s.osc.state.isUnloaded = true)
    (hy : s.yawSound) (hgood : ∀ q ∈ st.failures own, q.2 = false) :
    (s.loadBlocks st q).yawFits false ∧ (s.fansFit → (s.loadBlocks st q).powerFits) := by
  have hfit : s.yawFits true := by
    rw [yawSound_iff, hu] at hy
    exact hy
  obtain ⟨hidle, hgranted, hrequest⟩ := yawSound_unloaded hu hy
  obtain ⟨v, hv, hywc, hapa, hfans⟩ := loadBlocks_idle st q hu hidle
  have hvfit : v.yawFits false := by
    refine .of_idle ?_ ?_ ?_ ?_ (by rw [hapa, hgranted]) (by rw [hapa, hrequest]) fun k => by cases k
    all_goals rw [hywc]
    exacts [hidle, hfit.releaseOut_of (.inl hidle), hfit.enables_of (by rw [hidle]; decide), hfit.unmoved hidle]
  obtain ⟨hyaw, hpower⟩ := loadPower_fits hvfit (by rw [hywc]; exact hidle) hgood
  have hruns : v.clc.runs = s.clc.runs := funext fun f => by simp only [Clc.runs, hfans]
  rw [hv]
  refine ⟨hyaw, fun ⟨hcount, hoff⟩ => hpower ⟨?_, ?_⟩⟩
  · rw [hruns, hapa, hcount]
  · rw [hruns, hfans]
    exact hoff

namespace GridKept
variable {r s t : State}

/-! ## The image (R193, R197, R198) -/

theorem stopSensing (h : GridKept r s) : GridKept r s.stopSensing := h.watchSense _

theorem refuseImage (h : GridKept r s) (hu : s.osc.state.isUnloaded = true) (code : Nat) : GridKept r (s.refuseImage code) := by
  have hset : GridKept r (s.setOsc { s.osc with state := .unconfigured, loader := .idle }) := h.setOsc hu.symm
  exact (hset.report _).stopSensing

theorem configMarker (h : GridKept r s) (hm : s.osc.sound) (b : Byte) : GridKept r (s.configMarker b) := by
  simp only [State.configMarker]
  split
  case h_1 hl => exact .ite h (h.refuseImage (isUnloaded_of_reading s hm hl) _)
  all_goals exact h

theorem configHeader (h : GridKept r s) (hm : s.osc.sound) (b0 b1 b2 b3 : Byte) :
    GridKept r (s.configHeader b0 b1 b2 b3) := by
  simp only [State.configHeader]
  split
  case h_1 hl => exact .ite h (h.refuseImage (isUnloaded_of_reading s hm hl) _)
  all_goals exact h

/-- R197: a good image is loaded. -/
theorem completeLoad {st : Staging} {own : Nat} (h : GridKept r s) (hu : s.osc.state.isUnloaded = true)
    (hgood : ∀ q ∈ st.failures own, q.2 = false) (q : StationRecord) : GridKept r (s.completeLoad st q) := by
  have hfits := fun hy : s.yawSound => loadBlocks_fits q hu hy hgood
  rw [completeLoad_eq]
  generalize s.loadBlocks st q = u at hfits ⊢
  obtain ⟨o, heq, ho⟩ := loadModes_loaded u q
  rw [heq]
  refine h.trans ⟨fun hy => ?_, fun hy hp => ?_⟩
  · rw [yawSound_iff, State.setOsc_osc, ho]
    exact (hfits hy).1
  · obtain ⟨⟨hfans, -⟩, -⟩ := (powerSound_iff s).mp hp
    refine (powerSound_iff _).mpr ⟨(hfits hy).2 hfans, fun k => ?_⟩
    rw [State.setOsc_osc, ho] at k
    cases k

theorem configRest (h : GridKept r s) (hm : s.osc.sound) (rest : List Byte) : GridKept r (s.configRest rest) := by
  simp only [State.configRest]
  split
  case h_1 hl =>
    have hu := isUnloaded_of_reading s hm hl
    split
    · split
      · exact h.refuseImage hu _
      · next hj =>
        obtain ⟨-, -, hgood⟩ := judgeImage_good hj
        split
        · exact h.completeLoad hu hgood _
        · exact h.refuseImage hu _
    · exact h
  all_goals exact h

/-! ## The resets (R188, R189) -/

theorem resetBlocks (s : State) (f : Flm) (n : Nat) : GridKept s (s.resetBlocks f n) := by
  have hoff (g : Fin 4) : (s.resetBlocks f n).clc.runs g = false := by
    simp [Clc.runs, State.resetBlocks, clcAfterReset]
  have hnone : setCount (s.resetBlocks f n).clc.runs = 0 := by
    rw [funext hoff]
    decide
  have hfunded : apaAfterReset.funded := by
    unfold Apa.funded
    decide
  refine ⟨fun _ => State.yawFits.of_idle rfl rfl rfl rfl rfl rfl fun _ => rfl, fun _ _ => (powerSound_iff _).mpr ⟨?_, fun _ => rfl⟩⟩
  exact ⟨⟨hnone, fun g _ => hoff g⟩, hfunded, fun k => by cases k⟩

theorem reportDrives (h : GridKept r s) (a b : Nat) : GridKept r (s.reportDrives a b) :=
  .ite (h.report _) (.ite (h.report _) h)

theorem endReset (h : GridKept r s) (hu : s.osc.state.isUnloaded = true) : GridKept r s.endReset := by
  have hdrives := h.reportDrives 6 s.ywc.usableCount
  have hf : (s.reportDrives 6 s.ywc.usableCount).osc.state.isUnloaded = s.osc.state.isUnloaded :=
    congrArg Footing.unloaded (s.reportDrives_footing 6 s.ywc.usableCount)
  exact .ite hdrives (hdrives.refuseImage (hf.trans hu) _)

/-! ## The timers of the OSC (R201, R203, R205, R206) -/

theorem startTimer (h : GridKept r s) : GridKept r s.startTimer := h.atDue _ fun _ _ ht => GridKept.report (by exact ht) _

/-- R203: the stop timer runs in STOPPING only. -/
theorem stopTimer (h : GridKept r s) (hm : s.osc.sound) : GridKept r s.stopTimer := by
  refine h.atDue _ fun t hd ht => ?_
  have hstate : s.osc.state = .stopping := by
    by_contra hne
    have hnone := hm.stopDue_none hne
    rw [hd] at hnone
    cases hnone
  have hset : GridKept r ((s.runTo t).setOsc { s.osc with stopDue := none }) := ht
  exact hset.endStopping (by rw [State.setOsc_osc, hstate]; rfl)

/-- R205: the restart delay runs in TRIPPED only. -/
theorem restartDelay (h : GridKept r s) (hm : s.osc.sound) : GridKept r s.restartDelay := by
  refine h.atDue _ fun t hd ht => ?_
  have hstate : s.osc.state = .tripped := by
    by_contra hne
    have hnone := hm.restartDue_none hne
    rw [hd] at hnone
    cases hnone
  have hset : GridKept r ((s.runTo t).setOsc { s.osc with restartDue := none }) := ht
  exact hset.enterStandby (by rw [State.setOsc_osc, hstate]; rfl)

theorem listTimer (h : GridKept r s) : GridKept r s.listTimer := by
  refine h.atDue _ fun t _ ht => ?_
  have hset (l : List Stamp) (d : Option Clocks) :
      GridKept r ((s.runTo t).setOsc { s.osc with tripList := l, listDue := d }) := ht
  exact .ite ((hset _ _).reportGone _) (hset _ _)

/-! ## The commands (R181, R200, R207) -/

theorem ownStart (h : GridKept r s) : GridKept r s.ownStart.after := by
  simp only [State.ownStart]
  split
  case h_1 => exact GridKept.testStart (by exact h)
  all_goals exact h

theorem ownStop (h : GridKept r s) : GridKept r s.ownStop.after := by
  simp only [State.ownStop]
  split
  case h_1 hs | h_2 hs => exact h.setOsc (by rw [hs]; rfl)
  all_goals exact h

theorem stringStop (h : GridKept r s) : GridKept r s.stringStop := by
  have hset : GridKept r (s.setOsc { s.osc with runCommand := false, stringStopSeen := true }) := h
  simp only [State.stringStop]
  split
  · next hp => exact hset.endStopping (OpState.isUnloaded_of_producing hp)
  · exact hset

theorem leaveSafeStop (h : GridKept r s) : GridKept r s.leaveSafeStop := by
  simp only [State.leaveSafeStop]
  split
  · next hs =>
    obtain ⟨hsafe, -⟩ := hs
    exact h.enterStandby (by rw [hsafe]; rfl)
  · exact h

theorem closeCleared (h : GridKept r s) : GridKept r s.closeCleared := by
  have hclosed : GridKept r (s.setFlm (s.flm.faultReset s.stamp)) := h
  exact (hclosed.tell _).leaveSafeStop

theorem faultReview (h : GridKept r s) (zone : Option Int) : GridKept r (s.faultReview zone) :=
  (h.rereadZone zone).reviewCooling

theorem ownFaultReset (h : GridKept r s) (zone : Option Int) : GridKept r (s.ownFaultReset zone).after := by
  simp only [State.ownFaultReset]
  exact (h.faultReview zone).closeCleared

theorem ownRecordRequest (h : GridKept r s) (target : BitVec 4) (n : Nat) :
    GridKept r (s.ownRecordRequest target n).after := by
  simp only [State.ownRecordRequest]
  split
  · exact h
  · split <;> exact h

end GridKept

/-! ## Every command -/

theorem exec_gridKept {c : Instr} {s t : State} (hm : s.modesSound) (h : exec c s = .next t) : GridKept s t := by
  have k := GridKept.refl s
  have ke (dt : Clocks) : GridKept s (s.elapse dt) := k
  cases c <;> injection h with h <;> subst h
  case coldReset straps => exact (GridKept.resetBlocks _ _ _).endReset rfl
  case warmReset dt straps => exact ((ke dt).trans (GridKept.resetBlocks _ _ _)).endReset rfl
  case idleGap => exact k.idleGap
  case boundary => exact k.boundary
  case arbitrationStart dt => exact (ke dt).arbitrationStart
  case pulsePosition b => exact k.pulsePosition b
  case survival b => exact k.survival b
  case echoMismatch b => exact k.echoMismatch b
  case frameSent => exact k.frameSent
  case frameTooLong => exact k.frameTooLong
  case frameDiscarded heard => exact k.discardedFrame heard
  case statusReceived heard => exact k.longFrame heard _ _
  case noticeReceived heard => exact k.longFrame heard _ _
  case replyOrRecordReceived heard => exact k.longFrame heard _ _
  case start heard => exact k.commandFrame heard _ fun _ _ _ hu => hu.ownStart
  case stop heard => exact k.commandFrame heard _ fun _ _ _ hu => hu.ownStop
  case yawHold heard => exact k.commandFrame heard _ fun _ _ _ hu => GridKept.yawStopCause (by exact hu) true
  case yawRelease heard => exact k.commandFrame heard _ fun _ _ _ hu => hu
  case untwist heard => exact k.commandFrame heard _ fun _ _ _ hu => hu.ownUntwist
  case faultReset heard zone => exact k.commandFrame heard _ fun _ _ _ hu => hu.ownFaultReset zone
  case recordRequest heard => exact k.commandFrame heard _ fun _ _ _ hu => hu.ownRecordRequest _ _
  case stringCap heard => exact k.commandFrame heard _ fun _ _ _ hu => hu
  case stringStop heard => exact k.commandFrame heard _ fun _ _ _ hu => hu.stringStop
  case unknownCommand heard => exact k.commandFrame heard _ fun _ _ _ hu => hu
  case statusTimerExpiry => exact k
  case duplicateTimerExpiry => exact k.duplicateTimer
  case ageTimerStale j => exact k.ageTimerStale j
  case ageTimerLost j => exact k.ageTimerLost j
  case isolationTimerExpiry => exact k.isolationTimer
  case foreignTimerExpiry => exact k.foreignTimer
  case controlPeriod => exact k.controlPeriod
  case selectAsserted dt => exact ke dt
  case selectReleased dt => exact ke dt
  case readSetpoint dt => exact (ke dt).namedEdge _ _
  case readSetpointEnd dt => exact (ke dt).namedEdge _ _
  case writeMeasurement dt => exact (ke dt).namedEdge _ _
  case unknownPortType dt bit => exact (ke dt).namedEdge _ bit
  case measurementArrival dt bit => exact (ke dt).namedEdge _ bit
  case portClockRisingEdge dt bit => exact (ke dt).edge bit
  case pauseTimerExpiry => exact k.pauseTimer
  case strobeTimerExpiry => exact k.strobeTimer
  case silenceTimerExpiry => exact k.silenceTimer
  case curveDeadline => exact k.curveDeadline
  case recoveryTimerExpiry => exact k.recoveryTimer
  case overvoltageTimerExpiry => exact k.overvoltageTimer
  case encoderReading dt angle zone => exact (ke dt).encoderReading angle zone
  case platformHeadingReading dt x => exact (ke dt).platformReading x
  case vaneReading dt x => exact (ke dt).vaneReading x
  case windSpeedReading dt x => exact (ke dt).windReading x
  case vaneInvalidTimerExpiry => exact k.vaneInvalidTimer
  case yawEvaluation => exact k.yawEvaluation
  case waitPowerTimerExpiry => exact k.waitPowerTimer
  case brakeReleasedInput dt level => exact (ke dt).brakeInput level
  case releaseMonitorExpiry => exact k.releaseMonitor
  case applyMonitorExpiry => exact k.applyMonitor
  case brakeRetryTimerExpiry => exact k.brakeRetryTimer
  case driveReadyInput dt d level => exact (ke dt).watchDrives (GridKept.refl _)
  case driveRunningInput dt d level => exact ke dt
  case driveFeedbackTimerExpiry d => exact k.driveFeedback d
  case temperatureReading dt i x => exact (ke dt).temperatureReading i x
  case holdTimerExpiry i => exact k.holdTimer i
  case flowReading dt x => exact (ke dt).flowReading x
  case flowMonitorExpiry => exact k.flowMonitor
  case pumpRunningInput dt i level => exact (ke dt).pumpRunning i level
  case pumpFeedbackTimerExpiry i => exact k.pumpFeedback i
  case coolingEvaluation => exact k.coolingEvaluation
  case fanRunningInput dt f level => exact (ke dt).fanRunning f level
  case fanFeedbackTimerExpiry f => exact k.fanFeedback f
  case scanTimerExpiry => exact k.scanTimer
  case dischargeEnd => exact k.dischargeEnd
  case comparatorTrip n => exact k.comparatorTrip n
  case ceilingReached => exact k.ceilingReached
  case configMarkerReceived dt b => exact (ke dt).configMarker hm b
  case configHeaderReceived dt b0 b1 b2 b3 => exact (ke dt).configHeader hm b0 b1 b2 b3
  case configReadComplete dt rest => exact (ke dt).configRest hm rest
  case startTimerExpiry => exact k.startTimer
  case stopTimerExpiry => exact k.stopTimer hm
  case restartDelayExpiry => exact k.restartDelay hm
  case listTimerExpiry => exact k.listTimer
  case lightSeenInTrail dt => exact (ke dt).lightSeenInTrail

theorem step_gridKept {s t : State} (hm : s.modesSound) (h : step s = .next t) : GridKept s t := by
  rcases step_cases s with ⟨-, hs⟩ | ⟨c, rest, -, hs⟩
  · rw [hs] at h
    cases h
    exact .refl s
  · rw [hs] at h
    exact GridKept.trans (s := { s with pending := rest }) (GridKept.refl s) (exec_gridKept (by exact hm) h)

/-- Settles O58: every command is made of moves of the arbiter and of the yaw states, each of which keeps the table of 6.5
and the budget, and of what is neither's; the image and the timers of the OSC need the modes to be sound. -/
theorem stepsKeepYawAndPowerSound : Obligations.StepsKeepYawAndPowerSound := by
  refine ⟨fun s t hm hy h => ?_, fun s t hm hy hp h => ?_⟩
  all_goals obtain ⟨hyaw, hpower⟩ := step_gridKept hm h
  · exact hyaw hy
  · exact hpower hy hp

end Sys2Proof.Machine
end

section
/-! SUPPORT. The end of a move, field by field: IDLE, a request withdrawn, a move stopped (R109, R112, R115, R119 to R122). -/

namespace Sys2Proof.Machine

/-! ## What the arbiter leaves of the fault manager -/

section
variable (s : State)

@[simp] theorem State.grantFan_flm : s.grantFan.flm = s.flm := by
  simp only [State.grantFan]
  split <;> rfl

@[simp] theorem State.tryFan_flm : s.tryFan.flm = s.flm := by
  simp only [State.tryFan]
  split <;> simp

@[simp] theorem State.takeBackFans_flm (n : Nat) : (s.takeBackFans n).flm = s.flm := by
  induction n generalizing s with
  | zero => rfl
  | succ n ih =>
    simp only [State.takeBackFans]
    split <;> simp [ih]

@[simp] theorem State.shed_flm : s.shed.flm = s.flm := by simp [State.shed]

theorem releaseYaw_flm {s : State} (hr : s.apa.yawRequest = none) : s.releaseYaw.flm = s.flm := by
  simp only [State.releaseYaw]
  split <;> rw [tryRequests_of_none (by simpa using hr)] <;> simp

end

/-! ## The return to IDLE (R109, R112, R121, R122) -/

/-- R109, R112, R121, R122: the YWC back in IDLE at `now`, the brake release failed or not. -/
def Ywc.idled (y : Ywc) (now : Clocks) (failed : Bool) : Ywc :=
  { y.clearWindow with
    state := .idle, move := none, offsetInUse := 0, steering := false, waitDue := none
    retryDue := if failed then some (y.retryDue.getD (now + ms 60000)) else y.retryDue }

theorem yawToIdle_eq (s : State) : s.yawToIdle =
    { s with ywc := s.ywc.idled s.clock (s.flm.holds .brakeReleaseFail), flm := s.flm.goneIf s.stamp .yawStall } := by
  have hfail : (s.flm.goneIf s.stamp .yawStall).holds .brakeReleaseFail = s.flm.holds .brakeReleaseFail :=
    Flm.goneIf_holds_other _ _ (by decide)
  simp only [State.yawToIdle, quietGone_eq]
  change (if (s.flm.goneIf s.stamp .yawStall).holds .brakeReleaseFail = true ∧ s.ywc.retryDue.isNone = true then _ else _) = _
  rw [hfail]
  cases s.flm.holds .brakeReleaseFail with
  | false => exact if_neg fun h => Bool.false_ne_true h.1
  | true =>
    cases hd : s.ywc.retryDue with
    | none =>
      simp only [Ywc.idled, hd]
      exact if_pos ⟨trivial, rfl⟩
    | some d =>
      have hkept : some ((some d).getD (s.clock + ms 60000)) = s.ywc.retryDue := hd.symm
      rw [if_neg fun h => by simp at h]
      simp only [Ywc.idled, if_true, hd]
      rw [hkept]
      rfl

/-- R121: the grant of a stopped move is released. -/
theorem endMove_parts {s : State} (hr : s.apa.yawRequest = none) :
    s.endMove.ywc = s.ywc.idled s.clock (s.flm.holds .brakeReleaseFail) ∧ s.endMove.apa.yawGranted = 0 ∧
      s.endMove.apa.yawRequest = none ∧ s.endMove.flm = s.flm.goneIf s.stamp .yawStall := by
  obtain ⟨hgrant, hreq⟩ := releaseYaw_apa hr
  have hstamp : s.releaseYaw.stamp = s.stamp := by rw [State.stamp, State.releaseYaw_clock, State.stamp]
  rw [State.endMove, yawToIdle_eq]
  simp only [releaseYaw_ywc hr, releaseYaw_flm hr, hstamp, State.releaseYaw_clock]
  exact ⟨trivial, hgrant, hreq, trivial⟩

/-- R115: what a withdrawal leaves. -/
theorem withdrawYaw_parts (s : State) :
    s.withdrawYaw.ywc = s.ywc.idled s.clock (s.flm.holds .brakeReleaseFail) ∧ s.withdrawYaw.apa.yawRequest = none ∧
      s.withdrawYaw.apa.yawGranted = s.apa.yawGranted ∧
      s.withdrawYaw.flm = (s.flm.goneIf s.stamp .yawWaitPower).goneIf s.stamp .yawStall := by
  let u : State := s.setApa { s.apa with yawRequest := none }
  have hw : s.withdrawYaw = (u.tryFan.quietGone .yawWaitPower).yawToIdle := by
    rw [State.withdrawYaw, tryRequests_of_none rfl]
  have hfail : (s.flm.goneIf s.stamp .yawWaitPower).holds .brakeReleaseFail = s.flm.holds .brakeReleaseFail :=
    Flm.goneIf_holds_other _ _ (by decide)
  have hstamp : u.tryFan.stamp = s.stamp := by rw [State.stamp, State.tryFan_clock]; rfl
  rw [hw, yawToIdle_eq, quietGone_eq, hstamp, State.tryFan_flm]
  refine ⟨?_, by simp [u], by simp [u], ?_⟩
  · simp only [State.setFlm_ywc, State.setFlm_clock, State.setFlm_flm, State.tryFan_ywc, State.tryFan_clock]
    exact congrArg (s.ywc.idled s.clock) hfail
  · exact congrArg (Flm.goneIf _ · .yawStall) hstamp

/-- R115: YAW_WAIT_POWER ends with the request. -/
theorem withdrawYaw_waitPower (s : State) : s.withdrawYaw.flm.holds .yawWaitPower = false := by
  obtain ⟨-, -, -, hflm⟩ := withdrawYaw_parts s
  rw [hflm, Flm.goneIf_holds_other _ _ (by decide), Flm.goneIf_holds]

/-! ## A stop (R119, R121) -/

/-- R119: a stop cause in BRAKE_RELEASE and in MOVING. -/
theorem yawStopCause_turning {s : State} (hs : s.ywc.state = .brakeRelease ∨ s.ywc.state = .moving) (b : Bool) :
    s.yawStopCause b = s.enterBrakeApply := by
  rcases hs with hs | hs <;> simp [State.yawStopCause, hs]

/-- R119: elsewhere a stop cause is none, but for a request that waits. -/
theorem yawStopCause_still {s : State} (hs : s.ywc.state = .idle ∨ s.ywc.state = .brakeApply) (b : Bool) :
    s.yawStopCause b = s := by
  rcases hs with hs | hs <;> simp [State.yawStopCause, hs]

theorem yawStopCause_requestPower {s : State} (hs : s.ywc.state = .requestPower) : s.yawStopCause true = s.withdrawYaw := by
  simp [State.yawStopCause, hs]

section
variable {s : State} (hr : s.apa.yawRequest = none)
include hr

/-- R121: a stopped move, in the terms of the statements. -/
theorem enterBrakeApply_stopped : s.stopped s.enterBrakeApply := by
  rw [enterBrakeApply_eq]
  cases hb : s.ywc.brakeIn
  · obtain ⟨hywc, hgranted, -⟩ := endMove_parts (s := s.braked) hr
    rw [if_neg Bool.false_ne_true, State.stopped, hb, if_neg Bool.false_ne_true, hywc]
    exact ⟨rfl, rfl, rfl, rfl, hgranted⟩
  · rw [if_pos rfl, State.stopped, hb, if_pos rfl]
    exact ⟨rfl, rfl, rfl, rfl⟩

/-- R121: where a stop leads. -/
theorem enterBrakeApply_state : s.enterBrakeApply.ywc.state = if s.ywc.brakeIn then .brakeApply else .idle := by
  obtain ⟨-, -, hstate⟩ := enterBrakeApply_ywc hr
  exact hstate

theorem enterBrakeApply_flm : s.enterBrakeApply.flm =
    if s.ywc.brakeIn then s.flm else s.flm.goneIf s.stamp .yawStall := by
  rw [enterBrakeApply_eq]
  split
  · rfl
  · obtain ⟨-, -, -, hflm⟩ := endMove_parts (s := s.braked) hr
    exact hflm

end

/-- R121: what is stopped is stopped from the station as it was before a change of other things. -/
theorem stopped_of {r s t : State} (hbrake : s.ywc.brakeIn = r.ywc.brakeIn) (hgrant : s.apa.yawGranted = r.apa.yawGranted)
    (h : s.stopped t) : r.stopped t := by
  rw [State.stopped, ← hbrake, ← hgrant]
  exact h

/-! ## YAW HOLD and YAW RELEASE (R115, R119, R121, R129) -/

/-- Settles O24: the hold set, and the stop cause as each yaw state takes it. -/
theorem yawHoldAndRelease : Obligations.YawHoldAndRelease := by
  intro heard h corrected s u
  refine ⟨fun hc => ?_, fun hc => exec_carriedOut none hc (badCommand_plain s (by decide))⟩
  have hexec : exec (.yawHold heard) s = .next (u.yawHold.answered h .accepted 0) :=
    exec_carriedOut none hc (badCommand_plain s (by decide))
  have hslc : u.yawHold.slc = u.slc := commandOwner_slc none (code := 3) (by decide) 0 15 u
  have hreply : (u.yawHold.answered h .accepted 0).slc = (u.answered h .accepted 0).slc := by
    simp only [State.answered, hslc]
  refine ⟨fun hs => ?_, fun hs => ⟨_, hexec, yawHold_hold u, ?_⟩, fun hs hsound => ⟨_, hexec, yawHold_hold u, ?_⟩⟩
  · have hstill : u.yawHold = { u with ywc := { u.ywc with hold := true } } := yawHold_still hs
    rw [hexec, hstill]
  · have hwithdrawn : u.yawHold = (u.setYwc { u.ywc with hold := true }).withdrawYaw :=
      yawStopCause_requestPower (s := u.setYwc { u.ywc with hold := true }) hs
    obtain ⟨hywc, hreq, -⟩ := withdrawYaw_parts (u.setYwc { u.ywc with hold := true })
    have hwait := withdrawYaw_waitPower (u.setYwc { u.ywc with hold := true })
    rw [← hwithdrawn] at hywc hreq hwait
    refine ⟨?_, ?_, ?_, hreq, hwait, hreply⟩
    all_goals exact (congrArg _ hywc).trans rfl
  · obtain ⟨hout, hen, hstate⟩ := yawHold_turning (s := u) hs (yawRequest_of_turning hsound hs)
    exact ⟨hout, hen, hreply, hstate⟩

end Sys2Proof.Machine
end

section
/-! SUPPORT. The examination of a yaw request that waits, and UNTWIST (R115, R116, R130, R131, R162 to R164). -/

namespace Sys2Proof.Machine

/-! ## The turn of the yaw request (R162 to R164) -/

/-- R162: the state in which the yaw request is tried. -/
def State.yawTurn (s : State) : State := if s.yawPrecedes then s else s.tryFan

section
variable (s : State)

@[simp] theorem State.yawTurn_ywc : s.yawTurn.ywc = s.ywc := by
  simp only [State.yawTurn]
  split <;> simp

@[simp] theorem State.yawTurn_flm : s.yawTurn.flm = s.flm := by
  simp only [State.yawTurn]
  split <;> simp

@[simp] theorem State.yawTurn_clock : s.yawTurn.clock = s.clock := by
  simp only [State.yawTurn]
  split <;> simp

@[simp] theorem State.yawTurn_yawRequest : s.yawTurn.apa.yawRequest = s.apa.yawRequest := by
  simp only [State.yawTurn]
  split <;> simp

@[simp] theorem State.yawTurn_yawGranted : s.yawTurn.apa.yawGranted = s.apa.yawGranted := by
  simp only [State.yawTurn]
  split <;> simp

/-- A fan tried after the yaw request is nothing to the YWC. -/
theorem tryRequests_turn : s.tryRequests.ywc = s.yawTurn.tryYaw.ywc ∧
    s.tryRequests.apa.yawGranted = s.yawTurn.tryYaw.apa.yawGranted ∧
    s.tryRequests.apa.yawRequest = s.yawTurn.tryYaw.apa.yawRequest ∧ s.tryRequests.flm = s.yawTurn.tryYaw.flm := by
  simp only [State.tryRequests, State.yawTurn]
  split
  · simp
  · exact ⟨rfl, rfl, rfl, rfl⟩

/-- R162: fans are nothing to the override temperature. -/
theorem tryFan_override (h : s.coolingOverride = false) : s.tryFan.coolingOverride = false := by
  simp only [State.tryFan]
  split
  · have hfan : s.grantFan.apa.fanRequest = false := by
      rw [(grantFan_spec s).1]
    rw [State.coolingOverride, hfan, Bool.false_and]
  · exact h

theorem tryYaw_override : s.tryYaw.coolingOverride = s.coolingOverride := by
  simp only [State.tryYaw]
  split
  · rw [State.coolingOverride, grantYaw_apa, grantYaw_clc]
    rfl
  · rfl

end

/-- R166: without cooling override the requests are all that an examination tries. -/
theorem examine_unoverridden {s : State} (h : s.coolingOverride = false) : s.examine = s.tryRequests := by
  have hafter : s.tryRequests.coolingOverride = false := by
    simp only [State.tryRequests]
    split
    · exact tryFan_override _ (by rw [tryYaw_override, h])
    · rw [tryYaw_override, tryFan_override s h]
  simp only [State.examine, hafter, Bool.false_eq_true, false_and, if_false]

/-- R164: a request that gets at least four motors is granted them. -/
theorem examine_granted {s : State} (ho : s.coolingOverride = false) (hr : s.apa.yawRequest.isSome = true)
    (hk : 4 ≤ s.yawTurn.yawOffer) :
    s.examine.ywc = ({ s.ywc with waitDue := none } : Ywc).enterBrakeRelease s.clock s.yawTurn.yawOffer ∧
      s.examine.apa.yawGranted = s.yawTurn.yawOffer ∧ s.examine.apa.yawRequest = none ∧
      s.examine.flm = s.flm.goneIf s.stamp .yawWaitPower := by
  have htried : s.yawTurn.tryYaw = s.yawTurn.grantYaw s.yawTurn.yawOffer := if_pos ⟨by rw [State.yawTurn_yawRequest, hr], hk⟩
  have hflm : (s.yawTurn.grantYaw s.yawTurn.yawOffer).flm = s.yawTurn.flm.goneIf s.yawTurn.stamp .yawWaitPower := by
    simp only [State.grantYaw, State.setYwc_flm, quietGone_eq]
    rfl
  obtain ⟨hywc, hgranted, hreq, hf⟩ := tryRequests_turn s
  rw [examine_unoverridden ho, hywc, hgranted, hreq, hf, htried, grantYaw_ywc, grantYaw_apa, hflm]
  simp [State.stamp]

/-- R164: else it waits on. -/
theorem examine_waits {s : State} (ho : s.coolingOverride = false) (hk : ¬ 4 ≤ s.yawTurn.yawOffer) :
    s.examine.ywc = s.ywc ∧ s.examine.apa.yawGranted = s.apa.yawGranted ∧ s.examine.apa.yawRequest = s.apa.yawRequest ∧
      s.examine.flm = s.flm := by
  have htried : s.yawTurn.tryYaw = s.yawTurn := if_neg fun h => hk h.2
  obtain ⟨hywc, hgranted, hreq, hf⟩ := tryRequests_turn s
  rw [examine_unoverridden ho, hywc, hgranted, hreq, hf, htried]
  simp

/-! ## A move begun (R115, R116) -/

/-- R116, R117, R120: what the grant moves of the YWC. -/
theorem Ywc.enterBrakeRelease_frame (y : Ywc) (now : Clocks) (k : Nat) :
    y.enterBrakeRelease now k = (let z := y.enterBrakeRelease now k; { y with
      state := z.state, releaseOut := z.releaseOut, releaseDue := z.releaseDue, applyDue := z.applyDue
      stallCount := z.stallCount, stallRef := z.stallRef, direction := z.direction, enables := z.enables
      feedbackDue := z.feedbackDue }) := by
  simp only [Ywc.enterBrakeRelease]
  split <;> rfl

/-- R115, R116: a move has begun in `t` with the YWC of `y` else: it waits for power, releases the brake or turns. -/
def Ywc.begun (y t : Ywc) (m : Move) : Prop :=
  (t.state = .requestPower ∨ t.state = .brakeRelease ∨ t.state = .moving) ∧ t.move = some m ∧
    t.offsetInUse = y.offsetInUse ∧ t.steering = y.steering ∧ t.bypass = y.bypass ∧ t.urgent = y.urgent

theorem enterRequestPower_begun {s : State} (hr : s.apa.yawRequest = none) (ho : s.coolingOverride = false) (m : Move) :
    s.ywc.begun (s.enterRequestPower m).ywc m := by
  rw [enterRequestPower_eq hr]
  have hover : (s.requested m).coolingOverride = false := ho
  by_cases hk : 4 ≤ (s.requested m).yawTurn.yawOffer
  · obtain ⟨hywc, -⟩ := examine_granted hover rfl hk
    have hstate := Ywc.enterBrakeRelease_state (s.requested m).clock (s.requested m).yawTurn.yawOffer
      { (s.requested m).ywc with waitDue := none }
    rw [← hywc] at hstate
    have hframe := Ywc.enterBrakeRelease_frame { (s.requested m).ywc with waitDue := none } (s.requested m).clock
      (s.requested m).yawTurn.yawOffer
    rw [← hywc] at hframe
    refine ⟨?_, ?_⟩
    · rw [hstate]
      split <;> simp
    · rw [hframe]
      exact ⟨rfl, rfl, rfl, rfl, rfl⟩
  · obtain ⟨hywc, -⟩ := examine_waits hover hk
    rw [hywc]
    exact ⟨.inl rfl, rfl, rfl, rfl, rfl, rfl⟩

/-- R115: a move begun is nothing to the link, the converter side and the operating state. -/
theorem enterRequestPower_frame {s : State} (hr : s.apa.yawRequest = none) (m : Move) :
    s.enterRequestPower m = (let t := s.enterRequestPower m
      { s with ywc := t.ywc, clc := t.clc, apa := t.apa, flm := t.flm }) := by
  refine State.eq_of_frame (u := s.enterRequestPower m) (v := s) ?_ ?_ ?_ ?_ ?_ ?_ ?_ ?_ ?_ <;>
    rw [enterRequestPower_eq hr] <;> simp [State.requested, State.drivesChanged]

/-! ## UNTWIST (R130, R131) -/

/-- R130: the nearest whole number of turns, halves away from zero. -/
theorem wholeTurns_nearest (t : Int) : 2 * (t - 3600 * wholeTurns t).natAbs ≤ 3600 ∧
    (2 * (t - 3600 * wholeTurns t).natAbs = 3600 → t.natAbs < (3600 * wholeTurns t).natAbs) := by
  rcases lt_trichotomy t 0 with h | h | h
  · have hn : wholeTurns t = -((2 * t.natAbs + 3600) / 7200 : Nat) := by simp [wholeTurns, Int.sign_eq_neg_one_of_neg h]
    rw [hn]
    omega
  · subst h
    decide
  · have hn : wholeTurns t = ((2 * t.natAbs + 3600) / 7200 : Nat) := by simp [wholeTurns, Int.sign_eq_one_of_pos h]
    rw [hn]
    omega

theorem untwistIdle_iff (s : State) : s.untwistIdle = true ↔ wholeTurns s.ywc.twist = 0 ∨ s.ywc.twistKnown = false ∨
    s.osc.state.isUnloaded = true ∨ s.flm.reaction.untwistYawStop = true := by
  simp [State.untwistIdle, or_assoc]

theorem ownUntwist_idle {s : State} (hs : s.ywc.state = .idle) : s.ownUntwist = ⟨.accepted, s.untwistData, s.untwist⟩ := by
  rw [State.ownUntwist, hs]

/-- Settles O25: the nearest whole turns, and the move that UNTWIST begins. -/
theorem untwistTakesOutWholeTurns : Obligations.UntwistTakesOutWholeTurns := by
  intro heard h corrected s hc hsound ho u
  have hexec : exec (.untwist heard) s = .next (u.ownUntwist.reply h) := exec_carriedOut none hc (badCommand_plain s (by decide))
  split
  · next hbusy =>
    have howner : u.ownUntwist = _ := ownUntwist_busy hbusy
    rw [hexec, howner]
    rfl
  · next hidle =>
    have hstate : u.ywc.state = .idle := not_not.mp hidle
    have howner : u.ownUntwist = _ := ownUntwist_idle hstate
    obtain ⟨hnear, htie⟩ := wholeTurns_nearest s.ywc.twist
    have hiff : u.untwistIdle = true ↔ _ := untwistIdle_iff u
    refine ⟨wholeTurns s.ywc.twist, hnear, htie, ?_⟩
    split
    · next hnone =>
      have hstill : u.untwistIdle = true := hiff.mpr hnone
      rw [hexec, howner, State.untwistData, State.untwist, if_pos hstill, if_pos hstill]
      rfl
    · next hmove =>
      have hmoves : ¬ u.untwistIdle = true := fun k => hmove (hiff.mp k)
      have hr : u.apa.yawRequest = none := by
        have hfit : s.yawFits s.osc.state.isUnloaded := hsound
        exact hfit.unrequested (by rw [not_not.mp hidle]; decide)
      obtain ⟨hstates, hbegun, hoffset, -⟩ := enterRequestPower_begun hr (by exact ho) u.untwistMove
      have hframe := enterRequestPower_frame hr u.untwistMove
      have hslc := congrArg State.slc hframe
      have hdata : u.untwistData = BitVec.ofInt 16 (wholeTurns s.ywc.twist) := if_neg hmoves
      have hnext : u.ownUntwist.reply h =
          (u.enterRequestPower u.untwistMove).answered h .accepted (BitVec.ofInt 16 (wholeTurns s.ywc.twist)) := by
        rw [howner, hdata, State.untwist, if_neg hmoves]
        rfl
      refine ⟨_, u.untwistMove, hexec, ?_, rfl, rfl, rfl, rfl, ?_, ?_, ?_, ?_⟩
      all_goals rw [hnext]
      · exact hbegun
      · exact hstates
      · exact hoffset
      · simp only [State.answered, hslc]
      · generalize u.enterRequestPower u.untwistMove = t at hframe ⊢
        rw [hframe]
        rfl

end Sys2Proof.Machine
end

section
/-! SUPPORT. FAULT RESET closes the records, and the operating state follows the trip and the safe stop (R181, R186, R201,
R205, R207). -/

namespace Sys2Proof.Machine

section
variable {s : State}

/-- R186: the records that can be are closed. -/
def State.closed (s : State) : State := s.setFlm (s.flm.faultReset s.stamp)

/-- R181: of the reaction only the end of trip is told. -/
theorem closeCleared_ceases (s : State) : s.closeCleared =
    (if s.flm.reaction.trip = true ∧ s.closed.flm.reaction.trip = false then s.closed.oscTripCeases else s.closed).leaveSafeStop := by
  have htell := tell_of_within (s := s.closed) (faultReset_within s.flm s.stamp)
  have hcease : (s.flm.reaction.trip && !s.closed.flm.reaction.trip) = true ↔
      s.flm.reaction.trip = true ∧ s.closed.flm.reaction.trip = false := by simp
  rw [if_congr hcease rfl rfl] at htell
  exact congrArg State.leaveSafeStop htell

theorem leaveSafeStop_other (hs : s.osc.state ≠ .safeStop) : s.leaveSafeStop = s := if_neg fun h => hs h.1

theorem leaveSafeStop_safeStop (hs : s.osc.state = .safeStop) :
    s.leaveSafeStop = if s.flm.reaction.safeStop = true then s else s.standby := by
  rw [State.leaveSafeStop, hs, enterStandby_eq_standby]
  cases s.flm.reaction.safeStop <;> rfl

/-! R205, R207: the operating state by that before. -/

theorem closeCleared_tripped (hs : s.osc.state = .tripped) : s.closeCleared =
    if s.flm.reaction.trip = true ∧ s.closed.flm.reaction.trip = false then
      s.closed.setOsc { s.osc with restartDue := some (s.clock + ms 60000) }
    else s.closed := by
  have hceases : s.closed.oscTripCeases = s.closed.setOsc { s.osc with restartDue := some (s.clock + ms 60000) } := by
    simp only [State.oscTripCeases, State.closed, State.setFlm_osc, hs]
    rfl
  have hother : s.osc.state ≠ .safeStop := by rw [hs]; decide
  rw [closeCleared_ceases, hceases]
  split <;> exact leaveSafeStop_other hother

theorem closeCleared_standby (hs : s.osc.state = .standby) : s.closeCleared =
    if s.flm.reaction.trip = true ∧ s.closed.flm.reaction.trip = false then s.closed.tested else s.closed := by
  have hceases : s.closed.oscTripCeases = s.closed.tested := by
    have htest : s.closed.testStart = s.closed.tested := testStart_eq_tested hs
    simp only [State.oscTripCeases, State.closed, State.setFlm_osc, hs]
    exact htest
  have hstay : s.closed.tested.osc.state ≠ .safeStop := by
    have hother : s.closed.osc.state ≠ .safeStop := by rw [State.closed, State.setFlm_osc, hs]; decide
    rw [State.tested]
    split
    · exact (by decide : OpState.starting ≠ .safeStop)
    · exact hother
  rw [closeCleared_ceases, hceases]
  split
  · exact leaveSafeStop_other hstay
  · exact leaveSafeStop_other (by rw [State.closed, State.setFlm_osc, hs]; decide)

theorem closeCleared_safeStop (hs : s.osc.state = .safeStop) :
    s.closeCleared = if s.closed.flm.reaction.safeStop = true then s.closed else s.closed.standby := by
  have hceases : s.closed.oscTripCeases = s.closed := by
    simp only [State.oscTripCeases, State.closed, State.setFlm_osc, hs]
  rw [closeCleared_ceases, hceases, ite_self]
  exact leaveSafeStop_safeStop hs

theorem closeCleared_other (ht : s.osc.state ≠ .tripped) (hb : s.osc.state ≠ .standby) (hs : s.osc.state ≠ .safeStop) :
    s.closeCleared = s.closed := by
  have hceases : s.closed.oscTripCeases = s.closed := by
    simp only [State.oscTripCeases]
    split
    case h_1 h => exact absurd h ht
    case h_2 h => exact absurd h hb
    all_goals rfl
  rw [closeCleared_ceases, hceases, ite_self]
  exact leaveSafeStop_other hs

end

theorem resettableCount_eq (f : Flm) : f.resettableCount =
    (f.opens.filter fun r => r.state == .openCleared && r.code != .configInvalid).length := rfl

/-- Settles O26: the records closed, and the operating state by that before. -/
theorem faultResetClosesTheCleared : Obligations.FaultResetClosesTheCleared := by
  intro heard h corrected zone s hc v closing
  have howner : commandOwner zone 6 0 h.sender (s.afterFrame heard corrected) =
      ⟨.accepted, BitVec.ofNat 16 (v.flm.opens.filter closing).length, v.closeCleared⟩ := by
    simp only [commandOwner, State.ownFaultReset, resettableCount_eq, v, closing]
  have hexec : exec (.faultReset heard zone) s =
      .next (v.closeCleared.answered h .accepted (BitVec.ofNat 16 (v.flm.opens.filter closing).length)) := by
    have hrow : exec (.faultReset heard zone) s = _ := exec_carriedOut zone hc (badCommand_plain s (by decide))
    rw [hrow, howner, Answer.reply, if_pos rfl]
  clear_value v
  have heq := closeCleared_eq v
  have hslc : v.closeCleared.slc = v.slc := by rw [heq]
  have hflm : v.closeCleared.flm = v.flm.faultReset v.stamp := by rw [heq]
  refine ⟨_, hexec, ?_⟩
  have hanswer : (v.closeCleared.answered h .accepted (BitVec.ofNat 16 (v.flm.opens.filter closing).length)).flm =
      v.flm.faultReset v.stamp := hflm
  rw [hanswer]
  refine ⟨rfl, rfl, rfl, rfl, ?_, ?_, ?_⟩
  · simp only [State.answered, hslc]
  · change v.closeCleared.osc = _
    cases hs : v.osc.state
    case tripped =>
      rw [closeCleared_tripped hs]
      rfl
    case standby =>
      rw [closeCleared_standby hs]
      rfl
    case safeStop =>
      rw [closeCleared_safeStop hs]
      rfl
    all_goals
      rw [closeCleared_other (by rw [hs]; decide) (by rw [hs]; decide) (by rw [hs]; decide)]
      rfl
  · generalize v.closeCleared = t at heq hflm ⊢
    rw [heq]
    rfl

end Sys2Proof.Machine
end

section
/-! SUPPORT. What a report leaves of the YWC, the CLC and the APA, and of the condition of every other code (R172, R178, R181). -/

namespace Sys2Proof.Machine

/-! ## Reports that reach neither the YWC nor the arbiter -/

/-- From `s` to `t` nothing has reached the YWC, the CLC and the APA, and the image is loaded or not as before. -/
structure State.Undisturbed (s t : State) : Prop where
  clock : t.clock = s.clock
  ywc : t.ywc = s.ywc
  clc : t.clc = s.clc
  apa : t.apa = s.apa
  unloaded : t.osc.state.isUnloaded = s.osc.state.isUnloaded

namespace State.Undisturbed
variable {r s t : State}

theorem refl (s : State) : s.Undisturbed s := ⟨rfl, rfl, rfl, rfl, rfl⟩

theorem trans (h : r.Undisturbed s) (g : s.Undisturbed t) : r.Undisturbed t :=
  ⟨g.clock.trans h.clock, g.ywc.trans h.ywc, g.clc.trans h.clc, g.apa.trans h.apa, g.unloaded.trans h.unloaded⟩

theorem ite {c : Prop} [Decidable c] (h : r.Undisturbed s) (g : r.Undisturbed t) : r.Undisturbed (if c then s else t) := by
  split
  · exact h
  · exact g

theorem setFlm (s : State) (f : Flm) : s.Undisturbed (s.setFlm f) := ⟨rfl, rfl, rfl, rfl, rfl⟩

theorem footing (h1 : t.clock = s.clock) (h2 : t.ywc = s.ywc) (h3 : t.clc = s.clc) (h4 : t.apa = s.apa)
    (h5 : t.footing = s.footing) : s.Undisturbed t := ⟨h1, h2, h3, h4, congrArg Footing.unloaded h5⟩

/-- R181: of what is told, only a stop cause reaches the three blocks. -/
theorem tell (h : r.Undisturbed s) {before : Reaction} (hstop : yawStopArises before s.flm.reaction s.ywc.move = false) :
    r.Undisturbed (s.tell before) := by
  have hholds (u : State) : u.Undisturbed u.oscTripHolds :=
    footing u.oscTripHolds_clock u.oscTripHolds_ywc u.oscTripHolds_clc u.oscTripHolds_apa u.oscTripHolds_footing
  have hsafe (u : State) : u.Undisturbed u.oscSafeStopHolds :=
    footing u.oscSafeStopHolds_clock u.oscSafeStopHolds_ywc u.oscSafeStopHolds_clc u.oscSafeStopHolds_apa
      u.oscSafeStopHolds_footing
  have hceases (u : State) : u.Undisturbed u.oscTripCeases :=
    footing u.oscTripCeases_clock u.oscTripCeases_ywc u.oscTripCeases_clc u.oscTripCeases_apa u.oscTripCeases_footing
  simp only [State.tell, hstop, Bool.false_eq_true, if_false]
  have htrip := ite (c := s.flm.reaction.trip && !before.trip) (h.trans (hholds s)) h
  generalize (if s.flm.reaction.trip && !before.trip then s.oscTripHolds else s) = u at htrip ⊢
  have hstopped := ite (c := s.flm.reaction.safeStop && !before.safeStop) (htrip.trans (hsafe u)) htrip
  generalize (if s.flm.reaction.safeStop && !before.safeStop then u.oscSafeStopHolds else u) = v at hstopped ⊢
  exact ite (hstopped.trans (hceases v)) hstopped

end State.Undisturbed

/-- R178, R180: a gone report lets no stop cause come to hold. -/
theorem yawStopArises_gone (f : Flm) (now : Stamp) (c : FaultCode) (m : Option Move) :
    yawStopArises f.reaction (f.take now (.gone c)).reaction m = false := by
  have hstop := f.any_of_take_gone_any now (q := fun d => d.severity.stopsYaw) (c := c)
  have huntwist := f.any_of_take_gone_any now (q := fun d => d.severity.stopsYaw && d != .twistHardLimit) (c := c)
  rw [yawStopArises]
  split
  · exact and_not_of_imp huntwist
  · exact and_not_of_imp hstop

/-- R180: a report of a code without yaw stop and safe stop does not either. -/
theorem yawStopArises_other (f : Flm) (now : Stamp) {r : Report} (hr : r.code.severity.stopsYaw = false) (m : Option Move) :
    yawStopArises f.reaction (f.take now r).reaction m = false := by
  have hstop := Flm.take_any (fun c => c.severity.stopsYaw) f now r hr
  have huntwist := Flm.take_any (fun c => c.severity.stopsYaw && c != .twistHardLimit) f now r (by simp [hr])
  rw [yawStopArises]
  split
  · exact and_not_of_imp fun h => huntwist.symm.trans h
  · exact and_not_of_imp fun h => hstop.symm.trans h

section
variable (s : State)

theorem report_gone_undisturbed (c : FaultCode) : s.Undisturbed (s.report (.gone c)) :=
  (State.Undisturbed.setFlm s _).tell (s := s.quiet (.gone c)) (yawStopArises_gone _ _ _ _)

theorem report_other_undisturbed {r : Report} (hr : r.code.severity.stopsYaw = false) : s.Undisturbed (s.report r) :=
  (State.Undisturbed.setFlm s _).tell (s := s.quiet r) (yawStopArises_other _ _ hr _)

theorem reportGone_undisturbed (c : FaultCode) : s.Undisturbed (s.reportGone c) :=
  .ite (report_gone_undisturbed s c) (.refl s)

/-- R119: in IDLE and in BRAKE_APPLY a stop cause finds no move. -/
theorem report_still_undisturbed (hs : s.ywc.state = .idle ∨ s.ywc.state = .brakeApply) (r : Report) :
    s.Undisturbed (s.report r) := by
  by_cases harises : yawStopArises s.flm.reaction (s.quiet r).flm.reaction (s.quiet r).ywc.move = true
  · have hstill : (s.quiet r).yawStopCause true = s.quiet r := yawStopCause_still (s := s.quiet r) hs true
    have htell : (s.quiet r).tell s.flm.reaction = (s.quiet r).tell
        { s.flm.reaction with
          yawStop := (s.quiet r).flm.reaction.yawStop, untwistYawStop := (s.quiet r).flm.reaction.untwistYawStop } := by
      simp only [State.tell, harises, if_true, hstill]
      simp [yawStopArises]
    rw [State.report, htell]
    exact (State.Undisturbed.setFlm s _).tell (s := s.quiet r) (by simp [yawStopArises])
  · exact (State.Undisturbed.setFlm s _).tell (s := s.quiet r) (Bool.eq_false_iff.mpr harises)

end

/-! ## The conditions of the codes (R172) -/

section
variable {s : State} {c : FaultCode} (hc : c.incidental = false)
include hc

theorem report_present_holds (v : Int) : (s.report (.present c v)).flm.holds c = true :=
  (State.report_holds s hc _).trans (s.flm.takePresent_holds _ c v)

theorem report_holds_other {r : Report} (hr : r.code ≠ c) : (s.report r).flm.holds c = s.flm.holds c :=
  congrArg Landing.holds (State.report_landing s hc hr)

theorem reportGone_holds_other {d : FaultCode} (hd : d ≠ c) : (s.reportGone d).flm.holds c = s.flm.holds c :=
  congrArg Landing.holds (State.reportGone_landing s hc hd)

end

end Sys2Proof.Machine
end

section
/-! SUPPORT. The reviews that FAULT RESET makes: the twist, the pumps and the fans (R125 to R128, R138 to R140, R150). -/

namespace Sys2Proof.Machine

/-! ## The twist taken and compared (R125 to R127) -/

section
variable {s : State}

/-- R126: in IDLE and in BRAKE_APPLY a twist that is taken stops nothing. -/
theorem takeTwist_undisturbed (hs : s.ywc.state = .idle ∨ s.ywc.state = .brakeApply) (x : Int) :
    (s.setYwc { s.ywc with twist := saturateTwist x }).Undisturbed (s.takeTwist x) := by
  have hset : (s.setYwc { s.ywc with twist := saturateTwist x }).ywc.state = .idle ∨
      (s.setYwc { s.ywc with twist := saturateTwist x }).ywc.state = .brakeApply := hs
  exact .ite (report_still_undisturbed _ hset _) (.ite (reportGone_undisturbed _ _) (.refl _))

theorem compareHardLimit_undisturbed (hs : s.ywc.state = .idle ∨ s.ywc.state = .brakeApply) :
    s.Undisturbed s.compareHardLimit :=
  .ite (.ite (.refl s) (report_still_undisturbed s hs _)) (reportGone_undisturbed s _)

variable (s)

/-- R126: TWIST_RANGE follows the twist. -/
theorem takeTwist_range (x : Int) : (10800 < x.natAbs → (s.takeTwist x).flm.holds .twistRange = true) ∧
    (x.natAbs < 10800 → (s.takeTwist x).flm.holds .twistRange = false) := by
  simp only [State.takeTwist]
  refine ⟨fun h => ?_, fun h => ?_⟩
  · rw [if_pos h]
    exact report_present_holds rfl x
  · rw [if_neg (by omega), if_pos h]
    exact State.reportGone_holds _ rfl

theorem takeTwist_holds_other {c : FaultCode} (hc : c.incidental = false) (h : c ≠ .twistRange) (x : Int) :
    (s.takeTwist x).flm.holds c = s.flm.holds c := by
  simp only [State.takeTwist]
  split
  · exact report_holds_other hc h.symm
  · split
    · exact reportGone_holds_other hc h.symm
    · rfl

/-- R127: TWIST_HARD_LIMIT follows the twist. -/
theorem compareHardLimit_holds : s.compareHardLimit.flm.holds .twistHardLimit = true ↔
    s.ywc.params.hardLimit < s.ywc.twist.natAbs := by
  simp only [State.compareHardLimit]
  split
  · next h =>
    split
    · next hheld => simp [h, hheld]
    · simp [h, report_present_holds (s := s) (c := .twistHardLimit) rfl s.ywc.twist]
  · next h => simp [h, State.reportGone_holds s (c := .twistHardLimit) rfl]

theorem compareHardLimit_holds_other {c : FaultCode} (hc : c.incidental = false) (h : c ≠ .twistHardLimit) :
    s.compareHardLimit.flm.holds c = s.flm.holds c := by
  simp only [State.compareHardLimit]
  split
  · split
    · rfl
    · exact report_holds_other hc h.symm
  · exact reportGone_holds_other hc h.symm

end

/-! ## The zone read again (R128) -/

section
variable {s : State}

theorem rereadZone_still (h : ¬ (s.ywc.state = .idle ∧ s.ywc.twistKnown = true)) (zone : Option Int) :
    s.rereadZone zone = s := if_neg h

theorem rereadZone_none (hs : s.ywc.state = .idle) (hk : s.ywc.twistKnown = true) :
    s.Undisturbed (s.rereadZone none) ∧ (s.rereadZone none).flm.holds .twistUnknown = true := by
  have hread : s.rereadZone none = if s.flm.holds .twistUnknown then s else s.report (.present .twistUnknown 0) :=
    if_pos ⟨hs, hk⟩
  rw [hread]
  split
  · next hheld => exact ⟨.refl s, hheld⟩
  · exact ⟨report_still_undisturbed s (.inl hs) _, report_present_holds rfl 0⟩

/-- R128: what a valid zone comes to. -/
theorem rereadZone_some (hs : s.ywc.state = .idle) (hk : s.ywc.twistKnown = true) (z : Int) :
    s.rereadZone (some z) = (let t := (s.reportGone .twistUnknown).takeTwist (nacelleSigned s.ywc.angle + 3600 * z)
      if t.osc.state.isUnloaded then t else t.compareHardLimit) := if_pos ⟨hs, hk⟩

theorem rereadZone_some_parts (hs : s.ywc.state = .idle) (hk : s.ywc.twistKnown = true) (z : Int) :
    let x := nacelleSigned s.ywc.angle + 3600 * z
    let t := s.rereadZone (some z)
    (s.setYwc { s.ywc with twist := saturateTwist x }).Undisturbed t ∧ t.flm.holds .twistUnknown = false ∧
      (10800 < x.natAbs → t.flm.holds .twistRange = true) ∧ (x.natAbs < 10800 → t.flm.holds .twistRange = false) ∧
      (s.osc.state.isUnloaded = false →
        (t.flm.holds .twistHardLimit = true ↔ s.ywc.params.hardLimit < (saturateTwist x).natAbs)) := by
  intro x t
  let u : State := s.reportGone .twistUnknown
  let v : State := u.takeTwist x
  have hgone : s.Undisturbed u := reportGone_undisturbed s _
  have hset : (s.setYwc { s.ywc with twist := saturateTwist x }).Undisturbed (u.setYwc { u.ywc with twist := saturateTwist x }) :=
    ⟨hgone.clock, by rw [State.setYwc_ywc, hgone.ywc]; rfl, hgone.clc, hgone.apa, hgone.unloaded⟩
  have htaken : (s.setYwc { s.ywc with twist := saturateTwist x }).Undisturbed v :=
    hset.trans (takeTwist_undisturbed (.inl (by rw [hgone.ywc, hs])) x)
  have hunknown : v.flm.holds .twistUnknown = false :=
    (takeTwist_holds_other u rfl (by decide) x).trans (s.reportGone_holds rfl)
  obtain ⟨hover, hwithin⟩ := takeTwist_range u x
  have hstate : v.ywc.state = .idle := by rw [htaken.ywc]; exact hs
  have hparams : v.ywc.params = s.ywc.params := by rw [htaken.ywc]; rfl
  have htwist : v.ywc.twist = saturateTwist x := by rw [htaken.ywc]; rfl
  have ht : t = if v.osc.state.isUnloaded then v else v.compareHardLimit := rereadZone_some hs hk z
  rw [ht]
  split
  · next hu =>
    refine ⟨htaken, hunknown, hover, hwithin, fun hl => ?_⟩
    rw [htaken.unloaded] at hu
    exact absurd (hl.symm.trans hu) Bool.false_ne_true
  · refine ⟨htaken.trans (compareHardLimit_undisturbed (.inl hstate)), ?_, fun h => ?_, fun h => ?_, fun _ => ?_⟩
    · exact (compareHardLimit_holds_other v rfl (by decide)).trans hunknown
    · exact (compareHardLimit_holds_other v rfl (by decide)).trans (hover h)
    · exact (compareHardLimit_holds_other v rfl (by decide)).trans (hwithin h)
    · rw [compareHardLimit_holds, hparams, htwist]

/-- R128: the review of the twist is nothing to the CLC. -/
theorem rereadZone_clc (zone : Option Int) : (s.rereadZone zone).clc = s.clc ∧ (s.rereadZone zone).clock = s.clock := by
  by_cases h : s.ywc.state = .idle ∧ s.ywc.twistKnown = true
  · obtain ⟨hs, hk⟩ := h
    cases zone with
    | none =>
      obtain ⟨hkept, -⟩ := rereadZone_none hs hk
      exact ⟨hkept.clc, hkept.clock⟩
    | some z =>
      obtain ⟨hkept, -⟩ := rereadZone_some_parts hs hk z
      exact ⟨hkept.clc, hkept.clock⟩
  · rw [rereadZone_still h]
    exact ⟨rfl, rfl⟩

theorem rereadZone_coolingLost (zone : Option Int) : (s.rereadZone zone).flm.holds .coolingLost = s.flm.holds .coolingLost := by
  simp only [State.rereadZone]
  split
  · cases zone with
    | none =>
      simp only []
      split
      · rfl
      · exact report_holds_other rfl (show FaultCode.twistUnknown ≠ .coolingLost by decide)
    | some z =>
      have htaken : ((s.reportGone .twistUnknown).takeTwist (nacelleSigned s.ywc.angle + 3600 * z)).flm.holds .coolingLost =
          s.flm.holds .coolingLost :=
        (takeTwist_holds_other _ rfl (by decide) _).trans (reportGone_holds_other rfl (by decide))
      simp only []
      split
      · exact htaken
      · exact (compareHardLimit_holds_other _ rfl (by decide)).trans htaken
  · rfl

end

/-! ## Pumps and fans reviewed (R150) -/

/-- R150: the marks reviewed. -/
def Clc.reviewed (c : Clc) : Clc := { c with pumps := mapTable c.pumps Pump.review, fans := mapTable c.fans Fan.review }

/-- R150: a pump takes duty where none has it. -/
def Clc.resumed (c : Clc) (now : Clocks) : Clc :=
  if c.onDuty then c else (lowest? fun i : Fin 2 => c.pumps[i].state == .standby).elim c (c.takeDuty now)

theorem onDuty_iff (c : Clc) : c.onDuty = true ↔ ∃ p : Fin 2, c.pumps[p].state = .duty := by
  simp [Clc.onDuty, toList_eq_map_finRange]

section
variable (s : State)

/-- R150, R172: COOLING_LOST is gone where a pump takes duty. -/
theorem resumeDuty_parts :
    (s.setClc (s.clc.resumed s.clock)).Undisturbed s.resumeDuty ∧
      (s.clc.onDuty = true → s.resumeDuty.flm.holds .coolingLost = s.flm.holds .coolingLost) ∧
      (s.clc.onDuty = false → (∃ i : Fin 2, s.clc.pumps[i].state = .standby) → s.resumeDuty.flm.holds .coolingLost = false) ∧
      ((∀ i : Fin 2, s.clc.pumps[i].state ≠ .standby) → s.resumeDuty.flm.holds .coolingLost = s.flm.holds .coolingLost) := by
  by_cases hd : s.clc.onDuty = true
  · have hsame : s.resumeDuty = s := if_pos hd
    have hclc : s.clc.resumed s.clock = s.clc := if_pos hd
    rw [hsame, hclc]
    exact ⟨.refl s, fun _ => rfl, fun h => absurd (h.symm.trans hd) Bool.false_ne_true, fun _ => rfl⟩
  · cases hl : lowest? fun i : Fin 2 => s.clc.pumps[i].state == .standby with
    | none =>
      have hsame : s.resumeDuty = s := by simp only [State.resumeDuty, if_neg hd, hl]
      have hclc : s.clc.resumed s.clock = s.clc := by simp only [Clc.resumed, if_neg hd, hl, Option.elim_none]
      have hnone := lowest?_none.mp hl
      rw [hsame, hclc]
      refine ⟨.refl s, fun _ => rfl, fun _ ⟨i, hi⟩ => ?_, fun _ => rfl⟩
      have hi' := hnone i
      rw [hi] at hi'
      cases hi'
    | some i =>
      have hgone : s.resumeDuty = (s.setClc (s.clc.takeDuty s.clock i)).reportGone .coolingLost := by
        simp only [State.resumeDuty, if_neg hd, hl]
      have hclc : s.clc.resumed s.clock = s.clc.takeDuty s.clock i := by
        simp only [Clc.resumed, if_neg hd, hl, Option.elim_some]
      rw [hgone, hclc]
      refine ⟨reportGone_undisturbed _ _, fun h => absurd h hd, fun _ _ => State.reportGone_holds _ rfl, fun h => ?_⟩
      exact absurd (by simpa using lowest?_some hl) (h i)

/-- R150: PUMP_FAIL and FAN_FAIL follow the marks. -/
theorem reviewCooling_parts :
    let u := s.setClc s.clc.reviewed
    let t := s.reviewCooling
    u.resumeDuty.Undisturbed t ∧ (t.flm.holds .pumpFail = true ↔ ∃ p : Fin 2, t.clc.pumps[p].state = .failed) ∧
      (t.flm.holds .fanFail = true ↔ ∃ f : Fin 4, t.clc.fans[f].failed = true) ∧
      ∀ c : FaultCode, c.incidental = false → c ≠ .pumpFail → c ≠ .fanFail → t.flm.holds c = u.resumeDuty.flm.holds c := by
  intro u t
  obtain ⟨v, hv⟩ : ∃ v : State, v = u.resumeDuty := ⟨_, rfl⟩
  obtain ⟨w, hw⟩ : ∃ w : State, w = match v.clc.failedPump? with
      | some i => v.report (.present .pumpFail (i.val + 1 : Nat))
      | none => v.reportGone .pumpFail := ⟨_, rfl⟩
  have ht : t = if w.clc.failedFans = 0 then w.reportGone .fanFail else w.report (.present .fanFail w.clc.failedFans) := by
    rw [hw, hv]
    rfl
  have hpump : v.Undisturbed w ∧ (w.flm.holds .pumpFail = true ↔ ∃ p : Fin 2, v.clc.pumps[p].state = .failed) ∧
      ∀ c : FaultCode, c.incidental = false → c ≠ .pumpFail → w.flm.holds c = v.flm.holds c := by
    cases hf : v.clc.failedPump? with
    | none =>
      rw [hf] at hw
      rw [hw]
      refine ⟨reportGone_undisturbed v _, ?_, fun c hc hne => reportGone_holds_other hc hne.symm⟩
      simp only [v.reportGone_holds (c := .pumpFail) rfl, Bool.false_eq_true, false_iff, not_exists]
      exact fun p hp => by simpa [-Fin.getElem_fin, hp] using lowest?_none.mp hf p
    | some i =>
      rw [hf] at hw
      rw [hw]
      refine ⟨report_other_undisturbed v rfl, ?_, fun c hc hne => report_holds_other hc hne.symm⟩
      have hi : v.clc.pumps[i].state = .failed := by simpa using lowest?_some hf
      exact ⟨fun _ => ⟨i, hi⟩, fun _ => report_present_holds rfl _⟩
  obtain ⟨hsame, hholds, hother⟩ := hpump
  have hmarks : w.clc.failedFans = 0 ↔ ∀ f : Fin 4, w.clc.fans[f].failed = false := by
    have hsum : w.clc.failedFans = bitSum fun f : Fin 4 => w.clc.fans[f].failed := bitmap_eq_sum _
    rw [hsum]
    refine ⟨fun h f => ?_, fun h => bitSum_eq_zero h⟩
    by_contra hf
    exact bitSum_ne_zero (by simpa using hf) h
  have hfan : w.Undisturbed t ∧ (t.flm.holds .fanFail = true ↔ ∃ f : Fin 4, w.clc.fans[f].failed = true) ∧
      ∀ c : FaultCode, c.incidental = false → c ≠ .fanFail → t.flm.holds c = w.flm.holds c := by
    rw [ht]
    split
    · next hzero =>
      refine ⟨reportGone_undisturbed w _, ?_, fun c hc hne => reportGone_holds_other hc hne.symm⟩
      simp only [w.reportGone_holds (c := .fanFail) rfl, Bool.false_eq_true, false_iff, not_exists]
      exact fun f hf => by rw [hmarks.mp hzero f] at hf; cases hf
    · next hsome =>
      refine ⟨report_other_undisturbed w rfl, ?_, fun c hc hne => report_holds_other hc hne.symm⟩
      have hex : ∃ f : Fin 4, w.clc.fans[f].failed = true := by
        by_contra hnone
        exact hsome (hmarks.mpr fun f => Bool.eq_false_iff.mpr fun hf => hnone ⟨f, hf⟩)
      exact ⟨fun _ => hex, fun _ => report_present_holds rfl _⟩
  obtain ⟨hsame', hholds', hother'⟩ := hfan
  rw [← hv]
  refine ⟨hsame.trans hsame', ?_, ?_, fun c hc h1 h2 => (hother' c hc h2).trans (hother c hc h1)⟩
  · rw [hother' .pumpFail rfl (by decide), hholds, hsame'.clc, hsame.clc]
  · rw [hholds', hsame'.clc]

end

/-! ## The pumps after the review (R150) -/

section
variable {c : Clc}

theorem reviewed_pump (p : Fin 2) : c.reviewed.pumps[p] = c.pumps[p].review := mapTable_get _ _ _

theorem review_of_running {p : Pump} (h : p.runIn = true) : p.review = p := if_neg fun k => by simp [h] at k

theorem review_of_good {p : Pump} (h : p.state ≠ .failed) : p.review = p := if_neg fun k => h k.1

theorem review_back {p : Pump} (hs : p.state = .failed) (hr : p.runIn = false) :
    p.review = { p with state := .standby, feedbackDue := none } := if_pos ⟨hs, by simp [hr]⟩

theorem review_duty_iff (p : Pump) : p.review.state = .duty ↔ p.state = .duty := by
  by_cases hs : p.state = .failed
  · by_cases hr : p.runIn = true
    · rw [review_of_running hr]
    · rw [review_back hs (by simpa using hr), hs]
      exact ⟨fun k => (by cases k), fun k => by cases k⟩
  · rw [review_of_good hs]

/-- R150: with no pump on duty, those that stand by are those that may take it. -/
theorem review_standby_iff {p : Pump} (h : p.state ≠ .duty) : p.review.state = .standby ↔ p.state = .standby ∨ p.runIn = false := by
  by_cases hs : p.state = .failed
  · by_cases hr : p.runIn = true
    · rw [review_of_running hr, hs, hr]
      simp
    · rw [review_back hs (by simpa using hr)]
      simp [hr]
  · rw [review_of_good hs]
    have hstandby : p.state = .standby := by
      cases hp : p.state
      · exact absurd hp h
      · rfl
      · exact absurd hp hs
    simp [hstandby]

theorem review_runIn (p : Pump) : p.review.runIn = p.runIn := by
  simp only [Pump.review]
  split <;> rfl

theorem takeDuty_pump (now : Clocks) (i p : Fin 2) : (c.takeDuty now i).pumps[p] =
    if i = p then c.pumps[p].change now { c.pumps[p] with state := .duty } else c.pumps[p] := update_get _ _ _ _

/-- R138, R150: a standby pump on duty. -/
theorem change_to_duty {p : Pump} (now : Clocks) (hs : p.state = .standby) : p.change now { p with state := .duty } =
    { state := .duty, runIn := p.runIn, feedbackDue := if p.runIn = true then none else some (now + ms 2000) } := by
  cases hr : p.runIn <;> simp [Pump.change, Pump.disagrees, hs, hr, monitor]

end

/-! ## FAULT RESET (R128, R150) -/

section
variable (c : Clc) (now : Clocks)

theorem resumed_onDuty (h : c.onDuty = true) : c.resumed now = c := if_pos h

theorem resumed_takes {i : Fin 2} (hd : ∀ p : Fin 2, c.pumps[p].state ≠ .duty)
    (hl : (lowest? fun i : Fin 2 => c.pumps[i].state == .standby) = some i) : c.resumed now = c.takeDuty now i := by
  rw [Clc.resumed, if_neg fun h => (onDuty_iff c).mp h |>.elim hd, hl]
  rfl

theorem resumed_none (h : ∀ i : Fin 2, c.pumps[i].state ≠ .standby) : c.resumed now = c := by
  have hl : (lowest? fun i : Fin 2 => c.pumps[i].state == .standby) = none :=
    lowest?_none.mpr fun i => by simpa using h i
  simp only [Clc.resumed, hl, Option.elim_none, ite_self]

theorem resumed_cases : c.resumed now = c ∨
    ∃ i : Fin 2, c.pumps[i].state = .standby ∧ c.resumed now = c.takeDuty now i := by
  simp only [Clc.resumed]
  split
  · exact .inl rfl
  · cases hl : lowest? fun i : Fin 2 => c.pumps[i].state == .standby with
    | none => exact .inl rfl
    | some i => exact .inr ⟨i, by simpa using lowest?_some hl, rfl⟩

/-- R150: a pump that does not stand by is as before. -/
theorem resumed_pump {p : Fin 2} (h : c.pumps[p].state ≠ .standby) : (c.resumed now).pumps[p] = c.pumps[p] := by
  rcases resumed_cases c now with heq | ⟨i, hi, heq⟩ <;> rw [heq]
  have hne : i ≠ p := by
    rintro rfl
    exact h hi
  exact (takeDuty_pump now i p).trans (if_neg hne)

/-- R150: a pump that stands by goes on to, or takes duty. -/
theorem resumed_standby {p : Fin 2} (h : c.pumps[p].state = .standby) :
    (c.resumed now).pumps[p].state = .standby ∨ (c.resumed now).pumps[p].state = .duty := by
  rcases resumed_cases c now with heq | ⟨i, -, heq⟩ <;> rw [heq]
  · exact .inl h
  · rw [takeDuty_pump]
    split
    · exact .inr rfl
    · exact .inl h

theorem resumed_fans : (c.resumed now).fans = c.fans := by
  rcases resumed_cases c now with heq | ⟨i, -, heq⟩ <;> rw [heq]
  rfl

end

/-- R150: a fan comes back where its running input is off. -/
theorem reviewed_fan (c : Clc) (f : Fin 4) : c.reviewed.fans[f].failed = (c.fans[f].failed && c.fans[f].runIn) := by
  have hf : c.reviewed.fans[f] = c.fans[f].review := mapTable_get _ _ _
  rw [hf, Fan.review]
  cases hm : c.fans[f].failed <;> cases c.fans[f].runIn <;> simp [-Fin.getElem_fin, hm]

/-- R150: what the review of the marks leaves of the CLC and of COOLING_LOST. -/
theorem reviewCooling_resumed (s : State) :
    let t := s.reviewCooling
    t.clc = s.clc.reviewed.resumed s.clock ∧ t.ywc = s.ywc ∧
      (s.clc.reviewed.onDuty = true → t.flm.holds .coolingLost = s.flm.holds .coolingLost) ∧
      (s.clc.reviewed.onDuty = false → (∃ i : Fin 2, s.clc.reviewed.pumps[i].state = .standby) →
        t.flm.holds .coolingLost = false) ∧
      ((∀ i : Fin 2, s.clc.reviewed.pumps[i].state ≠ .standby) → t.flm.holds .coolingLost = s.flm.holds .coolingLost) ∧
      (t.flm.holds .pumpFail = true ↔ ∃ p : Fin 2, t.clc.pumps[p].state = .failed) ∧
      (t.flm.holds .fanFail = true ↔ ∃ f : Fin 4, t.clc.fans[f].failed = true) ∧
      ∀ c : FaultCode, c.incidental = false → c ≠ .pumpFail → c ≠ .fanFail → c ≠ .coolingLost →
        t.flm.holds c = s.flm.holds c := by
  intro t
  obtain ⟨hsame, hpump, hfan, hother⟩ := reviewCooling_parts s
  obtain ⟨hkept, hduty, htaken, hnone⟩ := resumeDuty_parts (s.setClc s.clc.reviewed)
  have hresumed (c : FaultCode) (hc : c.incidental = false) (hne : c ≠ .coolingLost) :
      (s.setClc s.clc.reviewed).resumeDuty.flm.holds c = s.flm.holds c := by
    simp only [State.resumeDuty]
    split
    · rfl
    · split
      · exact reportGone_holds_other hc hne.symm
      · rfl
  have ht : s.reviewCooling = t := rfl
  have hlost := hother .coolingLost rfl (by decide) (by decide)
  rw [ht] at hsame hpump hfan hother hlost
  generalize (s.setClc s.clc.reviewed).resumeDuty = w at *
  clear_value t
  exact ⟨hsame.clc.trans hkept.clc, hsame.ywc.trans hkept.ywc, fun h => hlost.trans (hduty h),
    fun h g => hlost.trans (htaken h g), fun h => hlost.trans (hnone h), hpump, hfan,
    fun c hc h1 h2 h3 => (hother c hc h1 h2).trans (hresumed c hc h3)⟩

/-- R128, R150: what the reviews leave of the CLC and of COOLING_LOST. -/
theorem faultReview_parts (s : State) (zone : Option Int) :
    let t := s.faultReview zone
    t.clc = s.clc.reviewed.resumed s.clock ∧ t.ywc = (s.rereadZone zone).ywc ∧
      (s.clc.reviewed.onDuty = true → t.flm.holds .coolingLost = s.flm.holds .coolingLost) ∧
      (s.clc.reviewed.onDuty = false → (∃ i : Fin 2, s.clc.reviewed.pumps[i].state = .standby) →
        t.flm.holds .coolingLost = false) ∧
      ((∀ i : Fin 2, s.clc.reviewed.pumps[i].state ≠ .standby) → t.flm.holds .coolingLost = s.flm.holds .coolingLost) ∧
      (t.flm.holds .pumpFail = true ↔ ∃ p : Fin 2, t.clc.pumps[p].state = .failed) ∧
      (t.flm.holds .fanFail = true ↔ ∃ f : Fin 4, t.clc.fans[f].failed = true) ∧
      ∀ c : FaultCode, c.incidental = false → c ≠ .pumpFail → c ≠ .fanFail → c ≠ .coolingLost →
        t.flm.holds c = (s.rereadZone zone).flm.holds c := by
  obtain ⟨hclc, hclock⟩ := rereadZone_clc (s := s) zone
  have hlost : (s.rereadZone zone).flm.holds .coolingLost = s.flm.holds .coolingLost := rereadZone_coolingLost zone
  have hparts := reviewCooling_resumed (s.rereadZone zone)
  simp only [hclc, hclock, hlost] at hparts
  simp only [State.faultReview]
  exact hparts

/-- Settles O27: the zone read again, then the marks of the pumps and of the fans. -/
theorem faultResetReviewsTheMarks : Obligations.FaultResetReviewsTheMarks := by
  intro zone s
  have hparts := faultReview_parts s zone
  generalize s.faultReview zone = t at hparts ⊢
  obtain ⟨hclc, hywc, hduty, htaken, hnone, hpump, hfan, hother⟩ := hparts
  have hdutyIff : s.clc.reviewed.onDuty = true ↔ ∃ p : Fin 2, s.clc.pumps[p].state = .duty := by
    rw [onDuty_iff]
    exact exists_congr fun p => by rw [reviewed_pump, review_duty_iff]
  have hstandby (hno : ∀ p : Fin 2, s.clc.pumps[p].state ≠ .duty) (p : Fin 2) :
      s.clc.reviewed.pumps[p].state = .standby ↔ s.clc.pumps[p].state = .standby ∨ s.clc.pumps[p].runIn = false := by
    rw [reviewed_pump, review_standby_iff (hno p)]
  refine ⟨fun p hp hr => ?running, fun p hp hr => ?back, fun hon => ⟨hduty (hdutyIff.mpr hon), fun p => ?duty⟩,
    fun hno => ?free, hpump.mp, hpump.mpr, fun f => ?fans, hfan, fun hs hk z hz => ?zone, fun hs hk hz => ?noZone,
    fun hstill => ?still⟩
  case running =>
    have hsame : s.clc.reviewed.pumps[p] = s.clc.pumps[p] := (reviewed_pump p).trans (review_of_running hr)
    rw [hclc, resumed_pump _ _ (by rw [hsame, hp]; decide), hsame]
  case back =>
    have hback : s.clc.reviewed.pumps[p].state = .standby := by rw [reviewed_pump, review_back hp hr]
    rw [hclc]
    exact resumed_standby _ _ hback
  case duty =>
    rw [hclc, resumed_onDuty _ _ (hdutyIff.mpr hon), reviewed_pump, review_duty_iff]
  case free =>
    have hoff : s.clc.reviewed.onDuty = false := Bool.eq_false_iff.mpr fun h => (hdutyIff.mp h).elim hno
    have hidle (p : Fin 2) : s.clc.reviewed.pumps[p].state ≠ .duty := by
      rw [reviewed_pump]
      exact fun h => hno p ((review_duty_iff _).mp h)
    refine ⟨fun p hp hleast => ?_, fun hall => ?_⟩
    · have hlowest : (lowest? fun i : Fin 2 => s.clc.reviewed.pumps[i].state == .standby) = some p := by
        cases hl : lowest? fun i : Fin 2 => s.clc.reviewed.pumps[i].state == .standby with
        | none => exact absurd ((hstandby hno p).mpr hp) (by simpa [-Fin.getElem_fin] using lowest?_none.mp hl p)
        | some i =>
          have hi := (hstandby hno i).mp (by simpa using lowest?_some hl)
          have hle : i ≤ p := lowest?_least hl (by simpa using (hstandby hno p).mpr hp)
          exact congrArg some ((lt_or_eq_of_le hle).resolve_left fun hlt => hleast i hlt hi)
      have ht : t.clc = s.clc.reviewed.takeDuty s.clock p := hclc.trans (resumed_takes _ _ hidle hlowest)
      have hps := (hstandby hno p).mpr hp
      have hrun : s.clc.reviewed.pumps[p].runIn = s.clc.pumps[p].runIn := by rw [reviewed_pump, review_runIn]
      refine ⟨htaken hoff ⟨p, hps⟩, ?_, fun q hlt hq => ?_, ?_⟩
      · rw [ht, takeDuty_pump, if_pos rfl, change_to_duty _ hps, hrun]
      · rw [ht, takeDuty_pump, if_neg hlt.ne]
        exact (hstandby hno q).mpr hq
      · rw [ht]
        rfl
    · have hnot (p : Fin 2) : s.clc.reviewed.pumps[p].state ≠ .standby := fun h => hall p ((hstandby hno p).mp h)
      refine ⟨?_, hnone hnot⟩
      rw [hclc, resumed_none _ _ hnot]
      refine Vector.ext fun i hi => ?_
      have hrun : s.clc.pumps[(⟨i, hi⟩ : Fin 2)].runIn = true :=
        Bool.eq_true_of_not_eq_false fun h => hall ⟨i, hi⟩ (.inr h)
      exact (reviewed_pump ⟨i, hi⟩).trans (review_of_running hrun)
  case fans =>
    rw [hclc, resumed_fans, reviewed_fan]
  case zone =>
    subst hz
    obtain ⟨hkept, hunknown, hover, hwithin, hlimit⟩ := rereadZone_some_parts hs hk z
    have hsame (c : FaultCode) (hc : c.incidental = false) (h1 : c ≠ .pumpFail) (h2 : c ≠ .fanFail) (h3 : c ≠ .coolingLost) :=
      hother c hc h1 h2 h3
    have htwist : t.ywc.twist = saturateTwist (nacelleSigned s.ywc.angle + 3600 * z) := by rw [hywc, hkept.ywc]; rfl
    rw [htwist, hsame .twistUnknown rfl (by decide) (by decide) (by decide),
      hsame .twistRange rfl (by decide) (by decide) (by decide), hsame .twistHardLimit rfl (by decide) (by decide) (by decide)]
    exact ⟨rfl, hunknown, hover, hwithin, hlimit⟩
  case noZone =>
    subst hz
    obtain ⟨hkept, hunknown⟩ := rereadZone_none hs hk
    exact ⟨by rw [hywc, hkept.ywc], (hother .twistUnknown rfl (by decide) (by decide) (by decide)).trans hunknown⟩
  case still =>
    rw [hywc, rereadZone_still]
    rintro ⟨hs, hk⟩
    rcases hstill with h | h
    · exact h hs
    · rw [hk] at h
      cases h

end Sys2Proof.Machine
end

section
/-! SUPPORT. A yaw stop that comes to hold, the wind inputs, and the timers of the yaw controller (R105, R106, R109, R115,
R119, R121, R122, R180, R181). -/

namespace Sys2Proof.Machine

/-! ## A report of a code that stops the yaw and does not trip (R180, R181) -/

/-- R180: such a report is nothing to trip and safe stop. -/
theorem Flm.reaction_take_yawStop {r : Report} (hr : r.code.severity = .yawStop) (f : Flm) (now : Stamp) :
    (f.take now r).reaction.trip = f.reaction.trip ∧ (f.take now r).reaction.safeStop = f.reaction.safeStop :=
  ⟨Flm.take_any (fun c => c.severity.trips) f now r (by rw [hr]; rfl),
    Flm.take_any (fun c => c.severity == .safeStop) f now r (by rw [hr]; rfl)⟩

/-- R181: the YWC alone is told. -/
theorem report_yawStop {r : Report} (hr : r.code.severity = .yawStop) (s : State) : s.report r =
    if yawStopArises s.flm.reaction (s.quiet r).flm.reaction s.ywc.move then (s.quiet r).yawStopCause true
    else s.quiet r := by
  obtain ⟨htrip, hsafe⟩ := Flm.reaction_take_yawStop hr s.flm s.stamp
  have htrip : (s.quiet r).flm.reaction.trip = s.flm.reaction.trip := htrip
  have hsafe : (s.quiet r).flm.reaction.safeStop = s.flm.reaction.safeStop := hsafe
  simp only [State.report, State.tell, htrip, hsafe, Bool.and_not_self, Bool.false_eq_true, if_false]
  rfl

/-- R178: the end of such a condition is told to none. -/
theorem report_gone_yawStop {c : FaultCode} (hc : c.severity = .yawStop) (s : State) :
    s.report (.gone c) = s.quiet (.gone c) := by
  rw [report_yawStop (r := .gone c) hc]
  exact if_neg (by rw [Bool.not_eq_true]; exact yawStopArises_gone _ _ _ _)

section
variable {c : FaultCode} (hc : c.severity.stopsYaw = true)
include hc

/-- R180: the yaw stop holds while its record is open. -/
theorem Flm.yawStop_take_present (f : Flm) (now : Stamp) (v : Int) :
    (f.take now (.present c v)).reaction.yawStop = true :=
  f.take_present_any now (fun c => c.severity.stopsYaw) hc v

theorem Flm.untwistYawStop_take_present (hne : c ≠ .twistHardLimit) (f : Flm) (now : Stamp) (v : Int) :
    (f.take now (.present c v)).reaction.untwistYawStop = true :=
  f.take_present_any now (fun c => c.severity.stopsYaw && c != .twistHardLimit)
    (by simp only [hc, Bool.true_and, bne_iff_ne]; exact hne) v

/-- R119: a stop cause for the move comes to hold by it where none held for the move. -/
theorem yawStopArises_present (hne : c ≠ .twistHardLimit) (s : State) (v : Int) :
    yawStopArises s.flm.reaction (s.quiet (.present c v)).flm.reaction s.ywc.move = true ↔
      (if s.ywc.move.any (·.untwist) = true then s.flm.reaction.untwistYawStop else s.flm.reaction.yawStop) = false := by
  have hstop : (s.quiet (.present c v)).flm.reaction.yawStop = true := Flm.yawStop_take_present hc _ _ v
  have huntwist : (s.quiet (.present c v)).flm.reaction.untwistYawStop = true :=
    Flm.untwistYawStop_take_present hc hne _ _ v
  have hmove : (s.ywc.move.map (·.untwist)).getD false = s.ywc.move.any (·.untwist) := by cases s.ywc.move <;> rfl
  rw [yawStopArises, hmove, hstop, huntwist]
  split <;> simp

end

/-- R119, R121: with the stop cause of the reporter itself, the move is stopped once. -/
theorem report_stops {c : FaultCode} (hc : c.severity = .yawStop) {s : State}
    (hs : s.ywc.state = .brakeRelease ∨ s.ywc.state = .moving) (hr : s.apa.yawRequest = none)
    (v : Int) : (s.report (.present c v)).yawStopCause false = (s.quiet (.present c v)).enterBrakeApply := by
  rw [report_yawStop (r := .present c v) hc]
  split
  · rw [yawStopCause_turning (s := s.quiet (.present c v)) hs]
    refine yawStopCause_still ?_ false
    rw [enterBrakeApply_state (s := s.quiet (.present c v)) hr]
    cases (s.quiet (.present c v)).ywc.brakeIn <;> simp
  · exact yawStopCause_turning (s := s.quiet (.present c v)) hs false

/-! ## What a stop and a withdrawal leave of the conditions -/

section
variable {s : State} {c : FaultCode} (hc : c.incidental = false)
include hc

theorem enterBrakeApply_holds : s.enterBrakeApply.flm.holds c = s.flm.holds c := by
  obtain ⟨harbiter, -⟩ := FaultCode.incidental_iff hc
  simpa [State.outlook, harbiter] using congrFun (congrArg Outlook.holds s.enterBrakeApply_outlook) c

theorem withdrawYaw_holds : s.withdrawYaw.flm.holds c = s.flm.holds c := by
  obtain ⟨harbiter, -⟩ := FaultCode.incidental_iff hc
  simpa [State.outlook, harbiter] using congrFun (congrArg Outlook.holds s.withdrawYaw_outlook) c

end

/-! ## Wind and heading inputs (R105, R106) -/

theorem vaneReading_some (s : State) (v : Fin 3600) : s.vaneReading (some v) =
    (let y := { s.ywc with vane := v.val, vaneSeen := true, vaneInvalidDue := none }
     if s.flm.holds .vaneInvalid then
       { s with
         ywc := { y with window := [], grossCount := 0, bypass := false, urgent := false }
         flm := s.flm.take s.stamp (.gone .vaneInvalid) }
     else { s with ywc := y }) := by
  have hgone (y : Ywc) : ((s.setYwc y).report (.gone .vaneInvalid)).setYwc
      ((s.setYwc y).report (.gone .vaneInvalid)).ywc.clearWindow =
        (s.setYwc y.clearWindow).setFlm (s.flm.take s.stamp (.gone .vaneInvalid)) := by
    rw [report_gone_yawStop rfl]
    rfl
  exact if_congr Iff.rfl (hgone _) rfl

/-! ## VANE_INVALID (R106, R119) -/

section
variable {s : State} (v : Int)

/-- R119, R181: where the yaw stop finds nothing to stop, or has held for the move before. -/
theorem vaneInvalid_still (h : s.ywc.state = .idle ∨ s.ywc.state = .brakeApply ∨
    ¬ (if s.ywc.move.any (·.untwist) = true then s.flm.reaction.untwistYawStop else s.flm.reaction.yawStop) = false) :
    s.report (.present .vaneInvalid v) = s.quiet (.present .vaneInvalid v) := by
  rw [report_yawStop (r := .present .vaneInvalid v) rfl]
  rcases h with h | h | h
  · rw [yawStopCause_still (s := s.quiet _) (.inl h), ite_self]
  · rw [yawStopCause_still (s := s.quiet _) (.inr h), ite_self]
  · exact if_neg fun k => h ((yawStopArises_present rfl (by decide) s v).mp k)

/-- R119, R181: where it comes to hold for the move. -/
theorem vaneInvalid_stops
    (h : (if s.ywc.move.any (·.untwist) = true then s.flm.reaction.untwistYawStop else s.flm.reaction.yawStop) = false) :
    s.report (.present .vaneInvalid v) = (s.quiet (.present .vaneInvalid v)).yawStopCause true := by
  rw [report_yawStop (r := .present .vaneInvalid v) rfl]
  exact if_pos ((yawStopArises_present rfl (by decide) s v).mpr h)

end

/-! ## The statement -/

theorem exec_windInputs (dt : Clocks) (s : State) :
    let now := s.clock + dt
    let u := { s with clock := now }
    (exec (.platformHeadingReading dt none) s = .next u) ∧
    (∀ h, exec (.platformHeadingReading dt (some h)) s = .next { u with ywc := { s.ywc with platform := h.val } }) ∧
    (exec (.windSpeedReading dt none) s = .next { u with ywc := { s.ywc with windValid := false } }) ∧
    (∀ w, exec (.windSpeedReading dt (some w)) s =
      .next { u with ywc := { s.ywc with windSpeed := w.val, windValid := true } }) ∧
    (exec (.vaneReading dt none) s = .next { u with ywc := { s.ywc with
      vaneInvalidDue := if s.ywc.vaneInvalidDue.isSome then s.ywc.vaneInvalidDue else some (now + ms 10000) } }) := by
  refine ⟨rfl, fun _ => rfl, rfl, fun _ => rfl, ?_⟩
  have hdue : some (s.ywc.vaneInvalidDue.getD (s.clock + dt + ms 10000)) =
      if s.ywc.vaneInvalidDue.isSome then s.ywc.vaneInvalidDue else some (s.clock + dt + ms 10000) := by
    cases s.ywc.vaneInvalidDue <;> rfl
  rw [← hdue]
  rfl

/-- Settles O41: the inputs and the timers one by one; of the reports only VANE_INVALID stops a move. -/
theorem windInputsAndYawTimers : Obligations.WindInputsAndYawTimers := by
  refine ⟨fun dt s => ?_, fun due s => ⟨fun hdue => ?_, fun hdue => ?_, fun hdue => ?_⟩⟩
  · obtain ⟨h1, h2, h3, h4, h5⟩ := exec_windInputs dt s
    refine ⟨h1, h2, h3, h4, h5, fun v => congrArg Host.Outcome.next ?_⟩
    exact vaneReading_some (s.elapse dt) v
  · have hexec : exec .waitPowerTimerExpiry s = .next
        (((s.runTo due).setYwc { s.ywc with waitDue := none }).report (.present .yawWaitPower 0)) := by
      rw [exec, execWaitPowerTimerExpiry, State.waitPowerTimer, hdue]
      rfl
    rw [hexec, State.report_mild _ _ rfl]
    rfl
  · have hexec : exec .brakeRetryTimerExpiry s = .next
        (((s.runTo due).setYwc { s.ywc with retryDue := none }).report (.gone .brakeReleaseFail)) := by
      rw [exec, execBrakeRetryTimerExpiry, State.brakeRetryTimer, hdue]
      rfl
    rw [hexec, report_gone_yawStop rfl]
    rfl
  · let u : State := (s.runTo due).setYwc { s.ywc with vaneInvalidDue := none }
    let v : State := u.quiet (.present .vaneInvalid 0)
    have hexec : exec .vaneInvalidTimerExpiry s = .next (u.report (.present .vaneInvalid 0)) := by
      rw [exec, execVaneInvalidTimerExpiry, State.vaneInvalidTimer, hdue]
      rfl
    have hholds : (u.report (.present .vaneInvalid 0)).flm.holds .vaneInvalid = true := report_present_holds rfl 0
    refine ⟨fun hstill => ?_, fun hs hstops => ⟨_, hexec, hholds, ?_⟩, fun hs hsound hstops => ⟨_, hexec, hholds, ?_⟩⟩
    · rw [hexec, vaneInvalid_still (s := u) 0 hstill]
      rfl
    · have hw : u.report (.present .vaneInvalid 0) = v.withdrawYaw :=
        (vaneInvalid_stops (s := u) 0 hstops).trans (yawStopCause_requestPower (s := v) hs)
      obtain ⟨hywc, hreq, hgrant, -⟩ := withdrawYaw_parts v
      rw [hw, hywc]
      exact ⟨rfl, rfl, rfl, rfl, rfl, hreq, hgrant, rfl, rfl, withdrawYaw_waitPower v⟩
    · have hfit : s.yawFits s.osc.state.isUnloaded := hsound
      have hr : v.apa.yawRequest = none := hfit.unrequested (by rcases hs with hs | hs <;> rw [hs] <;> decide)
      have hb : u.report (.present .vaneInvalid 0) = v.enterBrakeApply :=
        (vaneInvalid_stops (s := u) 0 hstops).trans (yawStopCause_turning (s := v) hs true)
      have hkept : v.enterBrakeApply.ywc.vaneInvalidDue = v.ywc.vaneInvalidDue :=
        congrArg (·.yaw.vaneInvalidDue) v.enterBrakeApply_basis
      rw [hb]
      exact ⟨hkept, stopped_of rfl rfl (enterBrakeApply_stopped hr)⟩

end Sys2Proof.Machine
end

section
/-! SUPPORT. The encoder and the twist counter: what stops and reports leave of them, and a move that ends at its target (R105,
R118, R125 to R127). -/

namespace Sys2Proof.Machine

/-! ## What the readings and inputs have given (R105, R125, R126) -/

/-- What of the YWC readings, inputs and the timer of the evaluation move, and no grant, stop or report does. -/
structure Observed where
  angle : Nat
  prevAngle : Nat
  twistKnown : Bool
  twist : Int
  brakeIn : Bool
  ready : Vector Bool 6
  marked : Vector Bool 6
  evalDue : Option Clocks

def Ywc.observed (y : Ywc) : Observed :=
  { angle := y.angle, prevAngle := y.prevAngle, twistKnown := y.twistKnown, twist := y.twist, brakeIn := y.brakeIn
    ready := y.ready, marked := y.marked, evalDue := y.evalDue }

section
variable (s : State)

theorem State.tryRequests_observed : s.tryRequests.ywc.observed = s.ywc.observed := by
  obtain ⟨hywc, -⟩ := tryRequests_turn s
  rw [hywc]
  simp only [State.tryYaw]
  split
  · rw [grantYaw_ywc, Ywc.enterBrakeRelease_frame, State.yawTurn_ywc]
    rfl
  · rw [State.yawTurn_ywc]

theorem State.yawToIdle_observed : s.yawToIdle.ywc.observed = s.ywc.observed := by
  rw [yawToIdle_eq]
  rfl

theorem State.endMove_observed : s.endMove.ywc.observed = s.ywc.observed := by
  rw [State.endMove, State.yawToIdle_observed, State.releaseYaw, State.tryRequests_observed]
  split
  · rw [State.shed_ywc]
    rfl
  · rfl

theorem State.enterBrakeApply_observed : s.enterBrakeApply.ywc.observed = s.ywc.observed := by
  rw [enterBrakeApply_eq]
  split
  · rfl
  · rw [State.endMove_observed]
    rfl

theorem State.yawStopCause_observed (b : Bool) : (s.yawStopCause b).ywc.observed = s.ywc.observed := by
  simp only [State.yawStopCause]
  split
  case h_1 =>
    split
    · rw [(withdrawYaw_parts s).1]
      rfl
    · rfl
  case h_2 | h_3 => exact s.enterBrakeApply_observed
  all_goals rfl

theorem State.examine_observed : s.examine.ywc.observed = s.ywc.observed := by
  simp only [State.examine]
  split
  · exact (State.yawStopCause_observed _ _).trans s.tryRequests_observed
  · exact s.tryRequests_observed

/-- R181: what a report tells is nothing to them. -/
theorem State.report_observed (r : Report) : (s.report r).ywc.observed = s.ywc.observed := by
  simp only [State.report, State.tell]
  repeat' split
  all_goals simp [State.yawStopCause_observed]

theorem State.reportGone_observed (c : FaultCode) : (s.reportGone c).ywc.observed = s.ywc.observed := by
  simp only [State.reportGone]
  split
  · exact s.report_observed _
  · rfl

theorem State.takeTwist_observed (x : Int) :
    (s.takeTwist x).ywc.observed = { s.ywc.observed with twist := saturateTwist x } := by
  simp only [State.takeTwist]
  split
  · rw [State.report_observed]
    rfl
  · split
    · rw [State.reportGone_observed]
      rfl
    · rfl

theorem State.compareHardLimit_observed : s.compareHardLimit.ywc.observed = s.ywc.observed := by
  simp only [State.compareHardLimit]
  split
  · split
    · rfl
    · exact s.report_observed _
  · exact s.reportGone_observed _

theorem State.takeTwist_unloaded (x : Int) : (s.takeTwist x).osc.state.isUnloaded = s.osc.state.isUnloaded := by
  have hfoot : (s.takeTwist x).footing = (s.setYwc { s.ywc with twist := saturateTwist x }).footing := by
    simp only [State.takeTwist]
    split
    · exact State.report_footing _ _
    · split
      · exact State.reportGone_footing _ _
      · rfl
  exact congrArg Footing.unloaded hfoot

theorem State.takeTwist_params (x : Int) : (s.takeTwist x).ywc.params = s.ywc.params := by
  have hfoot : (s.takeTwist x).footing = (s.setYwc { s.ywc with twist := saturateTwist x }).footing := by
    simp only [State.takeTwist]
    split
    · exact State.report_footing _ _
    · split
      · exact State.reportGone_footing _ _
      · rfl
  exact congrArg Footing.yaw hfoot

end

/-! ## A move kept or stopped by reports (R119, R121, R181) -/

/-- From a move in `s` the move in `t` is as it was, or it has been stopped. -/
def State.keptOrStopped (s t : State) : Prop :=
  (t.ywc = s.ywc ∧ t.apa = s.apa) ∨ ((t.ywc.state = .idle ∨ t.ywc.state = .brakeApply) ∧ s.stopped t)

section
variable {s t : State}

theorem keptOrStopped_refl (s : State) : s.keptOrStopped s := .inl ⟨rfl, rfl⟩

theorem enterBrakeApply_keptOrStopped (hr : s.apa.yawRequest = none) : s.keptOrStopped s.enterBrakeApply := by
  refine .inr ⟨?_, enterBrakeApply_stopped hr⟩
  rw [enterBrakeApply_state hr]
  cases s.ywc.brakeIn <;> simp

/-- R181: what is told beyond the YWC reaches neither the YWC nor the APA. -/
theorem report_ywc_apa (s : State) (r : Report) :
    (s.report r).ywc = (if yawStopArises s.flm.reaction (s.quiet r).flm.reaction s.ywc.move then
        (s.quiet r).yawStopCause true else s.quiet r).ywc ∧
      (s.report r).apa = (if yawStopArises s.flm.reaction (s.quiet r).flm.reaction s.ywc.move then
        (s.quiet r).yawStopCause true else s.quiet r).apa := by
  have hmove : (s.quiet r).ywc.move = s.ywc.move := rfl
  simp only [State.report, State.tell, hmove]
  generalize (if yawStopArises s.flm.reaction (s.quiet r).flm.reaction s.ywc.move = true then (s.quiet r).yawStopCause true
    else s.quiet r) = u
  repeat' split
  all_goals simp

/-- R119: a report in BRAKE_RELEASE or MOVING. -/
theorem report_turning (hs : s.ywc.state = .brakeRelease ∨ s.ywc.state = .moving) (hr : s.apa.yawRequest = none)
    (r : Report) : s.keptOrStopped (s.report r) := by
  obtain ⟨hywc, hapa⟩ := report_ywc_apa s r
  by_cases harises : yawStopArises s.flm.reaction (s.quiet r).flm.reaction s.ywc.move = true
  · rw [if_pos harises] at hywc hapa
    rw [yawStopCause_turning (s := s.quiet r) hs] at hywc hapa
    have hkept := enterBrakeApply_keptOrStopped (s := s.quiet r) hr
    rw [State.keptOrStopped, State.stopped, ← hywc, ← hapa] at hkept
    exact hkept
  · rw [if_neg harises] at hywc hapa
    exact .inl ⟨hywc, hapa⟩

theorem keptOrStopped_report (h : s.keptOrStopped t) (hs : s.ywc.state = .brakeRelease ∨ s.ywc.state = .moving)
    (hr : s.apa.yawRequest = none) (r : Report) : s.keptOrStopped (t.report r) := by
  rcases h with ⟨hywc, hapa⟩ | ⟨hstate, hstopped⟩
  · have hreport := report_turning (s := t) (by rw [hywc]; exact hs) (by rw [hapa]; exact hr) r
    rw [State.keptOrStopped, State.stopped, hywc, hapa] at hreport
    exact hreport
  · have hkept := report_still_undisturbed t hstate r
    refine .inr ⟨by rw [hkept.ywc]; exact hstate, ?_⟩
    rw [State.stopped, hkept.ywc, hkept.apa]
    exact hstopped

theorem keptOrStopped_reportGone (h : s.keptOrStopped t) (hs : s.ywc.state = .brakeRelease ∨ s.ywc.state = .moving)
    (hr : s.apa.yawRequest = none) (c : FaultCode) : s.keptOrStopped (t.reportGone c) := by
  simp only [State.reportGone]
  split
  · exact keptOrStopped_report h hs hr _
  · exact h

/-- R126: the twist moves in both alike. -/
theorem keptOrStopped_twist (h : s.keptOrStopped t) (x : Int) :
    (s.setYwc { s.ywc with twist := x }).keptOrStopped (t.setYwc { t.ywc with twist := x }) := by
  rcases h with ⟨hywc, hapa⟩ | h
  · exact .inl ⟨by rw [State.setYwc_ywc, hywc]; rfl, hapa⟩
  · exact .inr h

theorem keptOrStopped_takeTwist (h : s.keptOrStopped t) (hs : s.ywc.state = .brakeRelease ∨ s.ywc.state = .moving)
    (hr : s.apa.yawRequest = none) (x : Int) :
    (s.setYwc { s.ywc with twist := saturateTwist x }).keptOrStopped (t.takeTwist x) := by
  have hset := keptOrStopped_twist h (saturateTwist x)
  have hs' : (s.setYwc { s.ywc with twist := saturateTwist x }).ywc.state = .brakeRelease ∨
      (s.setYwc { s.ywc with twist := saturateTwist x }).ywc.state = .moving := hs
  simp only [State.takeTwist]
  split
  · exact keptOrStopped_report hset hs' hr _
  · split
    · exact keptOrStopped_reportGone hset hs' hr _
    · exact hset

theorem keptOrStopped_compareHardLimit (h : s.keptOrStopped t) (hs : s.ywc.state = .brakeRelease ∨ s.ywc.state = .moving)
    (hr : s.apa.yawRequest = none) : s.keptOrStopped t.compareHardLimit := by
  simp only [State.compareHardLimit]
  split
  · split
    · exact h
    · exact keptOrStopped_report h hs hr _
  · exact keptOrStopped_reportGone h hs hr _

/-! ## The target (R118) -/

theorem reached_iff (m : Move) (x : Int) : m.reached x = true ↔ (x - m.target).natAbs ≤ 10 ∨
    (m.direction = .clockwise ∧ m.target ≤ x) ∨ (m.direction = .counterClockwise ∧ x ≤ m.target) := by
  cases hd : m.direction <;> simp [Move.reached, hd]

/-- R118: at its target a move that goes on yet is stopped. -/
theorem seekTarget_stopped (h : s.keptOrStopped t) (hs : s.ywc.state = .moving) (hr : s.apa.yawRequest = none) {m : Move}
    (hm : s.ywc.move = some m) (hreached : m.reached s.ywc.twist = true) : s.stopped t.seekTarget := by
  rcases h with ⟨hywc, hapa⟩ | ⟨hstate, hstopped⟩
  · have hseek : t.seekTarget = t.enterBrakeApply :=
      if_pos ⟨by rw [hywc]; exact hs, by rw [hywc, hm]; exact hreached⟩
    rw [hseek]
    exact stopped_of (by rw [hywc]) (by rw [hapa]) (enterBrakeApply_stopped (by rw [hapa]; exact hr))
  · have hseek : t.seekTarget = t := if_neg fun k => by
      obtain ⟨hmoving, -⟩ := k
      rw [hmoving] at hstate
      rcases hstate with hstate | hstate <;> cases hstate
    rw [hseek]
    exact hstopped

theorem seekTarget_observed (s : State) : s.seekTarget.ywc.observed = s.ywc.observed := by
  simp only [State.seekTarget]
  split
  · exact s.enterBrakeApply_observed
  · rfl

theorem seekTarget_holds {c : FaultCode} (hc : c.incidental = false) : s.seekTarget.flm.holds c = s.flm.holds c := by
  simp only [State.seekTarget]
  split
  · exact enterBrakeApply_holds hc
  · rfl

end

/-! ## An encoder reading (R105, R125, R126) -/

/-- R125, R126: the state in which the counter takes its value, and the value. -/
def State.counting (s : State) (zone : Option Int) : State × Int :=
  if s.ywc.twistKnown then
    (s.setYwc { s.ywc with prevAngle := s.ywc.angle }, s.ywc.twist + wrapAngle ((s.ywc.angle : Int) - s.ywc.prevAngle))
  else
    let u := s.setYwc { s.ywc with twistKnown := true, prevAngle := s.ywc.angle }
    match zone with
    | some z => (u, nacelleSigned s.ywc.angle + 3600 * z)
    | none => (u.report (.present .twistUnknown 0), nacelleSigned s.ywc.angle)

/-- R105, R118, R127: the steps of a reading. -/
theorem encoderReading_eq (s : State) (a : Fin 3600) (zone : Option Int) : s.encoderReading a zone =
    (let c := (s.setYwc { s.ywc with angle := a.val }).counting zone
     let v := c.1.takeTwist c.2
     (if v.osc.state.isUnloaded then v else v.compareHardLimit).seekTarget) := by
  have hcount : (if s.ywc.twistKnown then (s.setYwc { s.ywc with angle := a.val }).moveTwist
      else (s.setYwc { s.ywc with angle := a.val }).startTwist zone) =
        ((s.setYwc { s.ywc with angle := a.val }).counting zone).1.takeTwist
          ((s.setYwc { s.ywc with angle := a.val }).counting zone).2 := by
    have hknown : (s.setYwc { s.ywc with angle := a.val }).ywc.twistKnown = s.ywc.twistKnown := rfl
    rw [State.counting, hknown]
    split
    · rfl
    · cases zone <;> rfl
  simp only [← hcount]
  rfl

end Sys2Proof.Machine
end

section
/-! SUPPORT. An encoder reading as a whole (R105, R118, R125 to R127). -/

namespace Sys2Proof.Machine

/-! ## What a reading gives (R125, R126) -/

section
variable (s : State) (zone : Option Int)

theorem State.counting_observed : (s.counting zone).1.ywc.observed =
    { s.ywc.observed with prevAngle := s.ywc.angle, twistKnown := true } := by
  simp only [State.counting]
  split
  · next hknown =>
    rw [← hknown]
    rfl
  · cases zone
    · exact State.report_observed _ _
    · rfl

theorem State.counting_footing : (s.counting zone).1.footing = s.footing := by
  simp only [State.counting]
  split
  · rfl
  · cases zone
    · exact State.report_footing _ _
    · rfl

theorem State.counting_clock : (s.counting zone).1.clock = s.clock := by
  simp only [State.counting]
  split
  · rfl
  · cases zone
    · exact State.report_clock _ _
    · rfl

theorem counting_holds_other {c : FaultCode} (hc : c.incidental = false) (h : c ≠ .twistUnknown) :
    (s.counting zone).1.flm.holds c = s.flm.holds c := by
  simp only [State.counting]
  split
  · rfl
  · cases zone
    · exact report_holds_other hc h.symm
    · rfl

/-- R125: TWIST_UNKNOWN where the counter starts without a zone. -/
theorem counting_twistUnknown :
    (s.ywc.twistKnown = false → zone = none → (s.counting zone).1.flm.holds .twistUnknown = true) ∧
    (s.ywc.twistKnown = true ∨ zone.isSome = true →
      (s.counting zone).1.flm.holds .twistUnknown = s.flm.holds .twistUnknown) := by
  simp only [State.counting]
  split
  · next hknown => simp [hknown]
  · next hknown =>
    cases zone
    · simp [hknown, report_present_holds (c := .twistUnknown) rfl]
    · simp

theorem takeTwist_clock (x : Int) : (s.takeTwist x).clock = s.clock := by
  simp only [State.takeTwist]
  repeat' split
  all_goals simp

theorem compareHardLimit_clock : s.compareHardLimit.clock = s.clock := by
  simp only [State.compareHardLimit]
  repeat' split
  all_goals simp

theorem seekTarget_clock : s.seekTarget.clock = s.clock := by
  simp only [State.seekTarget]
  split
  · simp
  · rfl

variable {s}

/-- R119, R125: TWIST_UNKNOWN may stop the move. -/
theorem counting_keptOrStopped (hs : s.ywc.state = .brakeRelease ∨ s.ywc.state = .moving) (hr : s.apa.yawRequest = none) :
    (s.setYwc { s.ywc with prevAngle := s.ywc.angle, twistKnown := true }).keptOrStopped (s.counting zone).1 := by
  simp only [State.counting]
  split
  · next hknown =>
    rw [← hknown]
    exact keptOrStopped_refl _
  · cases zone
    · exact report_turning (s := s.setYwc { s.ywc with prevAngle := s.ywc.angle, twistKnown := true }) hs hr _
    · exact keptOrStopped_refl _

end

/-- R126: the angle difference brought into -1800..+1799. -/
theorem wrapAngle_difference {a p : Nat} (ha : a < 3600) (hp : p < 3600) : wrapAngle ((a : Int) - p) =
    if (a : Int) - p < -1800 then (a : Int) - p + 3600 else if 1799 < (a : Int) - p then (a : Int) - p - 3600
      else (a : Int) - p := by
  simp only [wrapAngle]
  split
  · omega
  · split <;> omega

/-! ## The reading (R105, R118, R127) -/

section
variable (s : State) (a : Fin 3600) (zone : Option Int)

/-- The state that counts, and the value the counter takes before it saturates. -/
def State.countingAt : State × Int := (s.setYwc { s.ywc with angle := a.val }).counting zone

/-- R127: the state with the twist taken and compared. -/
def State.twistTaken : State :=
  let v := (s.countingAt a zone).1.takeTwist (s.countingAt a zone).2
  if v.osc.state.isUnloaded then v else v.compareHardLimit

theorem encoderReading_seek : s.encoderReading a zone = (s.twistTaken a zone).seekTarget := encoderReading_eq s a zone

theorem twistTaken_clock : (s.twistTaken a zone).clock = s.clock := by
  have hcount : (s.countingAt a zone).1.clock = s.clock := State.counting_clock _ _
  simp only [State.twistTaken]
  split
  · rw [takeTwist_clock, hcount]
  · rw [compareHardLimit_clock, takeTwist_clock, hcount]

theorem twistTaken_observed : (s.twistTaken a zone).ywc.observed =
    { s.ywc.observed with
      angle := a.val, prevAngle := a.val, twistKnown := true, twist := saturateTwist (s.countingAt a zone).2 } := by
  have hcount : (s.countingAt a zone).1.ywc.observed =
      { s.ywc.observed with angle := a.val, prevAngle := a.val, twistKnown := true } := State.counting_observed _ _
  simp only [State.twistTaken]
  split
  · rw [State.takeTwist_observed, hcount]
  · rw [State.compareHardLimit_observed, State.takeTwist_observed, hcount]

theorem twistTaken_holds {c : FaultCode} (hc : c.incidental = false) (h : c ≠ .twistHardLimit) :
    (s.twistTaken a zone).flm.holds c =
      ((s.countingAt a zone).1.takeTwist (s.countingAt a zone).2).flm.holds c := by
  simp only [State.twistTaken]
  split
  · rfl
  · exact compareHardLimit_holds_other _ hc h

/-- R127: TWIST_HARD_LIMIT is held exactly beyond the limit, once an image is loaded. -/
theorem twistTaken_hardLimit : (s.osc.state.isUnloaded = false → ((s.twistTaken a zone).flm.holds .twistHardLimit = true ↔
      s.ywc.params.hardLimit < (saturateTwist (s.countingAt a zone).2).natAbs)) ∧
    (s.osc.state.isUnloaded = true → (s.twistTaken a zone).flm.holds .twistHardLimit = s.flm.holds .twistHardLimit) := by
  have hfoot : (s.countingAt a zone).1.footing = s.footing := State.counting_footing _ _
  have hunloaded := State.takeTwist_unloaded (s.countingAt a zone).1 (s.countingAt a zone).2
  rw [show (s.countingAt a zone).1.osc.state.isUnloaded = s.osc.state.isUnloaded from congrArg Footing.unloaded hfoot]
    at hunloaded
  have hparams := State.takeTwist_params (s.countingAt a zone).1 (s.countingAt a zone).2
  rw [show (s.countingAt a zone).1.ywc.params = s.ywc.params from congrArg Footing.yaw hfoot] at hparams
  have htwist := congrArg Observed.twist (State.takeTwist_observed (s.countingAt a zone).1 (s.countingAt a zone).2)
  refine ⟨fun hl => ?_, fun hu => ?_⟩
  · have hx : s.twistTaken a zone = ((s.countingAt a zone).1.takeTwist (s.countingAt a zone).2).compareHardLimit :=
      if_neg (by rw [hunloaded, hl]; simp)
    rw [hx, compareHardLimit_holds, hparams]
    exact iff_of_eq (congrArg (fun x : Int => s.ywc.params.hardLimit < x.natAbs) htwist)
  · have hx : s.twistTaken a zone = (s.countingAt a zone).1.takeTwist (s.countingAt a zone).2 :=
      if_pos (by rw [hunloaded, hu])
    rw [hx, takeTwist_holds_other _ rfl (by simp)]
    exact counting_holds_other _ _ rfl (by simp)

/-- The state with the reading in it and the twist at `x`. -/
def State.turnedTo (x : Int) : State :=
  s.setYwc { s.ywc with angle := a.val, prevAngle := a.val, twistKnown := true, twist := x }

variable {s a zone}

/-- R126: a twist within the range, with TWIST_RANGE not held, is taken in silence. -/
theorem takeTwist_within {x : Int} (hx : x.natAbs < 10800) (hrange : s.flm.holds .twistRange = false) :
    s.takeTwist x = s.setYwc { s.ywc with twist := x } := by
  have hsat : saturateTwist x = x := by
    simp only [saturateTwist]
    omega
  simp only [State.takeTwist]
  rw [if_neg (by omega), if_pos hx, hsat]
  exact if_neg (by simp [hrange])

/-- R127: a twist within the hard limit, with TWIST_HARD_LIMIT not held, is compared in silence. -/
theorem compareHardLimit_within (hl : s.ywc.twist.natAbs ≤ s.ywc.params.hardLimit)
    (hlimit : s.flm.holds .twistHardLimit = false) : s.compareHardLimit = s := by
  simp only [State.compareHardLimit]
  rw [if_neg (by omega)]
  exact if_neg (by simp [hlimit])

/-- R118: at its target a move ends, whatever the reading reports. -/
theorem encoderReading_stopped (hs : s.ywc.state = .moving) (hr : s.apa.yawRequest = none) {m : Move}
    (hm : s.ywc.move = some m) (hreached : m.reached (saturateTwist (s.countingAt a zone).2) = true) :
    s.stopped (s.encoderReading a zone) := by
  have hcount := counting_keptOrStopped (s := s.setYwc { s.ywc with angle := a.val }) zone (.inr hs) hr
  have htake := keptOrStopped_takeTwist hcount (.inr hs) hr (s.countingAt a zone).2
  have htaken : (s.turnedTo a (saturateTwist (s.countingAt a zone).2)).keptOrStopped (s.twistTaken a zone) := by
    simp only [State.twistTaken]
    split
    · exact htake
    · exact keptOrStopped_compareHardLimit htake (.inr hs) hr
  rw [encoderReading_seek]
  exact stopped_of rfl rfl (seekTarget_stopped (s := s.turnedTo a (saturateTwist (s.countingAt a zone).2)) htaken hs hr hm
    hreached)

/-- R118, R126: a reading that reports nothing and ends no move. -/
theorem encoderReading_unreported (hk : s.ywc.twistKnown = true)
    (hrange : s.flm.holds .twistRange = false) (hlimit : s.flm.holds .twistHardLimit = false)
    (hx : (s.countingAt a zone).2.natAbs < 10800)
    (hl : s.osc.state.isUnloaded = true ∨ (s.countingAt a zone).2.natAbs ≤ s.ywc.params.hardLimit)
    (hm : s.ywc.state ≠ .moving ∨ ∀ m, s.ywc.move = some m → m.reached (s.countingAt a zone).2 = false) :
    s.encoderReading a zone = s.turnedTo a (s.countingAt a zone).2 := by
  have hcount : (s.countingAt a zone).1 = s.setYwc { s.ywc with angle := a.val, prevAngle := a.val, twistKnown := true } := by
    have hknown : (s.setYwc { s.ywc with angle := a.val }).ywc.twistKnown = true := hk
    rw [State.countingAt, State.counting, if_pos hknown, ← hk]
    rfl
  have htake : (s.countingAt a zone).1.takeTwist (s.countingAt a zone).2 = s.turnedTo a (s.countingAt a zone).2 := by
    rw [takeTwist_within hx (by rw [hcount]; exact hrange), hcount]
    rfl
  have htaken : s.twistTaken a zone = s.turnedTo a (s.countingAt a zone).2 := by
    simp only [State.twistTaken, htake]
    split
    · rfl
    · next hu => exact compareHardLimit_within (hl.resolve_left hu) hlimit
  rw [encoderReading_seek, htaken]
  refine if_neg fun k => ?_
  obtain ⟨hmoving, hreached⟩ := k
  obtain ⟨m, hmove, hat⟩ := (Option.any_eq_true _ _).1 hreached
  rcases hm with hm | hm
  · exact hm hmoving
  · exact Bool.false_ne_true ((hm m hmove).symm.trans hat)

end

/-- Settles O42: the reading step by step — the count, the saturation, the two reports, and the target. -/
theorem twistFollowsTheEncoder : Obligations.TwistFollowsTheEncoder := by
  unfold Obligations.TwistFollowsTheEncoder
  intro dt a zone s signed delta sum hprev
  have hsum : ((s.elapse dt).countingAt a zone).2 = sum := by
    simp only [State.countingAt, State.counting]
    split
    · next hk =>
      have hknown : s.ywc.twistKnown = true := hk
      simp only [sum, if_pos hknown]
      exact congrArg (s.ywc.twist + ·) (wrapAngle_difference a.isLt hprev)
    · next hk =>
      have hknown : ¬s.ywc.twistKnown = true := hk
      simp only [sum, if_neg hknown]
      cases zone <;> rfl
  have hobserved := (congrArg (fun t : State => t.ywc.observed) (encoderReading_seek (s.elapse dt) a zone)).trans
    ((seekTarget_observed _).trans (twistTaken_observed (s.elapse dt) a zone))
  have htwist : ((s.elapse dt).encoderReading a zone).ywc.twist = saturateTwist ((s.elapse dt).countingAt a zone).2 :=
    congrArg Observed.twist hobserved
  have hholds : ∀ c : FaultCode, c.incidental = false → ((s.elapse dt).encoderReading a zone).flm.holds c =
      ((s.elapse dt).twistTaken a zone).flm.holds c := fun c hc => by
    rw [encoderReading_seek, seekTarget_holds hc]
  obtain ⟨habove, hwithin⟩ := takeTwist_range ((s.elapse dt).countingAt a zone).1 ((s.elapse dt).countingAt a zone).2
  obtain ⟨hloaded, hunloaded⟩ := twistTaken_hardLimit (s.elapse dt) a zone
  obtain ⟨hunknown, hknown⟩ := counting_twistUnknown ((s.elapse dt).setYwc { s.ywc with angle := a.val }) zone
  clear_value sum
  rw [hsum] at htwist habove hwithin hloaded
  refine ⟨(s.elapse dt).encoderReading a zone, rfl, ?clock, congrArg Observed.angle hobserved,
    congrArg Observed.prevAngle hobserved, congrArg Observed.twistKnown hobserved, htwist, ?above, ?within, ?start, ?unknown,
    ?limit, ?unloaded, ?target, ?quiet⟩
  case clock =>
    rw [encoderReading_seek, seekTarget_clock, twistTaken_clock]
    rfl
  case above =>
    intro h
    rw [hholds _ rfl, twistTaken_holds _ _ _ rfl (by simp), hsum]
    exact habove h
  case within =>
    intro h
    rw [hholds _ rfl, twistTaken_holds _ _ _ rfl (by simp), hsum]
    exact hwithin h
  case start =>
    intro hk hz
    rw [hholds _ rfl, twistTaken_holds _ _ _ rfl (by simp), takeTwist_holds_other _ rfl (by simp)]
    exact hunknown hk hz
  case unknown =>
    intro h
    rw [hholds _ rfl, twistTaken_holds _ _ _ rfl (by simp), takeTwist_holds_other _ rfl (by simp)]
    exact hknown h
  case limit =>
    intro h
    rw [hholds _ rfl, htwist]
    exact hloaded h
  case unloaded =>
    intro h
    rw [hholds _ rfl]
    exact hunloaded h
  case target =>
    intro hmoving hsound m hm hreached
    have hfit : s.yawFits s.osc.state.isUnloaded := hsound
    rw [htwist] at hreached
    have hstopped := encoderReading_stopped (s := s.elapse dt) (a := a) (zone := zone) hmoving
      (hfit.unrequested (by rw [hmoving]; simp)) hm (by rw [hsum]; exact (reached_iff m _).2 hreached)
    exact stopped_of rfl rfl hstopped
  case quiet =>
    intro hm hk hx hrange hlimit hl
    have hquiet := encoderReading_unreported (s := s.elapse dt) (a := a) (zone := zone) hk hrange hlimit
    rw [hsum] at hquiet
    rw [hquiet hx hl ?_, State.turnedTo]
    · rw [← hk]
      rfl
    · refine hm.imp_right fun hm m hmove => ?_
      obtain ⟨hfar, hclockwise, hcounter⟩ := hm m hmove
      rw [Bool.eq_false_iff]
      intro hreached
      rcases (reached_iff m sum).1 hreached with h | ⟨hd, h⟩ | ⟨hd, h⟩
      · omega
      · have := hclockwise hd
        omega
      · have := hcounter hd
        omega

end Sys2Proof.Machine
end

section
/-! SUPPORT. An evaluation of the YWC: the sample, the stall and the decision of a move (R107 to R115, R119 to R121). -/

namespace Sys2Proof.Machine

/-! ## The sample (R105, R107, R108, R110) -/

theorem Ywc.takeSample_eq_sampled (y : Ywc) : y.takeSample = y.sampled := by
  have hsample : y.sample = if y.vane < 1800 then (y.vane : Int) else (y.vane : Int) - 3600 := by
    by_cases hvane : y.vane < 1800
    · rw [Ywc.sample, if_neg (by omega), if_pos hvane]
    · rw [Ywc.sample, if_pos (by omega), if_neg hvane]
  have hwindow : (if 30 ≤ y.window.length then y.window.drop 1 else y.window) =
      if y.window.length < 30 then y.window else y.window.drop 1 := by
    by_cases hlength : y.window.length < 30
    · rw [if_neg (by omega), if_pos hlength]
    · rw [if_pos (by omega), if_neg hlength]
  have hgross : (y.grossCount + 1 < 3) = (y.grossCount < 2) := propext (by omega)
  simp only [Ywc.takeSample, Ywc.sampled, Ywc.append, Ywc.grossCheck, hsample, hwindow, hgross]

theorem Ywc.filteredWind_eq_windOver (y : Ywc) : y.filteredWind = y.windOver := by
  simp [Ywc.filteredWind, Ywc.windOver, Ywc.heading, Ywc.filteredError, Ywc.meanError]

/-- R107: the evaluation timer is nothing to the sample. -/
theorem Ywc.sampled_evalDue (y : Ywc) (d : Option Clocks) :
    ({ y with evalDue := d } : Ywc).sampled = { y.sampled with evalDue := d } := by
  simp only [Ywc.sampled]
  repeat' split
  all_goals rfl

theorem Ywc.evaluated_evalDue (y : Ywc) (d : Option Clocks) : ({ y with evalDue := d } : Ywc).evaluated =
    { y.sampled with
      evalDue := d, windDirection := y.sampled.windOver
      misalignCount := if 300 < y.sampled.meanError.natAbs then min 60 (y.misalignCount + 1) else 0 } := by
  simp only [Ywc.evaluated, Ywc.takeSample_eq_sampled, Ywc.sampled_evalDue, Ywc.filteredWind_eq_windOver]
  rfl

/-- R107 to R110: the state of an evaluation at the moment of decision. -/
def State.sampledAt (s : State) (due : Clocks) : State :=
  { s with
    clock := max s.clock due
    ywc := { s.ywc.sampled with
      evalDue := some (due + ms 1000), windDirection := s.ywc.sampled.windOver
      misalignCount := if 300 < s.ywc.sampled.meanError.natAbs then min 60 (s.ywc.misalignCount + 1) else 0 }
    flm := s.misalignedFlm (max s.clock due) s.ywc.sampled.meanError }

/-- R107: the state in which an evaluation begins. -/
def State.evaluating (s : State) (due : Clocks) : State :=
  (s.runTo due).setYwc { s.ywc with evalDue := some (due + ms 1000) }

theorem evaluating_evaluated (s : State) (due : Clocks) : (s.evaluating due).evaluated = s.sampledAt due := by
  have hywc : (s.evaluating due).ywc.evaluated = (s.sampledAt due).ywc := Ywc.evaluated_evalDue s.ywc _
  have herror : (s.evaluating due).ywc.takeSample.filteredError = s.ywc.sampled.meanError := by
    rw [Ywc.takeSample_eq_sampled, State.evaluating, State.setYwc_ywc, Ywc.sampled_evalDue]
    rfl
  rw [State.evaluated, hywc, herror]
  rfl

section
variable {s : State} {due : Clocks} (hd : s.ywc.evalDue = some due)
include hd

theorem exec_yawEvaluation : exec .yawEvaluation s = .next (s.evaluating due).evaluateYaw := by
  have hrun : s.yawEvaluation = (s.evaluating due).evaluateYaw := by
    simp only [State.yawEvaluation, hd]
    rfl
  rw [← hrun]
  rfl

theorem exec_yawEvaluation_idle (hs : s.ywc.state = .idle) :
    exec .yawEvaluation s = .next (s.sampledAt due).decideMove := by
  rw [exec_yawEvaluation hd, evaluateYaw_idle (s := s.evaluating due) hs, evaluating_evaluated]

theorem exec_yawEvaluation_moving (hs : s.ywc.state = .moving) :
    exec .yawEvaluation s = .next (s.sampledAt due).stallCheck := by
  rw [exec_yawEvaluation hd, evaluateYaw_moving (s := s.evaluating due) hs, evaluating_evaluated]

theorem exec_yawEvaluation_still (hs : s.ywc.state = .requestPower ∨ s.ywc.state = .brakeRelease ∨ s.ywc.state = .brakeApply) :
    exec .yawEvaluation s = .next (s.sampledAt due) := by
  rw [exec_yawEvaluation hd, evaluateYaw_still (s := s.evaluating due) hs, evaluating_evaluated]

end

/-- R110, R180: MISALIGNMENT stops no move. -/
theorem misalignedFlm_reaction (s : State) (now : Clocks) (ef : Int) :
    (s.misalignedFlm now ef).reaction.yawStop = s.flm.reaction.yawStop := by
  have hmild (r : Report) (hr : r.code = .misalignment) :
      (s.flm.take (stampOf now) r).reaction.yawStop = s.flm.reaction.yawStop := by
    rw [Flm.reaction_take_mild _ _ r (by rw [hr]; rfl)]
  simp only [State.misalignedFlm]
  split
  · split
    · exact hmild _ rfl
    · rfl
  · split
    · exact hmild _ rfl
    · rfl

/-! ## A stall (R119 to R121) -/

theorem Ywc.sampled_frame (y : Ywc) : y.sampled = { y with
    window := y.sampled.window, grossCount := y.sampled.grossCount, bypass := y.sampled.bypass
    urgent := y.sampled.urgent } := by
  simp only [Ywc.sampled]
  repeat' split
  all_goals rfl

theorem sampledAt_ywc (s : State) (due : Clocks) : (s.sampledAt due).ywc = { s.ywc with
    window := s.ywc.sampled.window, grossCount := s.ywc.sampled.grossCount, bypass := s.ywc.sampled.bypass
    urgent := s.ywc.sampled.urgent, evalDue := some (due + ms 1000), windDirection := s.ywc.sampled.windOver
    misalignCount := (s.sampledAt due).ywc.misalignCount } := by
  have hframe := Ywc.sampled_frame s.ywc
  simp only [State.sampledAt]
  generalize s.ywc.sampled = y at *
  rw [hframe]

/-- R120, R178: a stalled move that ends leaves the record of YAW_STALL open, for it latches. -/
theorem enterBrakeApply_yawStop {s : State} (hr : s.apa.yawRequest = none) :
    s.enterBrakeApply.flm.reaction.yawStop = s.flm.reaction.yawStop := by
  rw [enterBrakeApply_flm hr]
  split
  · rfl
  · rw [Flm.goneIf]
    split
    · rw [Flm.reaction_take_gone_latching _ _ (c := .yawStall) rfl]
    · rfl

/-- R120: the evaluations in a row without motion. -/
def Ywc.stalledFor (y : Ywc) : Nat := if (y.twist - y.stallRef).natAbs < 5 then y.stallCount + 1 else 0

/-- R120: the state with the stall counted. -/
def State.stallCounted (s : State) : State := s.setYwc { s.ywc with stallRef := s.ywc.twist, stallCount := s.ywc.stalledFor }

section
variable {s : State}

theorem stallCheck_turning (hcount : s.ywc.stalledFor < 3) : s.stallCheck = s.stallCounted :=
  if_neg (Nat.not_le.mpr hcount)

/-- R120: the third evaluation without motion. -/
theorem stallCheck_stalled (hs : s.ywc.state = .moving) (hr : s.apa.yawRequest = none) (hcount : 3 ≤ s.ywc.stalledFor) :
    s.stallCheck.ywc.evalDue = s.ywc.evalDue ∧ s.stopped s.stallCheck ∧
      (s.ywc.brakeIn = true → s.stallCheck.flm.holds .yawStall = true) ∧ s.stallCheck.flm.reaction.yawStop = true := by
  have hstall : s.stallCheck = (s.stallCounted.quiet (.present .yawStall s.ywc.twist)).enterBrakeApply :=
    (if_pos hcount).trans (report_stops (s := s.stallCounted) rfl (.inr hs) hr s.ywc.twist)
  have hholds : (s.stallCounted.quiet (.present .yawStall s.ywc.twist)).flm.holds .yawStall = true :=
    s.flm.takePresent_holds _ _ _
  have hstop : (s.stallCounted.quiet (.present .yawStall s.ywc.twist)).flm.reaction.yawStop = true :=
    Flm.yawStop_take_present rfl _ _ _
  have hdue : (s.stallCounted.quiet (.present .yawStall s.ywc.twist)).ywc.evalDue = s.ywc.evalDue := rfl
  have hbrake : (s.stallCounted.quiet (.present .yawStall s.ywc.twist)).ywc.brakeIn = s.ywc.brakeIn := rfl
  have hgrant : (s.stallCounted.quiet (.present .yawStall s.ywc.twist)).apa.yawGranted = s.apa.yawGranted := rfl
  have hr : (s.stallCounted.quiet (.present .yawStall s.ywc.twist)).apa.yawRequest = none := hr
  rw [hstall]
  generalize s.stallCounted.quiet (.present .yawStall s.ywc.twist) = u at *
  refine ⟨(congrArg Observed.evalDue u.enterBrakeApply_observed).trans hdue,
    stopped_of hbrake hgrant (enterBrakeApply_stopped hr), fun hb => ?_, ?_⟩
  · rw [enterBrakeApply_flm hr, if_pos (hbrake.trans hb)]
    exact hholds
  · rw [enterBrakeApply_yawStop hr]
    exact hstop

end

/-- R113: a move is not decided in the twist unknown, held, stopped, or without samples enough. -/
theorem decideMove_undecided {s : State} (h : s.ywc.twistKnown = false ∨ s.ywc.hold = true ∨ s.flm.reaction.yawStop = true ∨
    (s.ywc.window.length < 10 ∧ s.ywc.bypass = false)) : s.decideMove = s := by
  refine if_neg ?_
  rw [Bool.not_eq_true]
  rcases h with h | h | h | ⟨hw, hb⟩
  · simp [State.decides, h]
  · simp [State.decides, h]
  · simp [State.decides, h]
  · simp [State.decides, hb, Nat.not_le.mpr hw]

/-- Settles O43: the sample in every yaw state, the stall in MOVING. -/
theorem anEvaluationTakesASample : Obligations.AnEvaluationTakesASample := by
  unfold Obligations.AnEvaluationTakesASample
  intro due s hd now y ef next_
  have hframe := sampledAt_ywc s due
  have hcounted : (s.sampledAt due).ywc.stalledFor = s.ywc.stalledFor := by
    rw [hframe]
    rfl
  refine ⟨fun hstill => ?_, fun hmoving => ⟨fun hcount => ?_, fun hcount hsound => ?_⟩⟩
  · rcases hstill with h | h | h | ⟨h, hno⟩
    · exact exec_yawEvaluation_still hd (.inl h)
    · exact exec_yawEvaluation_still hd (.inr (.inl h))
    · exact exec_yawEvaluation_still hd (.inr (.inr h))
    · rw [exec_yawEvaluation_idle hd h, decideMove_undecided]
      · rfl
      · rw [hframe]
        refine hno.imp_right (Or.imp_right (Or.imp_left fun hstop => ?_))
        exact (misalignedFlm_reaction s _ _).trans hstop
  · rw [exec_yawEvaluation_moving hd hmoving, stallCheck_turning (by rw [hcounted]; exact hcount), State.stallCounted,
      hcounted, show (s.sampledAt due).ywc.twist = s.ywc.twist by rw [hframe]]
    rfl
  · have hfit : s.yawFits s.osc.state.isUnloaded := hsound
    have hr : (s.sampledAt due).apa.yawRequest = none := hfit.unrequested (by rw [hmoving]; decide)
    have hstate : (s.sampledAt due).ywc.state = .moving := by
      rw [hframe]
      exact hmoving
    have hbrake : (s.sampledAt due).ywc.brakeIn = s.ywc.brakeIn := by rw [hframe]
    obtain ⟨hdue, hstopped, hholds, hstop⟩ := stallCheck_stalled hstate hr (by rw [hcounted]; exact hcount)
    exact ⟨_, exec_yawEvaluation_moving hd hmoving, hdue, stopped_of hbrake rfl hstopped, fun hb => hholds (hbrake.trans hb),
      hstop⟩

end Sys2Proof.Machine
end

section
/-! SUPPORT. A move decided by an evaluation in IDLE (R112 to R115). -/

namespace Sys2Proof.Machine

/-! ## What the decision goes by (R112, R113) -/

section
variable (s : State) (due : Clocks)

/-- R107, step 5: the sector of an evaluation. -/
def Ywc.sectorOver (y : Ywc) : Sector := y.sectors[Fin.ofNat 24 (y.windOver / 150)]

theorem sampledAt_sector : (s.sampledAt due).ywc.sector = s.ywc.sampled.sectorOver := by
  have hwind : (s.sampledAt due).ywc.filteredWind = s.ywc.sampled.windOver := s.ywc.sampled.filteredWind_eq_windOver
  simp only [Ywc.sector, Ywc.sectorIndex, hwind]
  rfl

theorem sampledAt_steers : (s.sampledAt due).steers = s.steersIn s.ywc.sampled.sectorOver := by
  have hpartner : (s.sampledAt due).partnerProducing s.ywc.sampled.sectorOver.partner =
      s.partnerProducing s.ywc.sampled.sectorOver.partner := rfl
  have hosc : (s.sampledAt due).osc = s.osc := rfl
  have hosc' : (s.osc.state == .producing) = decide (s.osc.state = .producing) := rfl
  simp only [State.steers, sampledAt_sector, State.steersIn, hpartner, hosc, hosc']
  rw [sampledAt_ywc]
  simp only [Bool.decide_and, Bool.and_assoc]

theorem sampledAt_candidateOffset : (s.sampledAt due).candidateOffset =
    if s.steersIn s.ywc.sampled.sectorOver then s.ywc.sampled.offsets[s.ywc.sampled.sectorOver.offsetRef] else 0 := by
  simp only [State.candidateOffset, sampledAt_steers, sampledAt_sector]
  rfl

theorem sampledAt_targetError : (s.sampledAt due).targetError =
    wrapAngle (s.ywc.sampled.meanError + (s.sampledAt due).candidateOffset) := rfl

theorem sampledAt_threshold : (s.sampledAt due).ywc.threshold =
    (if s.ywc.sampled.sectorOver.restrict then 2 else 1) * s.ywc.sampled.params.startThreshold := by
  simp only [Ywc.threshold, sampledAt_sector]
  split
  · rfl
  · exact (Nat.one_mul _).symm

end

section
variable {s : State}

/-- R113: with nothing against a move the threshold decides. -/
theorem decides_iff (hk : s.ywc.twistKnown = true) (hhold : s.ywc.hold = false) (hstop : s.flm.reaction.yawStop = false)
    (hsamples : 10 ≤ s.ywc.window.length ∨ s.ywc.bypass = true) :
    s.decides = true ↔ s.ywc.threshold < s.targetError.natAbs := by
  simp [State.decides, hk, hhold, hstop, hsamples]

/-- R114: the long way is a turn the other way. -/
theorem chooseWay_eq (twist : Int) (soft : Nat) {e : Int} (he : e ≠ 0) : chooseWay twist soft e =
    if (twist + e).natAbs ≤ soft ∨ (twist + e).natAbs ≤ twist.natAbs then e else if 0 < e then e - 3600 else e + 3600 := by
  simp only [chooseWay]
  rcases lt_or_gt_of_ne he with h | h
  · rw [Int.sign_eq_neg_one_of_neg h, if_neg (by omega : ¬ 0 < e)]
    rfl
  · rw [Int.sign_eq_one_of_pos h, if_pos h]
    rfl

theorem directionTo_clockwise (twist target : Int) : directionTo twist target = .clockwise ↔ twist < target := by
  simp [directionTo]

/-- R112, R113: the YWC that enters REQUEST_POWER for a decided move. -/
def State.deciding (s : State) : Ywc :=
  { s.ywc with offsetInUse := s.candidateOffset, steering := s.steers, bypass := false, urgent := false }

/-- R115: the move decided begins. -/
theorem decideMove_begun (hd : s.decides = true) (hr : s.apa.yawRequest = none) (ho : s.coolingOverride = false) :
    s.deciding.begun s.decideMove.ywc s.decidedMove := by
  have hmove : s.decideMove = (s.setYwc s.deciding).enterRequestPower s.decidedMove := if_pos hd
  rw [hmove]
  exact enterRequestPower_begun (s := s.setYwc s.deciding) hr ho _

end

/-- Settles O44: the decision by the target error, and the move it begins. -/
theorem anEvaluationDecidesAMove : Obligations.AnEvaluationDecidesAMove := by
  unfold Obligations.AnEvaluationDecidesAMove
  intro due s hd hidle hsound ho hk hhold hstop y sec threshold o e hsamples
  have hframe := sampledAt_ywc s due
  have hfit : s.yawFits s.osc.state.isUnloaded := hsound
  have hr : (s.sampledAt due).apa.yawRequest = none := hfit.unrequested (by rw [hidle]; decide)
  have hoffset : (s.sampledAt due).candidateOffset = o := sampledAt_candidateOffset s due
  have herror : (s.sampledAt due).targetError = e := by
    rw [sampledAt_targetError, hoffset]
    rfl
  have hthreshold : (s.sampledAt due).ywc.threshold = threshold := sampledAt_threshold s due
  have hdecides : (s.sampledAt due).decides = true ↔ threshold < e.natAbs := by
    rw [← hthreshold, ← herror]
    refine decides_iff ?_ ?_ ((misalignedFlm_reaction s _ _).trans hstop) hsamples
    all_goals
      rw [hframe]
      assumption
  have htwist : (s.sampledAt due).ywc.twist = s.ywc.twist := by rw [hframe]
  have hsoft : (s.sampledAt due).ywc.params.softLimit = s.ywc.params.softLimit := by rw [hframe]
  refine ⟨fun hle => ⟨_, exec_yawEvaluation_idle hd hidle, ?_⟩,
    fun hlt => ⟨_, (s.sampledAt due).decidedMove, exec_yawEvaluation_idle hd hidle, ?_⟩⟩
  · have hstill : (s.sampledAt due).decideMove = s.sampledAt due :=
      if_neg fun h => absurd (hdecides.mp h) (by omega)
    rw [hstill, hframe]
    exact ⟨hidle, rfl, rfl, rfl, rfl⟩
  · obtain ⟨hstates, hmove, hoffsets, hsteering, hbypass, hurgent⟩ :=
      decideMove_begun (hdecides.mpr hlt) hr ho
    have htarget : (s.sampledAt due).decidedMove.target = s.ywc.twist + chooseWay s.ywc.twist s.ywc.params.softLimit e := by
      rw [← herror, ← htwist, ← hsoft]
      rfl
    refine ⟨hstates, hmove, rfl, rfl, hbypass, hurgent, hoffsets.trans hoffset,
      hsteering.trans (sampledAt_steers s due), ?_, ?_⟩
    · rw [htarget, chooseWay_eq _ _ (by omega)]
    · rw [← htwist]
      exact directionTo_clockwise _ _

end Sys2Proof.Machine
end

section
/-! SUPPORT. Drives: the feedback timers, the count of the usable drives and what a change of it does in each yaw state (R117,
R119, R124, R162, R164). -/

namespace Sys2Proof.Machine

/-! ## The selection (R117, R124) -/

/-- R117: the drives enabled under a grant, in the terms of the statements. -/
theorem selectDrives_iff (y : Ywc) (k : Nat) (d : Fin 6) : (selectDrives y.usable k)[d] = true ↔ y.selected k d := by
  have husable (e : Fin 6) : y.usable[e] = (y.ready[e] && !y.marked[e]) := Vector.getElem_ofFn _
  have hselected : (selectDrives y.usable k)[d] = lowestSet (fun e => y.usable[e]) k d := by
    rw [selectDrives_eq]
    exact Vector.getElem_ofFn _
  rw [hselected, lowestSet, setBelow, Bool.and_eq_true, decide_eq_true_iff]
  simp only [husable, Bool.and_eq_true, Bool.not_eq_true', Ywc.selected, Bool.and_assoc, and_assoc]

/-- R124: the feedback timers of new outputs or inputs. -/
theorem setDrives_feedbackDue (y : Ywc) (now : Clocks) (enables running : Vector Bool 6) (d : Fin 6) :
    (y.setDrives now enables running).feedbackDue[d] =
      feedback now (y.enables[d] != y.running[d]) (enables[d] != running[d]) y.feedbackDue[d] :=
  (Vector.getElem_ofFn _).trans (monitor_eq_feedback _ _ _ _)

/-- R124: a disagreement that goes on leaves its timer. -/
theorem feedback_same (now : Clocks) (b : Bool) (old : Option Clocks) :
    feedback now b b old = if b then old else none := by
  cases b <;> rfl

/-! ## YAW_DRIVES_INSUFFICIENT (R119) -/

section
variable (f : Flm) (now : Stamp)

theorem Flm.drivesJudged_low {a b : Nat} (ha : 4 ≤ a) (hb : b < 4) :
    (f.drivesJudged now a b).holds .yawDrivesInsufficient = true := by
  rw [Flm.drivesJudged, if_pos ⟨ha, hb⟩]
  exact f.takePresent_holds now _ _

theorem Flm.drivesJudged_recovered {a b : Nat} (ha : a < 4) (hb : 4 ≤ b) :
    (f.drivesJudged now a b).holds .yawDrivesInsufficient = false := by
  rw [Flm.drivesJudged, if_neg (by omega), if_pos ⟨ha, hb⟩]
  exact f.takeGone_holds now _

theorem Flm.drivesJudged_kept {a b : Nat} (h : 4 ≤ a ↔ 4 ≤ b) : f.drivesJudged now a b = f := by
  rw [Flm.drivesJudged, if_neg (by omega), if_neg (by omega)]

theorem Flm.drivesJudged_holds_other {c : FaultCode} (hc : FaultCode.yawDrivesInsufficient.index ≠ c.index) (a b : Nat) :
    (f.drivesJudged now a b).holds c = f.holds c := by
  simp only [Flm.drivesJudged]
  split
  · exact f.take_holds_other now _ hc
  · split
    · exact f.take_holds_other now _ hc
    · rfl

end

/-! ## A change of ready inputs or marks in each yaw state (R117, R119, R162) -/

section
variable {s : State} {act : Ywc → Ywc}

theorem enterBrakeApply_unrequested (hr : s.apa.yawRequest = none) : s.enterBrakeApply.apa.yawRequest = none := by
  rw [enterBrakeApply_eq]
  split
  · exact hr
  · obtain ⟨-, -, hreq, -⟩ := endMove_parts (s := s.braked) hr
    exact hreq

/-- R117, R119: all that a selection made anew can be. -/
theorem reselect_cases (s : State) (a b : Nat) : s.reselect a b = s ∨ s.reselect a b = s.enterBrakeApply ∨
    s.reselect a b = s.setYwc (s.ywc.selectUnder s.clock s.apa.yawGranted) := by
  simp only [State.reselect]
  split
  · split <;> simp
  · split <;> simp

theorem reselect_unrequested (hr : s.apa.yawRequest = none) (a b : Nat) : (s.reselect a b).apa.yawRequest = none := by
  rcases reselect_cases s a b with h | h | h <;> rw [h]
  · exact hr
  · exact enterBrakeApply_unrequested hr
  · exact hr

/-- R162: without a request there is nothing to examine. -/
theorem watchDrives_reselect (hr : s.apa.yawRequest = none) :
    s.watchDrives act = (s.drivesChanged act).reselect s.ywc.usableCount (act s.ywc).usableCount := by
  rw [watchDrives_eq]
  refine if_neg fun h => ?_
  obtain ⟨-, hreq⟩ := h
  rw [reselect_unrequested (s := s.drivesChanged act) hr] at hreq
  cases hreq

/-- R119: fewer than 4 drives are left to a move. -/
theorem watchDrives_stops (hact : (act s.ywc).state = s.ywc.state) (hs : s.ywc.state = .brakeRelease ∨ s.ywc.state = .moving)
    (hr : s.apa.yawRequest = none) (hbefore : 4 ≤ s.ywc.usableCount) (hafter : (act s.ywc).usableCount < 4) :
    s.watchDrives act = (s.drivesChanged act).enterBrakeApply := by
  have hstate : (s.drivesChanged act).ywc.state = s.ywc.state := hact
  rw [watchDrives_reselect hr, State.reselect, if_pos ⟨hbefore, hafter⟩, hstate]
  rcases hs with hs | hs <;> rw [hs]

/-- R117: in MOVING the selection is made anew. -/
theorem watchDrives_selects (hact : (act s.ywc).state = s.ywc.state) (hs : s.ywc.state = .moving)
    (hr : s.apa.yawRequest = none) (hafter : 4 ≤ (act s.ywc).usableCount) :
    s.watchDrives act = (s.drivesChanged act).setYwc ((act s.ywc).selectUnder s.clock s.apa.yawGranted) := by
  have hstate : (s.drivesChanged act).ywc.state = .moving := hact.trans hs
  rw [watchDrives_reselect hr, State.reselect, if_neg (by omega), hstate]
  rfl

theorem watchDrives_released (hact : (act s.ywc).state = s.ywc.state) (hs : s.ywc.state = .brakeRelease)
    (hr : s.apa.yawRequest = none) (hafter : 4 ≤ (act s.ywc).usableCount) : s.watchDrives act = s.drivesChanged act := by
  have hstate : (s.drivesChanged act).ywc.state = .brakeRelease := hact.trans hs
  rw [watchDrives_reselect hr, State.reselect, if_neg (by omega), hstate]

/-- R162: while a request waits, a change of the count has it examined. -/
theorem watchDrives_waiting (hact : (act s.ywc).state = s.ywc.state) (hs : s.ywc.state = .requestPower)
    (hr : s.apa.yawRequest.isSome = true) : s.watchDrives act =
      if s.ywc.usableCount ≠ (act s.ywc).usableCount then (s.drivesChanged act).examine else s.drivesChanged act := by
  have hstill : (s.drivesChanged act).reselect s.ywc.usableCount (act s.ywc).usableCount = s.drivesChanged act :=
    reselect_idle (.inr (.inl (hact.trans hs))) _ _
  have hrequest : (s.drivesChanged act).apa.yawRequest.isSome = true := hr
  simp only [watchDrives_eq, hstill, hrequest, and_true]

variable (s act)

theorem reselect_observed (a b : Nat) : (s.reselect a b).ywc.observed = s.ywc.observed := by
  rcases reselect_cases s a b with h | h | h <;> rw [h]
  · exact s.enterBrakeApply_observed
  · rfl

/-- R124: whatever follows, the marks and the inputs are as the change has them. -/
theorem watchDrives_observed : (s.watchDrives act).ywc.observed = (act s.ywc).observed := by
  have hchanged := reselect_observed (s.drivesChanged act) s.ywc.usableCount (act s.ywc).usableCount
  rw [watchDrives_eq]
  simp only []
  split
  · rw [State.examine_observed, hchanged]
    rfl
  · rw [hchanged]
    rfl

theorem watchDrives_clock : (s.watchDrives act).clock = s.clock := by
  have hchanged : ((s.drivesChanged act).reselect s.ywc.usableCount (act s.ywc).usableCount).clock = s.clock := by
    rcases reselect_cases (s.drivesChanged act) s.ywc.usableCount (act s.ywc).usableCount with h | h | h <;> rw [h]
    · rfl
    · exact State.enterBrakeApply_clock _
    · rfl
  rw [watchDrives_eq]
  simp only []
  split
  · rw [State.examine_clock, hchanged]
  · exact hchanged

theorem reselect_holds {c : FaultCode} (hc : c.incidental = false) (a b : Nat) :
    (s.reselect a b).flm.holds c = s.flm.holds c := by
  rcases reselect_cases s a b with h | h | h <;> rw [h]
  · exact enterBrakeApply_holds hc
  · rfl

theorem examine_holds {c : FaultCode} (hc : c.incidental = false) : s.examine.flm.holds c = s.flm.holds c := by
  obtain ⟨harbiter, -⟩ := FaultCode.incidental_iff hc
  simpa [State.outlook, harbiter] using congrFun (congrArg Outlook.holds s.examine_outlook) c

/-- R119, R124: whatever follows, the reports stand. -/
theorem watchDrives_holds {c : FaultCode} (hc : c.incidental = false) :
    (s.watchDrives act).flm.holds c = (s.drivesChanged act).flm.holds c := by
  have hchanged := reselect_holds (s.drivesChanged act) hc s.ywc.usableCount (act s.ywc).usableCount
  rw [watchDrives_eq]
  simp only []
  split
  · rw [examine_holds _ hc, hchanged]
  · exact hchanged

end

/-! ## What a request that waits is offered (R162 to R164) -/

/-- R163: the fan load that a fan request before the yaw request takes of free power. -/
def State.fanAhead (s : State) : Nat :=
  if s.apa.fanRequest = true ∧ s.apa.yawRequest = some false ∧ (s.apa.figures.fanLoad : Int) ≤ s.apa.free ∧
      s.clc.fanToStart.isSome = true then s.apa.figures.fanLoad
  else 0

/-- R163: what the fan request tried before it leaves of free power. -/
theorem tryFan_free {s : State} (hy : s.yawPrecedes = false) : s.tryFan.apa.figures = s.apa.figures ∧
    s.tryFan.apa.free = s.apa.free -
      (if s.apa.fanRequest = true ∧ (s.apa.figures.fanLoad : Int) ≤ s.apa.free ∧ s.clc.fanToStart.isSome = true then
        s.apa.figures.fanLoad else 0 : Nat) := by
  by_cases hfan : s.apa.fanRequest = true ∧ (s.apa.figures.fanLoad : Int) ≤ s.apa.free
  · obtain ⟨hreq, hfree⟩ := hfan
    obtain ⟨hapa, -⟩ := grantFan_spec s
    have htried : s.tryFan = s.grantFan := if_pos ⟨hreq, hfree, by rw [hy]; rfl⟩
    rw [htried, hapa]
    refine ⟨rfl, ?_⟩
    cases s.clc.fanToStart with
    | none => simp [Apa.free, Apa.total, Apa.inForce]
    | some f =>
      have hgrant : s.apa.fanRequest = true ∧ (s.apa.figures.fanLoad : Int) ≤ s.apa.free ∧ (some f).isSome = true :=
        ⟨hreq, hfree, rfl⟩
      rw [if_pos hgrant]
      simp only [Option.isSome_some, if_true, Apa.free, Apa.total, Apa.inForce]
      push_cast
      ring
  · have hstill : s.tryFan = s := if_neg fun ⟨hreq, hfree, _⟩ => hfan ⟨hreq, hfree⟩
    rw [hstill, if_neg fun ⟨hreq, hfree, _⟩ => hfan ⟨hreq, hfree⟩]
    exact ⟨rfl, (Int.sub_zero _).symm⟩

theorem yawTurn_offer {s : State} (ho : s.coolingOverride = false) (hr : s.apa.yawRequest.isSome = true) :
    s.yawTurn.yawOffer =
      min 6 (min s.ywc.usableDrives ((s.apa.free - s.fanAhead).toNat / s.apa.figures.yawLoad)) := by
  rw [usableDrives_eq_usableCount]
  obtain ⟨urgent, hurgent⟩ := Option.isSome_iff_exists.mp hr
  cases urgent with
  | true =>
    have hturn : s.yawTurn = s := if_pos (by simp [State.yawPrecedes, hurgent, ho])
    have hahead : s.fanAhead = 0 := if_neg (by simp [hurgent])
    rw [hturn, hahead]
    simp [State.yawOffer]
  | false =>
    have hprecedes : s.yawPrecedes = false := by simp [State.yawPrecedes, hurgent]
    have hturn : s.yawTurn = s.tryFan := if_neg (by simp [hprecedes])
    obtain ⟨hfigures, hfree⟩ := tryFan_free hprecedes
    have hahead : s.fanAhead = if s.apa.fanRequest = true ∧ (s.apa.figures.fanLoad : Int) ≤ s.apa.free ∧
        s.clc.fanToStart.isSome = true then s.apa.figures.fanLoad else 0 := by simp [State.fanAhead, hurgent]
    rw [hturn, hahead, State.yawOffer, hfigures, hfree, State.tryFan_ywc]

end Sys2Proof.Machine
end

section
/-! SUPPORT. The inputs and the timers of the drives (R117, R119, R121, R124, R162, R164). -/

namespace Sys2Proof.Machine

/-- A table with one entry set. -/
theorem set_getElem_eq {α : Type} {n : Nat} (v : Vector α n) (i j : Fin n) (x : α) :
    (v.set i x)[j] = if i = j then x else v[j] := update_get v i j fun _ => x

/-! ## A ready input (R119, R124) -/

/-- The YWC with the ready input of drive `d` at `level`. -/
def Ywc.withReady (y : Ywc) (d : Fin 6) (level : Bool) : Ywc := { y with ready := y.ready.set d level }

section
variable (s : State) (d : Fin 6) (level : Bool)

/-- The state with the ready input changed and YAW_DRIVES_INSUFFICIENT judged. -/
def State.readied : State :=
  (s.setYwc (s.ywc.withReady d level)).setFlm
    (s.flm.drivesJudged s.stamp s.ywc.usableDrives (s.ywc.withReady d level).usableDrives)

/-- R124: a ready input marks no drive. -/
theorem drivesChanged_withReady : s.drivesChanged (·.withReady d level) = s.readied d level := by
  have hmarked : (s.ywc.withReady d level).markedBitmap = s.ywc.markedBitmap := rfl
  simp only [State.drivesChanged, State.readied, hmarked, Flm.bitmapMoved_same, usableDrives_eq_usableCount]

variable {s d level}

/-- R119: with the count on the same side of 4 nothing is reported. -/
theorem readied_kept (h : 4 ≤ s.ywc.usableDrives ↔ 4 ≤ (s.ywc.withReady d level).usableDrives) :
    s.readied d level = s.setYwc (s.ywc.withReady d level) := by
  rw [State.readied, Flm.drivesJudged_kept _ _ h]
  rfl

theorem driveReady_still (hs : s.ywc.state = .idle ∨ s.ywc.state = .brakeApply) (hr : s.apa.yawRequest = none) :
    s.driveReady d level = s.readied d level := by
  rw [← drivesChanged_withReady]
  exact watchDrives_unrequested rfl (hs.elim .inl (.inr ∘ .inr)) hr

theorem driveReady_stops (hs : s.ywc.state = .brakeRelease ∨ s.ywc.state = .moving) (hr : s.apa.yawRequest = none)
    (hbefore : 4 ≤ s.ywc.usableDrives) (hafter : (s.ywc.withReady d level).usableDrives < 4) :
    s.stopped (s.driveReady d level) ∧ (s.driveReady d level).flm.holds .yawDrivesInsufficient = true := by
  have hstops : s.driveReady d level = (s.readied d level).enterBrakeApply := by
    rw [usableDrives_eq_usableCount] at hbefore hafter
    rw [← drivesChanged_withReady]
    exact watchDrives_stops rfl hs hr hbefore hafter
  rw [hstops]
  refine ⟨stopped_of (s := s.readied d level) rfl rfl (enterBrakeApply_stopped hr), ?_⟩
  rw [enterBrakeApply_holds rfl]
  exact Flm.drivesJudged_low _ _ hbefore hafter

theorem driveReady_selects (hs : s.ywc.state = .moving) (hr : s.apa.yawRequest = none)
    (hafter : 4 ≤ (s.ywc.withReady d level).usableDrives) : s.driveReady d level =
      (s.readied d level).setYwc ((s.ywc.withReady d level).selectUnder s.clock s.apa.yawGranted) := by
  rw [usableDrives_eq_usableCount] at hafter
  rw [← drivesChanged_withReady]
  exact watchDrives_selects rfl hs hr hafter

theorem driveReady_released (hs : s.ywc.state = .brakeRelease) (hr : s.apa.yawRequest = none)
    (hbefore : 4 ≤ s.ywc.usableDrives) (hafter : 4 ≤ (s.ywc.withReady d level).usableDrives) :
    s.driveReady d level = s.setYwc (s.ywc.withReady d level) := by
  rw [← readied_kept (iff_of_true hbefore hafter), ← drivesChanged_withReady]
  rw [usableDrives_eq_usableCount] at hafter
  exact watchDrives_released rfl hs hr hafter

theorem driveReady_same (hs : s.ywc.state = .requestPower) (hr : s.apa.yawRequest.isSome = true)
    (hsame : (s.ywc.withReady d level).usableDrives = s.ywc.usableDrives) :
    s.driveReady d level = s.setYwc (s.ywc.withReady d level) := by
  rw [← readied_kept (by rw [hsame]), ← drivesChanged_withReady]
  rw [usableDrives_eq_usableCount, usableDrives_eq_usableCount] at hsame
  exact (watchDrives_waiting rfl hs hr).trans (if_neg (not_not_intro hsame.symm))

theorem driveReady_examined (hs : s.ywc.state = .requestPower) (hr : s.apa.yawRequest.isSome = true)
    (hne : (s.ywc.withReady d level).usableDrives ≠ s.ywc.usableDrives) :
    s.driveReady d level = (s.readied d level).examine := by
  rw [← drivesChanged_withReady]
  rw [usableDrives_eq_usableCount, usableDrives_eq_usableCount] at hne
  exact (watchDrives_waiting rfl hs hr).trans (if_pos hne.symm)

theorem driveReady_holds {c : FaultCode} (hc : c.incidental = false) :
    (s.driveReady d level).flm.holds c = (s.readied d level).flm.holds c := by
  rw [← drivesChanged_withReady]
  exact watchDrives_holds _ _ hc

/-- R164: the waiting request examined with the new count. -/
theorem readied_examined (ho : s.coolingOverride = false) (hr : s.apa.yawRequest.isSome = true) (k : Nat)
    (hk : k = min 6 (min (s.ywc.withReady d level).usableDrives ((s.apa.free - s.fanAhead).toNat / s.apa.figures.yawLoad))) :
    let t := (s.readied d level).examine
    if 4 ≤ k then
      t.apa.yawGranted = k ∧ t.apa.yawRequest = none ∧ t.ywc.waitDue = none ∧ t.ywc.releaseOut = true ∧
        t.flm.holds .yawWaitPower = false ∧
        if s.ywc.brakeIn = true then
          t.ywc.state = .moving ∧ ∀ e : Fin 6, t.ywc.enables[e] = true ↔ (s.ywc.withReady d level).selected k e
        else t.ywc.state = .brakeRelease
    else t.ywc = s.ywc.withReady d level ∧ t.apa.yawGranted = s.apa.yawGranted ∧ t.apa.yawRequest = s.apa.yawRequest := by
  intro t
  have hover : (s.readied d level).coolingOverride = false := ho
  have hoffer : (s.readied d level).yawTurn.yawOffer = k := (yawTurn_offer hover hr).trans hk.symm
  split
  · next hgrant =>
    obtain ⟨hywc, hgranted, hrequest, hflm⟩ := examine_granted hover hr (by rw [hoffer]; exact hgrant)
    rw [hoffer] at hywc hgranted
    refine ⟨hgranted, hrequest, ?_, ?_, ?_, ?_⟩
    · rw [hywc, Ywc.enterBrakeRelease_frame]
    · rw [hywc, Ywc.enterBrakeRelease_releaseOut]
    · rw [hflm, Flm.goneIf_holds]
    · have hstate := Ywc.enterBrakeRelease_state (s.readied d level).clock k { (s.readied d level).ywc with waitDue := none }
      have henables := Ywc.enterBrakeRelease_enables (s.readied d level).clock k { (s.readied d level).ywc with waitDue := none }
      have hbrake : ({ (s.readied d level).ywc with waitDue := none } : Ywc).brakeIn = s.ywc.brakeIn := rfl
      rw [hbrake, ← hywc] at hstate henables
      split
      · next hb =>
        rw [if_pos hb] at hstate henables
        refine ⟨hstate, fun e => ?_⟩
        rw [henables]
        exact selectDrives_iff (s.ywc.withReady d level) k e
      · next hb => rw [hstate, if_neg hb]
  · next hwait =>
    obtain ⟨hywc, hgranted, hrequest, -⟩ := examine_waits hover (by rw [hoffer]; exact hwait)
    exact ⟨hywc, hgranted, hrequest⟩

end

/-! ## A feedback timer (R124) -/

/-- The YWC with drive `d` marked. -/
def Ywc.withMark (y : Ywc) (d : Fin 6) : Ywc :=
  { y with feedbackDue := y.feedbackDue.set d none, marked := y.marked.set d true }

section
variable {s : State} {d : Fin 6}

/-- R124: a mark anew is seen in the bitmap. -/
theorem markedBitmap_withMark (y : Ywc) (h : y.marked[d] = false) :
    y.markedBitmap < (y.withMark d).markedBitmap := by
  have hset (i : Fin 6) : (y.withMark d).marked[i] = if d = i then true else y.marked[i] :=
    set_getElem_eq _ _ _ _
  rw [Ywc.markedBitmap, Ywc.markedBitmap, bitmap_eq_sum, bitmap_eq_sum]
  refine bitSum_lt (j := d) (fun i hi => ?_) h ?_
  · rw [hset]
    split
    · rfl
    · exact hi
  · rw [hset, if_pos rfl]

theorem drivesChanged_driveFeedback (h : s.ywc.marked[d] = false) :
    (s.drivesChanged (·.withMark d)).flm.holds .driveFeedback = true := by
  have hbits := markedBitmap_withMark s.ywc h
  refine (Flm.drivesJudged_holds_other _ _ (by decide) _ _).trans ?_
  exact Flm.bitmapMoved_present _ _ _ hbits

/-- R124: the timer expires. -/
theorem exec_driveFeedback {due : Clocks} (hd : s.ywc.feedbackDue[d] = some due) :
    exec (.driveFeedbackTimerExpiry d) s = .next ((s.runTo due).watchDrives (·.withMark d)) := by
  have hrun : s.driveFeedback d = (s.runTo due).watchDrives (·.withMark d) := by
    simp only [State.driveFeedback, hd]
    rfl
  rw [← hrun]
  rfl

end

/-- Settles O46: the inputs of the drives in each yaw state, and the mark. -/
theorem drivesAreSelectedAndWatched : Obligations.DrivesAreSelectedAndWatched := by
  unfold Obligations.DrivesAreSelectedAndWatched
  refine ⟨fun dt d level s => ⟨?running, ?still, ?moving, ?released, ?waiting⟩, fun due d s hd hm hsound => ?feedback⟩
  case running =>
    refine ⟨_, rfl, ?_, fun e he => ?_⟩
    · refine (setDrives_feedbackDue _ _ _ _ d).trans ?_
      rw [set_getElem_eq, if_pos rfl]
      rfl
    · refine (setDrives_feedbackDue _ _ _ _ e).trans ?_
      rw [set_getElem_eq, if_neg he.symm]
      refine (feedback_same _ _ _).trans ?_
      by_cases hagrees : s.ywc.enables[e] = s.ywc.running[e]
      · rw [if_pos hagrees]
        exact if_neg (by simpa using hagrees)
      · rw [if_neg hagrees]
        exact if_pos (by simpa using hagrees)
  case still =>
    intro hs hr
    exact congrArg Host.Outcome.next (driveReady_still (s := s.elapse dt) hs hr)
  case moving =>
    intro hs hsound hbefore
    have hfit : s.yawFits s.osc.state.isUnloaded := hsound
    have hr : (s.elapse dt).apa.yawRequest = none := hfit.unrequested (by rw [hs]; decide)
    refine ⟨(s.elapse dt).driveReady d level, rfl, ?_, fun hafter => ?_, fun hafter => ?_⟩
    · exact congrArg Observed.ready (watchDrives_observed (s.elapse dt) _)
    · obtain ⟨hstopped, hholds⟩ := driveReady_stops (s := s.elapse dt) (.inr hs) hr hbefore hafter
      exact ⟨stopped_of rfl rfl hstopped, hholds⟩
    · rw [driveReady_selects (s := s.elapse dt) hs hr hafter]
      refine ⟨hs, ?_, fun e => selectDrives_iff _ _ e⟩
      obtain ⟨hout, -⟩ := hfit
      exact hout.trans (by rw [hs]; rfl)
  case released =>
    intro hs hsound hbefore
    have hfit : s.yawFits s.osc.state.isUnloaded := hsound
    have hr : (s.elapse dt).apa.yawRequest = none := hfit.unrequested (by rw [hs]; decide)
    refine ⟨(s.elapse dt).driveReady d level, rfl, fun hafter => ?_, fun hafter => ?_⟩
    · obtain ⟨hstopped, hholds⟩ := driveReady_stops (s := s.elapse dt) (.inl hs) hr hbefore hafter
      exact ⟨stopped_of rfl rfl hstopped, hholds⟩
    · rw [driveReady_released (s := s.elapse dt) hs hr hbefore hafter]
      rfl
  case waiting =>
    intro hs hsound ho
    have hr : (s.elapse dt).apa.yawRequest.isSome = true := by
      obtain ⟨-, -, -, -, -, hrequest, -⟩ := hsound
      exact hrequest.trans (by rw [hs]; rfl)
    refine ⟨(s.elapse dt).driveReady d level, rfl, fun hsame => ?_, fun hbefore hafter => ?_, fun hbefore hafter => ?_,
      fun hne => ?_⟩
    · rw [driveReady_same (s := s.elapse dt) hs hr hsame]
      rfl
    · rw [driveReady_holds rfl]
      exact Flm.drivesJudged_low _ _ hbefore hafter
    · rw [driveReady_holds rfl]
      exact Flm.drivesJudged_recovered _ _ hbefore hafter
    · rw [driveReady_examined (s := s.elapse dt) hs hr hne]
      exact readied_examined (s := s.elapse dt) ho hr _ rfl
  case feedback =>
    have hfit : s.yawFits s.osc.state.isUnloaded := hsound
    have hobserved := watchDrives_observed (s.runTo due) (·.withMark d)
    refine ⟨_, exec_driveFeedback hd, ?_, congrArg Observed.marked hobserved, ?_,
      fun hs hbefore hafter => ?_, fun hs hafter => ?_, fun hs => ?_⟩
    · exact watchDrives_clock _ _
    · rw [watchDrives_holds _ _ rfl]
      exact drivesChanged_driveFeedback (s := s.runTo due) hm
    · have hr : (s.runTo due).apa.yawRequest = none := hfit.unrequested (by rw [hs]; decide)
      rw [usableDrives_eq_usableCount] at hbefore hafter
      rw [watchDrives_stops (s := s.runTo due) (act := (·.withMark d)) rfl (.inr hs) hr hbefore hafter]
      exact stopped_of rfl rfl (enterBrakeApply_stopped (s := (s.runTo due).drivesChanged (·.withMark d)) hr)
    · have hr : (s.runTo due).apa.yawRequest = none := hfit.unrequested (by rw [hs]; decide)
      rw [usableDrives_eq_usableCount] at hafter
      rw [watchDrives_selects (s := s.runTo due) (act := (·.withMark d)) rfl hs hr hafter]
      exact ⟨hs, fun e => selectDrives_iff _ _ e⟩
    · have hr : (s.runTo due).apa.yawRequest = none := hfit.unrequested (by rw [hs]; decide)
      rw [watchDrives_unrequested (s := s.runTo due) (act := (·.withMark d)) rfl (.inl hs) hr]
      exact ⟨hs, rfl⟩

end Sys2Proof.Machine
end

section
/-! SUPPORT. BRAKE_APPLY_FAIL and its safe stop: what the FLM takes and what it tells (R175, R177, R178, R180, R181, R204, R205,
R207). -/

namespace Sys2Proof.Machine

/-! ## The record of another code (R177, R178) -/

/-- R178: records of another code that are cleared are nothing to the record of `c`. -/
theorem find?_map_cleared {c d : FaultCode} (h : c ≠ d) (l : List Record) :
    (l.map fun x => if x.code == d then { x with state := .openCleared } else x).find? (·.code == c) =
      l.find? (·.code == c) := by
  induction l with
  | nil => rfl
  | cons x xs ih =>
    by_cases hd : x.code = d
    · have hc : ¬x.code = c := fun hc => h (hc.symm.trans hd)
      simpa [-List.find?_map, hd, hc, h.symm] using ih
    · by_cases hc : x.code = c
      · simp [-List.find?_map, hc, h]
      · simpa [-List.find?_map, hd, hc] using ih

theorem Flm.openRecord?_takeGone_other {c d : FaultCode} (h : c ≠ d) (f : Flm) (now : Stamp) :
    (f.take now (.gone d)).openRecord? c = f.openRecord? c := by
  simp only [Flm.take, Flm.takeGone]
  split
  · rfl
  · split
    · split
      · exact find?_map_cleared h _
      · refine (List.find?_filter ..).trans (List.find?_congr fun x _ => ?_)
        by_cases hc : x.code = c
        · simp [hc, h]
        · simp [hc]
    · rfl

theorem Flm.openRecord?_goneIf_other {c d : FaultCode} (h : c ≠ d) (f : Flm) (now : Stamp) :
    (f.goneIf now d).openRecord? c = f.openRecord? c := by
  rw [Flm.goneIf]
  split
  · exact f.openRecord?_takeGone_other h now
  · rfl

/-! ## A condition that goes (R181, R205) -/

/-- R181: whatever goes, the OSC alone is told, and that where the trip ceases. -/
theorem report_gone_eq (s : State) (c : FaultCode) : s.report (.gone c) =
    if s.flm.reaction.trip = true ∧ (s.quiet (.gone c)).flm.reaction.trip = false then (s.quiet (.gone c)).oscTripCeases
    else s.quiet (.gone c) := by
  have hyaw : yawStopArises s.flm.reaction (s.quiet (.gone c)).flm.reaction (s.quiet (.gone c)).ywc.move = false :=
    yawStopArises_gone _ _ _ _
  have htrip : (s.quiet (.gone c)).flm.reaction.trip = true → s.flm.reaction.trip = true :=
    s.flm.any_of_take_gone_any s.stamp (q := fun d => d.severity.trips)
  have hsafe : (s.quiet (.gone c)).flm.reaction.safeStop = true → s.flm.reaction.safeStop = true :=
    s.flm.any_of_take_gone_any s.stamp (q := fun d => d.severity == .safeStop)
  rw [State.report, State.tell, hyaw]
  simp only [Bool.false_eq_true, if_false, and_not_of_imp htrip, and_not_of_imp hsafe]
  simp

/-! ## A safe stop that comes to hold (R180, R181, R204, R207) -/

section
variable {s : State}

/-- R204: trip takes no station out of production that a safe stop does. -/
theorem oscTripHolds_safeStop (h : s.flm.reaction.safeStop = true) : s.oscTripHolds =
    s.setOsc (if s.osc.state = .tripped then { s.osc with restartDue := none } else s.osc) := by
  simp only [State.oscTripHolds, h, if_true]
  split
  case h_5 hs => rw [if_pos hs]
  all_goals
    next hs =>
    rw [hs]
    rfl

/-- R207: safe stop leaves the conditions as they are, and with an image loaded it is entered with the enable off. -/
theorem oscSafeStopHolds_spec : s.oscSafeStopHolds.flm = s.flm ∧
    (s.osc.state.isUnloaded = false → (s.osc.enable = true → s.osc.state ≠ .safeStop) →
      s.oscSafeStopHolds.osc.state = .safeStop ∧
        (s.osc.enable = true → s.oscSafeStopHolds.osc.enable = false ∧ s.oscSafeStopHolds.scu.eLim = 0)) := by
  have hoff : s.enableOff.flm = s.flm ∧
      (s.osc.enable = true → s.enableOff.osc.enable = false ∧ s.enableOff.scu.eLim = 0) := by
    cases he : s.osc.enable
    · rw [enableOff_of_off he]
      exact ⟨rfl, fun h => by cases h⟩
    · rw [enableOff_eq_turnedOff he]
      exact ⟨rfl, fun _ => ⟨rfl, rfl⟩⟩
  obtain ⟨hflm, henable⟩ := hoff
  simp only [State.oscSafeStopHolds]
  split
  case h_9 hs =>
    refine ⟨rfl, fun _ hne => ⟨hs, fun he => absurd hs (hne he)⟩⟩
  case h_7 hs | h_8 hs =>
    refine ⟨rfl, fun hl => ?_⟩
    rw [hs] at hl
    cases hl
  all_goals exact ⟨hflm, fun _ _ => ⟨rfl, henable⟩⟩

/-- R181: what the OSC is told when a safe stop comes to hold and the reaction was `before`. -/
def State.safeStopTold (s : State) (before : Reaction) : State :=
  let u := if before.trip then s else s.oscTripHolds
  if before.safeStop then u else u.oscSafeStopHolds

/-- R204, R207: it is nothing to the YWC, the APA and the FLM. -/
theorem safeStopTold_spec (before : Reaction) (h : s.flm.reaction.safeStop = true) :
    (s.safeStopTold before).clock = s.clock ∧ (s.safeStopTold before).ywc = s.ywc ∧ (s.safeStopTold before).apa = s.apa ∧
      (s.safeStopTold before).flm = s.flm := by
  simp only [State.safeStopTold, oscTripHolds_safeStop h]
  split <;> split <;> simp [oscSafeStopHolds_spec]

theorem safeStopTold_osc {before : Reaction} (h : s.flm.reaction.safeStop = true) (hb : before.safeStop = false)
    (hl : s.osc.state.isUnloaded = false) (hne : s.osc.enable = true → s.osc.state ≠ .safeStop) :
    (s.safeStopTold before).osc.state = .safeStop ∧
      (s.osc.enable = true → (s.safeStopTold before).osc.enable = false ∧ (s.safeStopTold before).scu.eLim = 0) := by
  simp only [State.safeStopTold, oscTripHolds_safeStop h, hb, Bool.false_eq_true, if_false]
  split
  · obtain ⟨-, hsafe⟩ := oscSafeStopHolds_spec (s := s)
    exact hsafe hl hne
  · obtain ⟨-, hsafe⟩ := oscSafeStopHolds_spec
      (s := s.setOsc (if s.osc.state = .tripped then { s.osc with restartDue := none } else s.osc))
    have hstate : (if s.osc.state = .tripped then { s.osc with restartDue := none } else s.osc).state = s.osc.state := by
      split <;> rfl
    have henable : (if s.osc.state = .tripped then { s.osc with restartDue := none } else s.osc).enable = s.osc.enable := by
      split <;> rfl
    simp only [State.setOsc_osc, hstate, henable] at hsafe
    exact hsafe hl hne

/-- R180, R181: the YWC is told first, then the OSC. -/
theorem report_safeStop {c : FaultCode} (hc : c.severity = .safeStop) (s : State) (v : Int) :
    s.report (.present c v) = (if yawStopArises s.flm.reaction (s.quiet (.present c v)).flm.reaction s.ywc.move then
      (s.quiet (.present c v)).yawStopCause true else s.quiet (.present c v)).safeStopTold s.flm.reaction := by
  have htrip : (s.quiet (.present c v)).flm.reaction.trip = true :=
    s.flm.take_present_any s.stamp (fun c => c.severity.trips) (by rw [hc]; rfl) v
  have hsafe : (s.quiet (.present c v)).flm.reaction.safeStop = true :=
    s.flm.take_present_any s.stamp (fun c => c.severity == .safeStop) (by rw [hc]; rfl) v
  have hmove : (s.quiet (.present c v)).ywc.move = s.ywc.move := rfl
  simp only [State.report, State.tell, State.safeStopTold, htrip, hsafe, hmove]
  generalize s.flm.reaction = before
  cases before.trip <;> cases before.safeStop <;> rfl

end

end Sys2Proof.Machine
end

section
/-! SUPPORT. The brake: its read-back and its two monitors (R109, R116, R117, R120 to R123, R207). -/

namespace Sys2Proof.Machine

/-! ## The read-back (R116, R121 to R123) -/

/-- R122, R123: the YWC with the brake released input turned to `level`, and the monitors following it. -/
def Ywc.braking (y : Ywc) (now : Clocks) (level : Bool) : Ywc :=
  { y with
    brakeIn := level
    releaseDue := if y.releaseOut && !level then some (now + ms 2000) else none
    applyDue := if !y.releaseOut && level then some (now + ms 2000) else none }

theorem setBrake_eq_braking (y : Ywc) (now : Clocks) {level : Bool} (h : y.brakeIn ≠ level) :
    Ywc.setBrake now y y.releaseOut level = y.braking now level := by
  have hbrake : y.brakeIn = !level := by cases hb : y.brakeIn <;> cases level <;> simp_all
  simp only [Ywc.setBrake, Ywc.braking, hbrake, monitor]
  cases y.releaseOut <;> cases level <;> rfl

theorem Ywc.braking_of_off {y : Ywc} (h : y.releaseOut = false) (now : Clocks) (level : Bool) : y.braking now level =
    { y with brakeIn := level, releaseDue := none, applyDue := if level then some (now + ms 2000) else none } := by
  simp only [Ywc.braking, h, Bool.false_and, Bool.not_false, Bool.true_and, Bool.false_eq_true, if_false]

theorem Ywc.braking_of_on {y : Ywc} (h : y.releaseOut = true) (now : Clocks) (level : Bool) : y.braking now level =
    { y with brakeIn := level, releaseDue := if level then none else some (now + ms 2000), applyDue := none } := by
  cases level <;> simp [Ywc.braking, h]

section
variable {s : State}

theorem brakeInput_same {level : Bool} (h : s.ywc.brakeIn = level) : s.brakeInput level = s := if_pos h

theorem brakeInput_on (hb : s.ywc.brakeIn = false) (hs : s.ywc.state ≠ .brakeRelease) :
    s.brakeInput true = s.setYwc (s.ywc.braking s.clock true) := by
  have hstate : (s.setYwc (s.ywc.braking s.clock true)).ywc.state = s.ywc.state := rfl
  simp only [State.brakeInput, hb, Bool.false_eq_true, if_false, Bool.not_true, Bool.false_and]
  rw [setBrake_eq_braking _ _ (by rw [hb]; decide), hstate]
  cases h : s.ywc.state with
  | brakeRelease => exact absurd h hs
  | idle | requestPower | moving | brakeApply => rfl

theorem brakeInput_released (hb : s.ywc.brakeIn = false) (hs : s.ywc.state = .brakeRelease) :
    s.brakeInput true = s.setYwc ((s.ywc.braking s.clock true).enterMoving s.clock s.apa.yawGranted) := by
  have hstate : (s.setYwc (s.ywc.braking s.clock true)).ywc.state = .brakeRelease := hs
  simp only [State.brakeInput, hb, Bool.false_eq_true, if_false, Bool.not_true, Bool.false_and]
  rw [setBrake_eq_braking _ _ (by rw [hb]; decide), hstate]
  rfl

theorem brakeInput_off (hb : s.ywc.brakeIn = true) (hout : s.ywc.releaseOut = true) (hs : s.ywc.state ≠ .brakeApply) :
    s.brakeInput false = s.setYwc (s.ywc.braking s.clock false) := by
  have hstate : (s.setYwc (s.ywc.braking s.clock false)).ywc.state = s.ywc.state := rfl
  have houtput : (s.setYwc (s.ywc.braking s.clock false)).ywc.releaseOut = true := hout
  simp only [State.brakeInput, hb, Bool.true_eq_false, if_false]
  rw [setBrake_eq_braking _ _ (by rw [hb]; decide)]
  simp only [houtput, Bool.not_true, Bool.and_false, Bool.false_eq_true, if_false, hstate]
  cases h : s.ywc.state with
  | brakeApply => exact absurd h hs
  | idle | requestPower | moving | brakeRelease => rfl

/-- R123: the brake applied with the release output off, BRAKE_APPLY_FAIL is gone. -/
theorem brakeInput_applied (hb : s.ywc.brakeIn = true) (hout : s.ywc.releaseOut = false) (hs : s.ywc.state ≠ .brakeApply) :
    s.brakeInput false = (s.setYwc (s.ywc.braking s.clock false)).reportGone .brakeApplyFail := by
  have houtput : (s.setYwc (s.ywc.braking s.clock false)).ywc.releaseOut = false := hout
  have hstate : ((s.setYwc (s.ywc.braking s.clock false)).reportGone .brakeApplyFail).ywc.state = s.ywc.state := by
    rw [(reportGone_undisturbed _ _).ywc]
    rfl
  simp only [State.brakeInput, hb, Bool.true_eq_false, if_false]
  rw [setBrake_eq_braking _ _ (by rw [hb]; decide)]
  simp only [houtput, Bool.not_false, Bool.and_true, if_true, hstate]
  cases h : s.ywc.state with
  | brakeApply => exact absurd h hs
  | idle | requestPower | moving | brakeRelease => rfl

theorem brakeInput_ends (hb : s.ywc.brakeIn = true) (hout : s.ywc.releaseOut = false) (hs : s.ywc.state = .brakeApply) :
    s.brakeInput false = ((s.setYwc (s.ywc.braking s.clock false)).reportGone .brakeApplyFail).endMove := by
  have houtput : (s.setYwc (s.ywc.braking s.clock false)).ywc.releaseOut = false := hout
  have hstate : ((s.setYwc (s.ywc.braking s.clock false)).reportGone .brakeApplyFail).ywc.state = .brakeApply := by
    rw [(reportGone_undisturbed _ _).ywc]
    exact hs
  simp only [State.brakeInput, hb, Bool.true_eq_false, if_false]
  rw [setBrake_eq_braking _ _ (by rw [hb]; decide)]
  simp only [houtput, Bool.not_false, Bool.and_true, if_true, hstate]

end

/-! ## The entry to MOVING (R116, R117, R124) -/

/-- R117, R124: the enables of MOVING, with no drive enabled before, and the feedback timers that follow them. -/
theorem Ywc.enterMoving_drives (y : Ywc) (now : Clocks) (k : Nat) (hen : y.enables = Vector.replicate 6 false) (d : Fin 6) :
    ((y.enterMoving now k).enables[d] = true ↔ y.selected k d) ∧
      (y.enterMoving now k).feedbackDue[d] =
        feedback now y.running[d] ((y.enterMoving now k).enables[d] != y.running[d]) y.feedbackDue[d] := by
  refine ⟨selectDrives_iff _ k d, (setDrives_feedbackDue _ _ _ _ d).trans ?_⟩
  have hoff : (y.enables[d] != y.running[d]) = y.running[d] := by
    rw [hen]
    simp
  simp only [hoff]
  rfl

end Sys2Proof.Machine
end

section
/-! SUPPORT. The two monitors of the brake (R109, R121 to R123, R175, R181, R207). -/

namespace Sys2Proof.Machine

/-! ## RELEASE_MONITOR_EXPIRY (R122) -/

section
variable {s : State}

theorem enterBrakeApply_releaseDue (hr : s.apa.yawRequest = none) : s.enterBrakeApply.ywc.releaseDue = none := by
  rw [enterBrakeApply_eq]
  split
  · rfl
  · obtain ⟨hywc, -⟩ := endMove_parts (s := s.braked) hr
    rw [hywc]
    rfl

/-- R122: the brake retry timer at the end of a stopped move. -/
theorem enterBrakeApply_retryDue (hr : s.apa.yawRequest = none) (hf : s.flm.holds .brakeReleaseFail = true) :
    s.enterBrakeApply.ywc.retryDue =
      if s.ywc.brakeIn = true then s.ywc.retryDue else some (s.ywc.retryDue.getD (s.clock + ms 60000)) := by
  rw [enterBrakeApply_eq]
  split
  · rfl
  · obtain ⟨hywc, -⟩ := endMove_parts (s := s.braked) hr
    have hfailed : s.braked.flm.holds .brakeReleaseFail = true := hf
    rw [hywc, hfailed]
    rfl

/-- R178: a stop clears no record but that of YAW_STALL. -/
theorem enterBrakeApply_openRecord? (hr : s.apa.yawRequest = none) {c : FaultCode} (hc : c ≠ .yawStall) :
    s.enterBrakeApply.flm.openRecord? c = s.flm.openRecord? c := by
  rw [enterBrakeApply_flm hr]
  split
  · rfl
  · exact Flm.openRecord?_goneIf_other hc _ _

/-- R122: the monitor expires with `v` as value. -/
theorem releaseMonitor_stops (hs : s.ywc.state = .brakeRelease ∨ s.ywc.state = .moving) (hr : s.apa.yawRequest = none)
    (v : Int) :
    let t := (s.report (.present .brakeReleaseFail v)).yawStopCause false
    t.clock = s.clock ∧ t.ywc.releaseDue = none ∧ t.flm.holds .brakeReleaseFail = true ∧ s.stopped t ∧
      t.ywc.retryDue = (if s.ywc.brakeIn = true then s.ywc.retryDue else some (s.ywc.retryDue.getD (s.clock + ms 60000))) ∧
      (s.flm.openRecord? .brakeReleaseFail = none →
        (t.flm.openRecord? .brakeReleaseFail).map (·.value) = some (BitVec.ofInt 32 v)) := by
  intro t
  have hholds : (s.quiet (.present .brakeReleaseFail v)).flm.holds .brakeReleaseFail = true :=
    s.flm.takePresent_holds _ _ _
  have ht : t = (s.quiet (.present .brakeReleaseFail v)).enterBrakeApply := report_stops rfl hs hr v
  rw [ht]
  refine ⟨State.enterBrakeApply_clock _, enterBrakeApply_releaseDue hr, ?_, stopped_of rfl rfl (enterBrakeApply_stopped hr),
    enterBrakeApply_retryDue hr hholds, fun hnone => ?_⟩
  · rw [enterBrakeApply_holds rfl]
    exact hholds
  · rw [enterBrakeApply_openRecord? (s := s.quiet _) hr (by decide)]
    exact openRecord?_takePresent hnone _ _

end

/-! ## APPLY_MONITOR_EXPIRY (R121, R123, R207) -/

section
variable {s : State}

/-- R180: the record of BRAKE_APPLY_FAIL makes safe stop hold. -/
theorem quiet_brakeApplyFail_safeStop (s : State) (v : Int) :
    (s.quiet (.present .brakeApplyFail v)).flm.reaction.safeStop = true :=
  s.flm.take_present_any s.stamp (fun c => c.severity == .safeStop) rfl v

/-- R119, R181: in IDLE and in BRAKE_APPLY the safe stop is the OSC's alone. -/
theorem report_brakeApplyFail_still (hs : s.ywc.state = .idle ∨ s.ywc.state = .brakeApply) (v : Int) :
    s.report (.present .brakeApplyFail v) = (s.quiet (.present .brakeApplyFail v)).safeStopTold s.flm.reaction := by
  rw [report_safeStop rfl, yawStopCause_still (s := s.quiet _) hs, ite_self]

/-- R119, R181: in REQUEST_POWER a yaw stop that comes to hold for the move withdraws it first. -/
theorem report_brakeApplyFail_requested (hs : s.ywc.state = .requestPower) (v : Int) :
    s.report (.present .brakeApplyFail v) =
      (if (if s.ywc.move.any (·.untwist) = true then s.flm.reaction.untwistYawStop else s.flm.reaction.yawStop) = false then
        (s.quiet (.present .brakeApplyFail v)).withdrawYaw
      else s.quiet (.present .brakeApplyFail v)).safeStopTold s.flm.reaction := by
  rw [report_safeStop rfl, yawStopCause_requestPower (s := s.quiet _) hs]
  exact congrArg (State.safeStopTold · s.flm.reaction)
    (if_congr (yawStopArises_present rfl (by decide) s v) rfl rfl)

/-- R178: a withdrawal lets no safe stop cease. -/
theorem withdrawYaw_safeStop : s.withdrawYaw.flm.reaction.safeStop = s.flm.reaction.safeStop := by
  obtain ⟨-, -, -, hflm⟩ := withdrawYaw_parts s
  have hwait : (s.flm.goneIf s.stamp .yawWaitPower).reaction.safeStop = s.flm.reaction.safeStop := by
    rw [Flm.goneIf]
    split
    · rw [Flm.reaction_take_mild _ _ (.gone .yawWaitPower) rfl]
    · rfl
  rw [hflm, Flm.goneIf]
  split
  · rw [Flm.reaction_take_gone_latching _ _ (c := .yawStall) rfl, hwait]
  · exact hwait

theorem endMove_safeStop (hr : s.apa.yawRequest = none) : s.endMove.flm.reaction.safeStop = s.flm.reaction.safeStop := by
  obtain ⟨-, -, -, hflm⟩ := endMove_parts hr
  rw [hflm, Flm.goneIf]
  split
  · rw [Flm.reaction_take_gone_latching _ _ (c := .yawStall) rfl]
  · rfl

/-- What BRAKE_APPLY_FAIL reported in `s` with value `v` comes to in the FLM and the OSC of `t`. -/
def State.applyFailed (s t : State) (v : Int) : Prop :=
  t.clock = s.clock ∧ t.flm.holds .brakeApplyFail = true ∧ t.flm.reaction.safeStop = true ∧
    (s.flm.openRecord? .brakeApplyFail = none →
      (t.flm.openRecord? .brakeApplyFail).map (·.value) = some (BitVec.ofInt 32 v)) ∧
    (s.flm.reaction.safeStop = false → s.osc.state.isUnloaded = false →
      t.osc.state = .safeStop ∧ (s.osc.enable = true → t.osc.enable = false ∧ t.scu.eLim = 0))

/-- The report itself. -/
theorem quiet_applyFailed (hmodes : s.osc.enable = true → s.osc.state ≠ .safeStop) (v : Int) :
    s.applyFailed ((s.quiet (.present .brakeApplyFail v)).safeStopTold s.flm.reaction) v := by
  have hsafe := quiet_brakeApplyFail_safeStop s v
  obtain ⟨hclock, -, -, hflm⟩ := safeStopTold_spec s.flm.reaction hsafe
  refine ⟨hclock, ?_, ?_, fun hnone => ?_, fun hb hl => ?_⟩
  · rw [hflm]
    exact s.flm.takePresent_holds _ _ _
  · rw [hflm]
    exact hsafe
  · rw [hflm]
    exact openRecord?_takePresent hnone _ _
  · exact safeStopTold_osc hsafe hb hl hmodes

/-- The report, with the request withdrawn before the OSC is told. -/
theorem withdrawn_applyFailed (hmodes : s.osc.enable = true → s.osc.state ≠ .safeStop) (v : Int) :
    s.applyFailed ((s.quiet (.present .brakeApplyFail v)).withdrawYaw.safeStopTold s.flm.reaction) v := by
  have hsafe : (s.quiet (.present .brakeApplyFail v)).withdrawYaw.flm.reaction.safeStop = true :=
    withdrawYaw_safeStop.trans (quiet_brakeApplyFail_safeStop s v)
  have hosc : (s.quiet (.present .brakeApplyFail v)).withdrawYaw.osc = s.osc := State.withdrawYaw_osc _
  obtain ⟨-, -, -, hwithdrawn⟩ := withdrawYaw_parts (s.quiet (.present .brakeApplyFail v))
  obtain ⟨hclock, -, -, hflm⟩ := safeStopTold_spec s.flm.reaction hsafe
  refine ⟨hclock.trans (State.withdrawYaw_clock _), ?_, ?_, fun hnone => ?_, fun hb hl => ?_⟩
  · rw [hflm, withdrawYaw_holds rfl]
    exact s.flm.takePresent_holds _ _ _
  · rw [hflm]
    exact hsafe
  · rw [hflm, hwithdrawn, Flm.openRecord?_goneIf_other (by decide), Flm.openRecord?_goneIf_other (by decide)]
    exact openRecord?_takePresent hnone _ _
  · have hstopped := safeStopTold_osc hsafe hb (by rw [hosc]; exact hl) (by rw [hosc]; exact hmodes)
    rw [hosc] at hstopped
    exact hstopped

/-- The move ended after the report. -/
theorem endMove_applyFailed {t : State} {v : Int} (h : s.applyFailed t v) (hr : t.apa.yawRequest = none) :
    s.applyFailed t.endMove v := by
  obtain ⟨hclock, hholds, hsafe, hrecord, hosc⟩ := h
  obtain ⟨-, -, -, hflm⟩ := endMove_parts hr
  refine ⟨by rw [State.endMove_clock, hclock], ?_, by rw [endMove_safeStop hr, hsafe], fun hnone => ?_, fun hb hl => ?_⟩
  · rw [hflm, Flm.goneIf_holds_other _ _ (by decide), hholds]
  · rw [hflm, Flm.openRecord?_goneIf_other (by decide)]
    exact hrecord hnone
  · rw [State.endMove_osc, State.endMove_scu]
    exact hosc hb hl

end

end Sys2Proof.Machine
end

section
/-! SUPPORT. The brake in each yaw state (R116, R121 to R123, R181, R205, R207). -/

namespace Sys2Proof.Machine

section
variable {s : State}

/-! ## The read-back -/

/-- R123, R205: where BRAKE_APPLY_FAIL was present, the trip may cease. -/
theorem brakeInput_gone (hb : s.ywc.brakeIn = true) (hout : s.ywc.releaseOut = false) (hs : s.ywc.state ≠ .brakeApply)
    (hfail : s.flm.holds .brakeApplyFail = true) :
    let f := s.flm.take s.stamp (.gone .brakeApplyFail)
    let u := { s with ywc := s.ywc.braking s.clock false, flm := f }
    s.brakeInput false =
      if s.flm.reaction.trip = true ∧ f.reaction.trip = false then
        match s.osc.state with
        | .tripped => { u with osc := { s.osc with restartDue := some (s.clock + ms 60000) } }
        | .standby => u.tested
        | _ => u
      else u := by
  intro f u
  have hgone : s.brakeInput false = if s.flm.reaction.trip = true ∧ f.reaction.trip = false then u.oscTripCeases else u := by
    have hheld : (s.setYwc (s.ywc.braking s.clock false)).flm.holds .brakeApplyFail = true := hfail
    rw [brakeInput_applied hb hout hs, State.reportGone, if_pos hheld, report_gone_eq]
    rfl
  have htripped : s.osc.state = .tripped →
      u.oscTripCeases = { u with osc := { s.osc with restartDue := some (s.clock + ms 60000) } } := oscTripCeases_tripped u
  have hstandby : s.osc.state = .standby → u.oscTripCeases = u.tested := oscTripCeases_standby u
  have hother : s.osc.state ≠ .tripped → s.osc.state ≠ .standby → u.oscTripCeases = u := oscTripCeases_other u
  rw [hgone]
  clear_value u
  refine if_congr Iff.rfl ?_ rfl
  split
  case h_1 h => exact htripped h
  case h_2 h => exact hstandby h
  case h_3 h1 h2 => exact hother h1 h2

/-- R121: the brake applied, the move ends. -/
theorem brakeInput_returns (hb : s.ywc.brakeIn = true) (hs : s.ywc.state = .brakeApply) (hout : s.ywc.releaseOut = false)
    (hr : s.apa.yawRequest = none) :
    (s.brakeInput false).ywc = (s.ywc.braking s.clock false).idled s.clock (s.flm.holds .brakeReleaseFail) ∧
      (s.brakeInput false).apa.yawGranted = 0 ∧ (s.brakeInput false).flm.holds .brakeApplyFail = false ∧
      (s.brakeInput false).flm.holds .yawStall = false := by
  have hgone := reportGone_undisturbed (s.setYwc (s.ywc.braking s.clock false)) .brakeApplyFail
  have hreq : ((s.setYwc (s.ywc.braking s.clock false)).reportGone .brakeApplyFail).apa.yawRequest = none := by
    rw [hgone.apa]
    exact hr
  have hholds := State.reportGone_holds (s.setYwc (s.ywc.braking s.clock false)) (c := .brakeApplyFail) rfl
  have hfailed : ((s.setYwc (s.ywc.braking s.clock false)).reportGone .brakeApplyFail).flm.holds .brakeReleaseFail =
      s.flm.holds .brakeReleaseFail := reportGone_holds_other rfl (by decide)
  obtain ⟨hywc, hgrant, -, hflm⟩ := endMove_parts hreq
  rw [brakeInput_ends hb hout hs, hywc, hgrant, hflm, hgone.ywc, hgone.clock, hfailed]
  refine ⟨rfl, rfl, ?_, Flm.goneIf_holds _ _ _⟩
  rw [Flm.goneIf_holds_other _ _ (by decide)]
  exact hholds

/-! ## The apply monitor -/

/-- R121: the read-back that stays on ends the move, too. -/
theorem applyMonitor_returns (hs : s.ywc.state = .brakeApply) (hr : s.apa.yawRequest = none)
    (hmodes : s.osc.enable = true → s.osc.state ≠ .safeStop) (v : Int) :
    let t := (s.report (.present .brakeApplyFail v)).endMove
    s.applyFailed t v ∧ t.ywc = s.ywc.idled s.clock (s.flm.holds .brakeReleaseFail) ∧ t.apa.yawGranted = 0 := by
  intro t
  have hreport := report_brakeApplyFail_still (.inr hs) v
  obtain ⟨hclock, hywc, hapa, hflm⟩ := safeStopTold_spec s.flm.reaction (quiet_brakeApplyFail_safeStop s v)
  rw [← hreport] at hclock hywc hapa hflm
  have hreq : (s.report (.present .brakeApplyFail v)).apa.yawRequest = none := by
    rw [hapa]
    exact hr
  have hfailed : (s.report (.present .brakeApplyFail v)).flm.holds .brakeReleaseFail = s.flm.holds .brakeReleaseFail :=
    report_holds_other rfl (show FaultCode.brakeApplyFail ≠ _ by decide)
  obtain ⟨hidled, hgrant, -⟩ := endMove_parts hreq
  refine ⟨endMove_applyFailed ?_ hreq, ?_, hgrant⟩
  · rw [hreport]
    exact quiet_applyFailed hmodes v
  · rw [hidled, hywc, hclock, hfailed]
    rfl

/-- R119: no stop cause holds yet for the move. -/
abbrev State.unstopped (s : State) : Prop :=
  (if s.ywc.move.any (·.untwist) = true then s.flm.reaction.untwistYawStop else s.flm.reaction.yawStop) = false

/-- R119: a request that waits is withdrawn where the yaw stop comes to hold for its move. -/
theorem applyMonitor_requested (hs : s.ywc.state = .requestPower) (hmodes : s.osc.enable = true → s.osc.state ≠ .safeStop)
    (v : Int) :
    let t := s.report (.present .brakeApplyFail v)
    s.applyFailed t v ∧
      if s.unstopped then
        t.ywc = s.ywc.idled s.clock (s.flm.holds .brakeReleaseFail) ∧ t.apa.yawRequest = none ∧
          t.apa.yawGranted = s.apa.yawGranted ∧ t.flm.holds .yawWaitPower = false
      else t.ywc = s.ywc ∧ t.apa = s.apa := by
  intro t
  have hreport := report_brakeApplyFail_requested hs v
  by_cases hstops : s.unstopped
  · rw [if_pos hstops] at hreport ⊢
    have hsafe := withdrawYaw_safeStop.trans (quiet_brakeApplyFail_safeStop s v)
    obtain ⟨-, hywc, hapa, hflm⟩ := safeStopTold_spec s.flm.reaction hsafe
    obtain ⟨hidled, hreq, hgrant, -⟩ := withdrawYaw_parts (s.quiet (.present .brakeApplyFail v))
    have hfailed : (s.quiet (.present .brakeApplyFail v)).flm.holds .brakeReleaseFail = s.flm.holds .brakeReleaseFail :=
      s.flm.take_holds_other s.stamp _ (show FaultCode.brakeApplyFail.index ≠ _ by decide)
    rw [show t = _ from hreport]
    refine ⟨withdrawn_applyFailed hmodes v, ?_, ?_, ?_, ?_⟩
    · rw [hywc, hidled, hfailed]
      rfl
    · rw [hapa, hreq]
    · rw [hapa, hgrant]
      rfl
    · rw [hflm]
      exact withdrawYaw_waitPower _
  · rw [if_neg hstops] at hreport ⊢
    obtain ⟨-, hywc, hapa, -⟩ := safeStopTold_spec s.flm.reaction (quiet_brakeApplyFail_safeStop s v)
    rw [show t = _ from hreport]
    exact ⟨quiet_applyFailed hmodes v, hywc, hapa⟩

end

/-! ## The commands -/

section
variable {s : State} {due : Clocks}

theorem exec_releaseMonitor (hd : s.ywc.releaseDue = some due) : exec .releaseMonitorExpiry s = .next
    ((((s.runTo due).setYwc { s.ywc with releaseDue := none }).report
      (.present .brakeReleaseFail (if s.ywc.state = .moving then 2 else 1))).yawStopCause false) := by
  rw [exec, execReleaseMonitorExpiry, State.releaseMonitor, hd]
  rfl

/-- R123: the apply monitor has expired, and is stopped. -/
def State.applyExpired (s : State) (due : Clocks) : State := (s.runTo due).setYwc { s.ywc with applyDue := none }

/-- R121: in BRAKE_APPLY the move ends. -/
def State.endIfApplied (s : State) : State := if s.ywc.state = .brakeApply then s.endMove else s

theorem exec_applyMonitor (hd : s.ywc.applyDue = some due) : exec .applyMonitorExpiry s = .next
    ((s.applyExpired due).report (.present .brakeApplyFail (if s.ywc.state = .brakeApply then 1 else 2))).endIfApplied := by
  have hends (t : State) : (match t.ywc.state with
      | .brakeApply => t.endMove
      | .idle | .requestPower | .brakeRelease | .moving => t) = t.endIfApplied := by
    cases h : t.ywc.state <;> simp [State.endIfApplied, h]
  have hrun : s.applyMonitor =
      ((s.applyExpired due).report (.present .brakeApplyFail (if s.ywc.state = .brakeApply then 1 else 2))).endIfApplied := by
    rw [State.applyMonitor, hd, ← hends]
    rfl
  rw [← hrun]
  rfl

theorem exec_applyMonitor_ends (hd : s.ywc.applyDue = some due) (hs : s.ywc.state = .brakeApply) :
    exec .applyMonitorExpiry s = .next ((s.applyExpired due).report (.present .brakeApplyFail 1)).endMove := by
  have hstate : ((s.applyExpired due).report (.present .brakeApplyFail 1)).ywc.state = .brakeApply := by
    rw [(report_still_undisturbed (s.applyExpired due) (.inr hs) _).ywc]
    exact hs
  rw [exec_applyMonitor hd, if_pos hs, State.endIfApplied, if_pos hstate]

theorem exec_applyMonitor_reports (hd : s.ywc.applyDue = some due) (hs : s.ywc.state = .idle ∨ s.ywc.state = .requestPower) :
    exec .applyMonitorExpiry s = .next ((s.applyExpired due).report (.present .brakeApplyFail 2)) := by
  have hne : s.ywc.state ≠ .brakeApply := by rcases hs with hs | hs <;> rw [hs] <;> decide
  have hstate : ((s.applyExpired due).report (.present .brakeApplyFail 2)).ywc.state ≠ .brakeApply := by
    rcases hs with hs | hs
    · rw [(report_still_undisturbed (s.applyExpired due) (.inl hs) _).ywc]
      exact hne
    · obtain ⟨hywc, -⟩ := report_ywc_apa (s.applyExpired due) (.present .brakeApplyFail 2)
      rw [hywc, yawStopCause_requestPower (s := (s.applyExpired due).quiet _) hs]
      split
      · obtain ⟨hidled, -⟩ := withdrawYaw_parts ((s.applyExpired due).quiet (.present .brakeApplyFail 2))
        rw [hidled]
        simp [Ywc.idled]
      · exact hne
  rw [exec_applyMonitor hd, if_neg hne, State.endIfApplied, if_neg hstate]

end

/-- R116, R117: in BRAKE_RELEASE and in MOVING the brake release output is on. -/
theorem State.yawFits.releaseOut_on {s : State} {b : Bool} (h : s.yawFits b)
    (hs : s.ywc.state = .brakeRelease ∨ s.ywc.state = .moving) : s.ywc.releaseOut = true := by
  obtain ⟨hout, -⟩ := h
  rw [hout]
  rcases hs with hs | hs <;> rw [hs] <;> rfl

/-- R199: the enable is off in SAFE_STOP. -/
theorem modesSound_enable {s : State} (h : s.modesSound) (he : s.osc.enable = true) : s.osc.state ≠ .safeStop := by
  obtain ⟨henable, -⟩ := h
  rw [henable] at he
  intro hs
  rw [hs] at he
  cases he

/-- Settles O45: the read-back in each yaw state, and the two monitors. -/
theorem theBrakeMovesTheYawState : Obligations.TheBrakeMovesTheYawState := by
  unfold Obligations.TheBrakeMovesTheYawState
  intro retryAfter
  refine ⟨fun dt s hsound => ⟨?same, ?on, ?enters, ?off, ?again, ?applied, ?ends⟩,
    fun due s hmodes hsound => ⟨?release, ?apply, ?request⟩⟩
  all_goals
    have hfit : s.yawFits s.osc.state.isUnloaded := hsound
  case same =>
    intro level hb
    exact congrArg Host.Outcome.next (brakeInput_same (s := s.elapse dt) hb)
  case on =>
    intro hb hs
    refine congrArg Host.Outcome.next ((brakeInput_on (s := s.elapse dt) hb ?_).trans ?_)
    · rcases hs with hs | hs | hs <;> exact fun h => by cases hs.symm.trans h
    · rw [Ywc.braking_of_off (y := (s.elapse dt).ywc) (hfit.releaseOut_of hs)]
      rfl
  case enters =>
    intro hb hs
    have hout := hfit.releaseOut_on (.inl hs)
    have hen : s.ywc.enables = Vector.replicate 6 false := hfit.enables_of (by rw [hs]; decide)
    let y : Ywc := Ywc.enterMoving (s.clock + dt) s.apa.yawGranted
      { s.ywc with brakeIn := true, releaseDue := none, applyDue := none }
    refine ⟨y, congrArg Host.Outcome.next ((brakeInput_released (s := s.elapse dt) hb hs).trans ?_), rfl, fun m hm => ?_,
      Ywc.enterMoving_drives _ _ _ hen⟩
    · rw [Ywc.braking_of_on (y := (s.elapse dt).ywc) hout]
      rfl
    · have hdirection : y.direction = (s.ywc.move.map (·.direction)).getD s.ywc.direction := rfl
      rw [hdirection, hm]
      rfl
  case off =>
    intro hb hs
    have hout := hfit.releaseOut_on hs.symm
    refine congrArg Host.Outcome.next ((brakeInput_off (s := s.elapse dt) hb hout ?_).trans ?_)
    · rcases hs with hs | hs <;> exact fun h => by cases hs.symm.trans h
    · rw [Ywc.braking_of_on (y := (s.elapse dt).ywc) hout]
      rfl
  case again =>
    intro hb hs
    have hout := hfit.releaseOut_on (.inr hs)
    refine congrArg Host.Outcome.next ((brakeInput_on (s := s.elapse dt) hb fun h => by cases hs.symm.trans h).trans ?_)
    rw [Ywc.braking_of_on (y := (s.elapse dt).ywc) hout]
    rfl
  case applied =>
    intro hb hs y
    have hout : s.ywc.releaseOut = false := hfit.releaseOut_of (hs.imp_right .inl)
    have hne : (s.elapse dt).ywc.state ≠ .brakeApply := by
      rcases hs with hs | hs <;> exact fun h => by cases hs.symm.trans h
    have hy : (s.elapse dt).ywc.braking (s.elapse dt).clock false = y :=
      Ywc.braking_of_off (y := (s.elapse dt).ywc) hout _ false
    refine ⟨fun hfail => congrArg Host.Outcome.next ?_, fun hfail => ?_⟩
    · have hquiet : (s.elapse dt).brakeInput false = (s.elapse dt).setYwc y := by
        rw [brakeInput_applied (s := s.elapse dt) hb hout hne, hy]
        exact if_neg (by simpa using hfail)
      exact hquiet
    · have hgone := brakeInput_gone (s := s.elapse dt) hb hout hne hfail
      rw [hy] at hgone
      exact congrArg Host.Outcome.next hgone
  case ends =>
    intro hb hs
    have hout : s.ywc.releaseOut = false := hfit.releaseOut_of (.inr (.inr hs))
    have hr : s.apa.yawRequest = none := hfit.unrequested (by rw [hs]; decide)
    obtain ⟨hywc, hgrant, happly, hstall⟩ := brakeInput_returns (s := s.elapse dt) hb hs hout hr
    rw [Ywc.braking_of_off (y := (s.elapse dt).ywc) hout] at hywc
    refine ⟨(s.elapse dt).brakeInput false, rfl, ?_⟩
    rw [hywc]
    exact ⟨rfl, rfl, rfl, rfl, rfl, rfl, rfl, rfl, rfl, rfl, hgrant, happly, hstall, rfl⟩
  case release =>
    intro hd hs
    have hr : s.apa.yawRequest = none := hfit.unrequested (by rcases hs with hs | hs <;> rw [hs] <;> decide)
    obtain ⟨hclock, hdue, hholds, hstopped, hretry, hrecord⟩ := releaseMonitor_stops
      (s := (s.runTo due).setYwc { s.ywc with releaseDue := none }) hs hr (if s.ywc.state = .moving then 2 else 1)
    refine ⟨_, exec_releaseMonitor hd, hclock, hdue, hholds, stopped_of rfl rfl hstopped, hretry, fun hnone => ?_⟩
    rw [hrecord hnone]
    split <;> rfl
  case apply =>
    intro hd hs
    have hr : s.apa.yawRequest = none := hfit.unrequested (by rcases hs with hs | hs <;> rw [hs] <;> decide)
    rcases hs with hs | hs
    · have hne : s.ywc.state ≠ .brakeApply := by rw [hs]; decide
      have hfailed := quiet_applyFailed (s := s.applyExpired due) (modesSound_enable hmodes) 2
      rw [← report_brakeApplyFail_still (s := s.applyExpired due) (.inl hs)] at hfailed
      obtain ⟨hclock, hholds, hsafe, hrecord, hosc⟩ := hfailed
      have hkept := report_still_undisturbed (s.applyExpired due) (.inl hs) (.present .brakeApplyFail 2)
      refine ⟨_, exec_applyMonitor_reports hd (.inl hs), hclock, ?_, hholds, hsafe, ?_, ?_, ?_, fun hnone => ?_, hosc⟩
      · rw [hkept.ywc]
        rfl
      · rw [hkept.ywc]
        exact hs
      · rw [hkept.apa]
        exact hfit.ungranted (.inl hs)
      · rw [hkept.ywc, if_neg hne]
        rfl
      · rw [hrecord hnone, if_neg hne]
        rfl
    · obtain ⟨hfailed, hywc, hgrant⟩ :=
        applyMonitor_returns (s := s.applyExpired due) hs hr (modesSound_enable hmodes) 1
      obtain ⟨hclock, hholds, hsafe, hrecord, hosc⟩ := hfailed
      refine ⟨_, exec_applyMonitor_ends hd hs, hclock, ?_, hholds, hsafe, ?_, hgrant, ?_, fun hnone => ?_, hosc⟩
      · rw [hywc]
        rfl
      · rw [hywc]
        rfl
      · rw [hywc, if_pos hs]
        rfl
      · rw [hrecord hnone, if_pos hs]
        rfl
  case request =>
    intro hd hs
    obtain ⟨hfailed, hmove⟩ := applyMonitor_requested (s := s.applyExpired due) hs (modesSound_enable hmodes) 2
    obtain ⟨hclock, hholds, hsafe, hrecord, hosc⟩ := hfailed
    refine ⟨_, exec_applyMonitor_reports hd (.inr hs), hclock, ?_⟩
    by_cases hstops : s.unstopped
    · rw [if_pos (show (s.applyExpired due).unstopped from hstops)] at hmove
      obtain ⟨hywc, hreq, hgrant, hwait⟩ := hmove
      rw [if_pos hstops, hywc]
      exact ⟨rfl, hholds, hsafe, hrecord,
        ⟨rfl, rfl, rfl, hreq, hgrant.trans (hfit.ungranted (.inr hs)), hwait, rfl⟩, hosc⟩
    · rw [if_neg (show ¬(s.applyExpired due).unstopped from hstops)] at hmove
      obtain ⟨hywc, hapa⟩ := hmove
      rw [if_neg hstops, hywc]
      exact ⟨rfl, hholds, hsafe, hrecord, ⟨rfl, hapa⟩, hosc⟩

end Sys2Proof.Machine
end

section
/-! SUPPORT. The temperature channels of the CLC (R133, R134). -/

namespace Sys2Proof.Machine

/-- R133: putting a channel back as it is changes nothing. -/
theorem Clc.setChannel_self {c : Clc} {i : Fin 8} {t : TempChannel} (h : c.channel? i = some t) : c.setChannel i t = c := by
  simp only [Clc.channel?] at h
  simp only [Clc.setChannel]
  split_ifs at h ⊢
  all_goals
    cases h
    rfl

/-- The four channels the CLC uses. -/
theorem Clc.channel?_eq_none {i : Fin 8} (c : Clc) (h0 : i ≠ 0) (h1 : i ≠ 1) (h2 : i ≠ 2) (h6 : i ≠ 6) :
    c.channel? i = none := by
  simp only [Clc.channel?, h0, h1, h2, h6, if_false]

section
variable {s : State} {i : Fin 8} {c : TempChannel} (h : s.clc.channel? i = some c)
include h

/-- R133, R134: a valid reading; a report is made where the channel comes back from OUT. -/
theorem temperatureReading_valid (v : Int) :
    let clc := s.clc.setChannel i { held := v, validity := .valid, holdDue := none }
    s.temperatureReading i (some v) = { s with
      clc := clc
      flm :=
        if c.validity = .out then
          (if clc.outBits = 0 then s.flm.take s.stamp (.gone .tempSensorInvalid)
            else s.flm.take s.stamp (.present .tempSensorInvalid clc.outBits))
        else s.flm } := by
  intro clc
  simp only [State.temperatureReading, h, TempChannel.take, Option.isSome_some, and_true, State.setClc_clc,
    outBitmap_eq_outBits, State.report_mild _ (.gone .tempSensorInvalid) rfl,
    State.report_mild _ (.present .tempSensorInvalid _) rfl]
  by_cases hout : c.validity = .out
  · rw [if_pos hout, if_pos hout]
    by_cases hbits : clc.outBits = 0
    · rw [if_pos hbits, if_pos hbits]
      rfl
    · rw [if_neg hbits, if_neg hbits]
      rfl
  · rw [if_neg hout, if_neg hout]
    rfl

/-- R133: an invalid reading starts the hold timer of a VALID channel, and is nothing to another. -/
theorem temperatureReading_invalid : s.temperatureReading i none =
    if c.validity = .valid then
      { s with clc := s.clc.setChannel i { held := c.held, validity := .holding, holdDue := some (s.clock + ms 10000) } }
    else s := by
  simp only [State.temperatureReading, h, Option.isSome_none, Bool.false_eq_true, and_false, if_false]
  cases hv : c.validity with
  | valid =>
    simp only [TempChannel.take, hv, if_true]
    rfl
  | holding | out =>
    simp only [TempChannel.take, hv, Clc.setChannel_self h, reduceCtorEq, if_false]
    rfl

/-- R134: at the end of its hold timer a channel is OUT, and the bitmap is reported. -/
theorem holdTimer_eq {due : Clocks} (hdue : c.holdDue = some due) :
    let clc := s.clc.setChannel i { held := c.held, validity := .out, holdDue := none }
    s.holdTimer i = { s with
      clock := max s.clock due, clc := clc
      flm := s.flm.take (stampOf (max s.clock due)) (.present .tempSensorInvalid clc.outBits) } := by
  simp only [State.holdTimer, h, hdue, atDue_some, outBitmap_eq_outBits,
    State.report_mild _ (.present .tempSensorInvalid _) rfl]
  rfl

end

/-- Settles O47: readings by validity, and the end of the hold timer. -/
theorem temperaturesAreHeld : Obligations.TemperaturesAreHeld := by
  constructor
  · intro dt i s now u
    refine ⟨fun h0 h1 h2 h6 v => ?_, fun c hc => ⟨fun v => ?_, ?_⟩⟩
    · have hnone : (s.elapse dt).clc.channel? i = none := Clc.channel?_eq_none _ h0 h1 h2 h6
      simp only [exec, execTemperatureReading, State.temperatureReading, hnone]
      rfl
    · exact congrArg Host.Outcome.next (temperatureReading_valid (s := s.elapse dt) hc v)
    · exact congrArg Host.Outcome.next (temperatureReading_invalid (s := s.elapse dt) hc)
  · intro due i c s hc hdue
    exact congrArg Host.Outcome.next (holdTimer_eq hc hdue)

end Sys2Proof.Machine
end

section
/-! SUPPORT. Pumps watched and changed over, and the loss of both (R135, R138 to R140, R201, R204). -/

namespace Sys2Proof.Machine

/-! ## A start where flow comes to be delivered (R149, R201) -/

/-- R201: nothing starts where the delivery has not changed for the better. -/
theorem startsOver_of_delivering {s : State} {old : Clc} (h : s.clc.delivering = true → old.delivering = true) :
    s.startsOver old = s := by
  refine if_neg fun ⟨_, hold, hnew⟩ => ?_
  rw [h hnew] at hold
  cases hold

/-- R149: what delivers flow. -/
theorem delivering_iff (c : Clc) : c.delivering = true ↔
    (∃ p : Fin 2, c.pumps[p].state = .duty ∧ c.pumps[p].runIn = true) ∧ c.minFlowInForce ≤ c.flow := by
  simp [Clc.delivering, toList_eq_map_finRange]

/-! ## Flow (R135, R139) -/

theorem onDuty_iff_or (c : Clc) : c.onDuty = true ↔ c.pumps[0].state = .duty ∨ c.pumps[1].state = .duty := by
  simp [onDuty_iff, Fin.exists_fin_two]

theorem flowReading_some (s : State) (v : Fin 2001) : s.flowReading (some v) = State.startsOver { s with
    clc := { s.clc with
      flow := v.val
      flowDue :=
        if (s.clc.pumps[0].state = .duty ∨ s.clc.pumps[1].state = .duty) ∧ v.val < s.clc.minFlowInForce then
          some (s.clc.flowDue.getD (s.clock + ms 5000))
        else none } } s.clc := by
  have hlow : ({ s.clc with flow := v.val } : Clc).lowFlow = true ↔
      (s.clc.pumps[0].state = .duty ∨ s.clc.pumps[1].state = .duty) ∧ v.val < s.clc.minFlowInForce := by
    rw [Clc.lowFlow, Bool.and_eq_true, onDuty_iff_or, decide_eq_true_eq]
  rw [State.flowReading, watchFlow_eq_startsOver]
  simp only [hlow]
  rfl

/-! ## Running inputs (R138) -/

/-- R138: the feedback timer of a pump that is watched. -/
theorem Pump.change_runIn (x : Pump) (now : Clocks) (level : Bool) : x.change now { x with runIn := level } =
    { x with
      runIn := level
      feedbackDue := if x.state = .failed then none
        else feedback now ((x.state == .duty) != x.runIn) ((x.state == .duty) != level) x.feedbackDue } := by
  rw [Pump.change, monitor_eq_feedback, Pump.disagrees, Pump.disagrees]
  by_cases hf : x.state = .failed
  · simp [hf, feedback]
  · have hwatched : (x.state != .failed) = true := by simpa using hf
    simp only [hf, hwatched, Bool.true_and, if_false]

theorem pumpRunning_eq (s : State) (p : Fin 2) (level : Bool) : s.pumpRunning p level =
    State.startsOver { s with clc := { s.clc with pumps := s.clc.pumps.set p { s.clc.pumps[p] with
      runIn := level
      feedbackDue := if s.clc.pumps[p].state = .failed then none
        else feedback s.clock ((s.clc.pumps[p].state == .duty) != s.clc.pumps[p].runIn)
          ((s.clc.pumps[p].state == .duty) != level) s.clc.pumps[p].feedbackDue } } } s.clc := by
  rw [State.pumpRunning, watchFlow_eq_startsOver]
  simp only [update, Pump.change_runIn]
  rfl

/-! ## A pump that fails (R140) -/

/-- A pump FAILED: its run output and its feedback timer are off. -/
def Pump.gone (p : Pump) : Pump := { p with state := .failed, feedbackDue := none }

/-- R140: the pump marked, and PUMP_FAIL with its number. -/
def State.pumpGone (s : State) (p : Fin 2) (flowDue : Option Clocks) : State :=
  { s with
    clc := { s.clc with pumps := s.clc.pumps.set p s.clc.pumps[p].gone, flowDue := flowDue }
    flm := s.flm.take s.stamp (.present .pumpFail (p.val + 1 : Nat)) }

section
variable {s : State} {p q : Fin 2}

theorem pumpGone_pump (hne : p ≠ q) (flowDue : Option Clocks) : (s.pumpGone p flowDue).clc.pumps[q] = s.clc.pumps[q] := by
  have hval : p.val ≠ q.val := fun h => hne (Fin.ext h)
  simp [State.pumpGone, Vector.getElem_set_ne, hval]

theorem pumpGone_pump_self (flowDue : Option Clocks) : (s.pumpGone p flowDue).clc.pumps[p].state = .failed := by
  simp [State.pumpGone, Pump.gone]

theorem otherPump_of_ne (hne : p ≠ q) : otherPump p = q := by
  revert p q
  decide

theorem eq_or_eq_of_ne (hne : p ≠ q) (i : Fin 2) : i = p ∨ i = q := by
  revert p q i
  decide

theorem failPump_standby (hp : s.clc.pumps[p].state = .standby) : s.failPump p = s.pumpGone p s.clc.flowDue := by
  simp only [State.failPump, State.report_mild _ (.present .pumpFail _) rfl, hp]
  rfl

theorem failPump_duty (hne : p ≠ q) (hp : s.clc.pumps[p].state = .duty) : s.failPump p =
    if (s.pumpGone p none).clc.pumps[q].state = .standby then
      (s.pumpGone p none).setClc ((s.pumpGone p none).clc.takeDuty (s.pumpGone p none).clock q)
    else (s.pumpGone p none).report (.present .coolingLost (s.pumpGone p none).clc.flow) := by
  have hother := otherPump_of_ne hne
  subst hother
  simp only [State.failPump, State.report_mild _ (.present .pumpFail _) rfl, hp]
  change (match (s.pumpGone p none).clc.pumps[otherPump p].state with
    | .standby => (s.pumpGone p none).setClc ((s.pumpGone p none).clc.takeDuty (s.pumpGone p none).clock (otherPump p))
    | .failed | .duty => (s.pumpGone p none).report (.present .coolingLost (s.pumpGone p none).clc.flow)) = _
  generalize s.pumpGone p none = t
  cases t.clc.pumps[otherPump p].state <;> rfl

/-- R149: a pump that fails delivers nothing more. -/
theorem pumpGone_delivering (flowDue : Option Clocks) (h : (s.pumpGone p flowDue).clc.delivering = true) :
    s.clc.delivering = true := by
  obtain ⟨⟨i, hduty, hrun⟩, hflow⟩ := (delivering_iff _).mp h
  have hne : p ≠ i := by
    rintro rfl
    rw [pumpGone_pump_self] at hduty
    cases hduty
  rw [pumpGone_pump hne] at hduty hrun
  exact (delivering_iff _).mpr ⟨⟨i, hduty, hrun⟩, hflow⟩

/-- R140: a STANDBY pump that fails is lost, and nothing else. -/
theorem watchFlow_failPump_standby (hp : s.clc.pumps[p].state = .standby) :
    s.watchFlow (·.failPump p) = s.pumpGone p s.clc.flowDue := by
  rw [watchFlow_eq_startsOver, failPump_standby hp]
  exact startsOver_of_delivering (pumpGone_delivering _)

/-- R139, R140: a STANDBY pump takes the duty over. -/
theorem watchFlow_failPump_duty (hne : p ≠ q) (hp : s.clc.pumps[p].state = .duty) (hq : s.clc.pumps[q].state = .standby) :
    s.watchFlow (·.failPump p) = State.startsOver { s.pumpGone p none with
      clc := { s.clc with
        pumps := (s.clc.pumps.set p s.clc.pumps[p].gone).set q { s.clc.pumps[q] with
          state := .duty
          feedbackDue := feedback s.clock s.clc.pumps[q].runIn (!s.clc.pumps[q].runIn) s.clc.pumps[q].feedbackDue }
        flowDue := if s.clc.flow < s.clc.minFlowInForce then some (s.clock + ms 5000) else none } } s.clc := by
  have hpump : (s.pumpGone p none).clc.pumps[q] = s.clc.pumps[q] := pumpGone_pump hne none
  have hchange : s.clc.pumps[q].change s.clock { s.clc.pumps[q] with state := .duty } = { s.clc.pumps[q] with
      state := .duty
      feedbackDue := feedback s.clock s.clc.pumps[q].runIn (!s.clc.pumps[q].runIn) s.clc.pumps[q].feedbackDue } := by
    simp only [Pump.change, monitor_eq_feedback, Pump.disagrees, hq]
    cases s.clc.pumps[q].runIn <;> rfl
  have htake : (s.pumpGone p none).clc.takeDuty s.clock q = { s.clc with
      pumps := (s.clc.pumps.set p s.clc.pumps[p].gone).set q { s.clc.pumps[q] with
        state := .duty
        feedbackDue := feedback s.clock s.clc.pumps[q].runIn (!s.clc.pumps[q].runIn) s.clc.pumps[q].feedbackDue }
      flowDue := if s.clc.flow < s.clc.minFlowInForce then some (s.clock + ms 5000) else none } := by
    rw [← hchange]
    simp only [Clc.takeDuty, update, hpump]
    rfl
  have hfail : s.failPump p =
      (s.pumpGone p none).setClc ((s.pumpGone p none).clc.takeDuty (s.pumpGone p none).clock q) := by
    rw [failPump_duty hne hp, if_pos (by rw [hpump, hq])]
  rw [watchFlow_eq_startsOver, hfail, ← htake]
  rfl

/-- R140, R204: with both pumps FAILED the cooling is lost, and a producing station trips. -/
theorem watchFlow_failPump_lost (hne : p ≠ q) (hp : s.clc.pumps[p].state = .duty) (hq : s.clc.pumps[q].state = .failed) :
    let t := s.watchFlow (·.failPump p)
    t.clc = { s.clc with pumps := s.clc.pumps.set p s.clc.pumps[p].gone, flowDue := none } ∧
      t.flm.holds .pumpFail = true ∧ t.flm.holds .coolingLost = true ∧
      (s.osc.state.isProducing = true → s.osc.enable = true → s.flm.reaction.trip = false →
        t.osc.state = .tripped ∧ t.osc.enable = false ∧ t.scu.eLim = 0) := by
  intro t
  let u := s.pumpGone p none
  have hpump : u.clc.pumps[q].state = .failed := by rw [pumpGone_pump hne, hq]
  have hfail : s.failPump p = u.report (.present .coolingLost u.clc.flow) := by
    rw [failPump_duty hne hp]
    exact if_neg (by rw [hpump]; decide)
  have hclc : (u.report (.present .coolingLost u.clc.flow)).clc = u.clc := (report_other_undisturbed u rfl).clc
  have ht : t = u.report (.present .coolingLost u.clc.flow) := by
    simp only [t]
    rw [watchFlow_eq_startsOver, hfail]
    refine startsOver_of_delivering ?_
    rw [hclc]
    exact pumpGone_delivering none
  rw [ht]
  refine ⟨hclc, ?_, report_present_holds rfl _, fun hprod henable htrip => ?_⟩
  · rw [report_holds_other rfl (by simp only [Report.code]; decide)]
    exact s.flm.takePresent_holds _ _ _
  · have hcalm : u.flm.reaction.trip = false :=
      (congrArg Reaction.trip (s.flm.reaction_take_mild s.stamp (.present .pumpFail _) rfl)).trans htrip
    obtain ⟨⟨hstate, hosc, -⟩, -⟩ := report_tripsTo u (c := .coolingLost) rfl u.clc.flow hprod henable hcalm
    rw [hosc]
    refine ⟨rfl, rfl, ?_⟩
    rw [hstate]
    rfl

end

/-- R139: the flow monitor is that of the pump on duty. -/
theorem flowMonitor_eq {s : State} {due : Clocks} {p q : Fin 2} (hne : p ≠ q) (hdue : s.clc.flowDue = some due)
    (hp : s.clc.pumps[p].state = .duty) (hq : s.clc.pumps[q].state ≠ .duty) :
    s.flowMonitor = (s.runTo due).watchFlow (·.failPump p) := by
  have hlow : (lowest? fun i : Fin 2 => (s.runTo due).clc.pumps[i].state == .duty) = some p := by
    cases hl : lowest? fun i : Fin 2 => (s.runTo due).clc.pumps[i].state == .duty with
    | none => exact absurd hp (by simpa [-Fin.getElem_fin] using lowest?_none.mp hl p)
    | some i =>
      have hi : s.clc.pumps[i].state = .duty := by simpa using lowest?_some hl
      rcases eq_or_eq_of_ne hne i with rfl | rfl
      · rfl
      · exact absurd hi hq
  rw [State.flowMonitor, hdue, atDue_some]
  simp only [hlow]

/-- R138 to R140: either timer fails its pump. -/
theorem exec_pumpExpiry {s : State} {due : Clocks} {p q : Fin 2} {c : Instr} (hne : p ≠ q)
    (h : (c = .pumpFeedbackTimerExpiry p ∧ s.clc.pumps[p].feedbackDue = some due) ∨
      (c = .flowMonitorExpiry ∧ s.clc.flowDue = some due ∧ s.clc.pumps[p].state = .duty ∧ s.clc.pumps[q].state ≠ .duty)) :
    exec c s = .next ((s.runTo due).watchFlow (·.failPump p)) := by
  rcases h with ⟨rfl, hdue⟩ | ⟨rfl, hdue, hp, hq⟩
  · simp only [exec, execPumpFeedbackTimerExpiry, State.pumpFeedback, hdue, atDue_some]
  · simp only [exec, execFlowMonitorExpiry, flowMonitor_eq hne hdue hp hq]

/-- Settles O48: flow readings, running inputs, and the two timers by the state of the other pump. -/
theorem pumpsAreWatchedAndChangedOver : Obligations.PumpsAreWatchedAndChangedOver := by
  constructor
  · intro dt s now
    refine ⟨rfl, fun v => ?_, fun p level => ?_⟩
    · exact congrArg Host.Outcome.next (flowReading_some (s.elapse dt) v)
    · exact congrArg Host.Outcome.next (pumpRunning_eq (s.elapse dt) p level)
  · intro due p q c s hne h now gone flm
    rw [exec_pumpExpiry hne h]
    refine ⟨fun hp => ?_, fun hp hq => ?_, fun hp hq => ?_⟩
    · exact congrArg Host.Outcome.next (watchFlow_failPump_standby (s := s.runTo due) hp)
    · exact congrArg Host.Outcome.next (watchFlow_failPump_duty (s := s.runTo due) hne hp hq)
    · exact ⟨_, rfl, watchFlow_failPump_lost (s := s.runTo due) hne hp hq⟩

end Sys2Proof.Machine
end

section
/-! SUPPORT. Fans watched, and a failed one replaced under its grant (R142, R143, R160, R165). -/

namespace Sys2Proof.Machine

/-! ## The arbiter with no fan left to start (R142, R163) -/

/-- The CLC and the fan grants of `s` stand in `t`. -/
def State.fansLeft (s t : State) : Prop := t.clc = s.clc ∧ t.apa.fansGranted = s.apa.fansGranted

namespace State.fansLeft
variable {r s t : State}

theorem refl (s : State) : s.fansLeft s := ⟨rfl, rfl⟩

theorem trans (h : r.fansLeft s) (g : s.fansLeft t) : r.fansLeft t := ⟨g.1.trans h.1, g.2.trans h.2⟩

/-- R142, R163: a grant that finds no fan is released at once. -/
theorem tryFan (h : r.fansLeft s) (hnone : r.clc.fanToStart = none) : r.fansLeft s.tryFan := by
  have hstart : s.clc.fanToStart = none := by rw [h.1, hnone]
  refine h.trans ?_
  simp only [State.tryFan]
  split
  · refine ⟨by rw [grantFan_clc, hstart]; rfl, ?_⟩
    rw [(grantFan_spec s).1, hstart]
    rfl
  · exact .refl s

theorem tryYaw (h : r.fansLeft s) : r.fansLeft s.tryYaw := by
  refine h.trans ?_
  simp only [State.tryYaw]
  split
  · exact ⟨grantYaw_clc _ _, by rw [grantYaw_apa]⟩
  · exact .refl s

theorem tryRequests (h : r.fansLeft s) (hnone : r.clc.fanToStart = none) : r.fansLeft s.tryRequests := by
  simp only [State.tryRequests]
  split
  · exact h.tryYaw.tryFan hnone
  · exact (h.tryFan hnone).tryYaw

/-- R165: a release of the yaw grant that no shedding waits for. -/
theorem releaseYaw (h : r.fansLeft s) (hnone : r.clc.fanToStart = none) (hshed : s.apa.shedPending = false) :
    r.fansLeft s.releaseYaw := by
  have hless : r.fansLeft (s.setApa { s.apa with yawGranted := 0, overrideSent := false }) := h
  have hrelease : s.releaseYaw = (s.setApa { s.apa with yawGranted := 0, overrideSent := false }).tryRequests :=
    congrArg State.tryRequests (if_neg (Bool.eq_false_iff.mp hshed))
  rw [hrelease]
  exact hless.tryRequests hnone

theorem enterBrakeApply (h : r.fansLeft s) (hnone : r.clc.fanToStart = none) (hshed : s.apa.shedPending = false) :
    r.fansLeft s.enterBrakeApply := by
  have hbraked : r.fansLeft s.braked := h
  rw [enterBrakeApply_eq]
  split
  · exact hbraked
  · obtain ⟨hclc, hgranted⟩ := hbraked.releaseYaw hnone hshed
    exact ⟨(yawToIdle_clc _).trans hclc, (congrArg Apa.fansGranted (State.yawToIdle_apa _)).trans hgranted⟩

/-- R166, R168: shedding is owed in BRAKE_APPLY alone, where the stop request finds no move. -/
theorem overrideStop (h : r.fansLeft s) (hnone : r.clc.fanToStart = none) (hshed : s.shedFits) :
    r.fansLeft s.overrideStop := by
  let u : State := (s.setApa { s.apa with overrideSent := true }).quiet (.event .auxOverride s.clc.overrideTemp)
  have hu : r.fansLeft u := h
  have hstop : s.overrideStop = u.yawStopCause false := rfl
  rw [hstop]
  by_cases hs : s.ywc.state = .brakeRelease ∨ s.ywc.state = .moving
  · have hfree : s.apa.shedPending = false := by
      refine Bool.eq_false_iff.mpr fun hp => ?_
      have happly := hshed hp
      rw [happly] at hs
      rcases hs with hs | hs <;> cases hs
    rw [yawStopCause_turning (s := u) hs]
    exact hu.enterBrakeApply hnone hfree
  · have hstill : u.yawStopCause false = u := by
      have hu : u.ywc = s.ywc := rfl
      cases hy : s.ywc.state <;> simp_all [State.yawStopCause]
    rw [hstill]
    exact hu

end State.fansLeft

/-- R115, R168: a yaw request and shedding do not wait together, so what an examination tries leaves shedding where it was. -/
theorem tryRequests_shedFits {s : State} {b : Bool} (hy : s.yawFits b) (hshed : s.shedFits) : s.tryRequests.shedFits := by
  intro hp
  have happly := hshed ((State.tryRequests_shedPending s).symm.trans hp)
  rw [tryRequests_of_none (hy.unrequested (by rw [happly]; decide)), State.tryFan_ywc]
  exact happly

/-- R162, R166: an examination with no fan left to start. -/
theorem examine_fansLeft {s : State} {b : Bool} (hy : s.yawFits b) (hshed : s.shedFits) (hnone : s.clc.fanToStart = none) :
    s.fansLeft s.examine := by
  have htried := (State.fansLeft.refl s).tryRequests hnone
  simp only [State.examine]
  split
  · exact htried.overrideStop hnone (tryRequests_shedFits hy hshed)
  · exact htried

/-! ## Running inputs (R143) -/

theorem Fan.change_runIn (x : Fan) (now : Clocks) (level : Bool) : x.change now { x with runIn := level } =
    { x with
      runIn := level
      feedbackDue :=
        if x.failed then none else feedback now (x.runOut != x.runIn) (x.runOut != level) x.feedbackDue } := by
  simp only [Fan.change, monitor_eq_feedback, Fan.disagrees]
  cases x.failed <;> rfl

/-! ## A fan that fails (R143) -/

/-- R143: a fan FAILED: its run output and its feedback timer are off. -/
def Fan.gone (x : Fan) : Fan := { x with failed := true, runOut := false, feedbackDue := none }

theorem Clc.fanFailed_eq (c : Clc) (now : Clocks) (f : Fin 4) :
    c.fanFailed now f = { c with fans := c.fans.set f c.fans[f].gone } := rfl

/-- R143: the bitmap of FAILED fans once fan `f` has failed. -/
theorem fanFailed_failedFans (c : Clc) (now : Clocks) (f : Fin 4) : ((c.fanFailed now f).failedFans : Int) =
    ((List.finRange 4).map fun g => if g = f ∨ c.fans[g].failed = true then (2 : Int) ^ g.val else 0).sum := by
  have hbits : (c.fanFailed now f).failedFans = bitSum fun g : Fin 4 => (c.fanFailed now f).fans[g].failed :=
    bitmap_eq_sum _
  rw [hbits, bitSum_eq_ite, Nat.cast_list_sum, List.map_map]
  congr 2
  funext g
  have hmark : (c.fanFailed now f).fans[g].failed = true ↔ g = f ∨ c.fans[g].failed = true := by
    rw [Clc.fanFailed_failed, Bool.or_eq_true, beq_iff_eq, or_comm, eq_comm]
  simp only [Function.comp_apply, hmark]
  split <;> simp

section
variable {c : Clc} {now : Clocks} {f g : Fin 4}

/-- R143: the fans that can take the place of fan `f`. -/
theorem fanFailed_spare : (!(c.fanFailed now f).fans[g].failed && !(c.fanFailed now f).fans[g].runOut) = true ↔
    g ≠ f ∧ c.fans[g].failed = false ∧ c.fans[g].runOut = false := by
  have hruns : (c.fanFailed now f).fans[g].runOut = (c.fans[g].runOut && g != f) := Clc.fanFailed_runs c now f g
  rw [Clc.fanFailed_failed, hruns]
  by_cases hgf : g = f
  · simp [hgf]
  · simp [hgf, Ne.symm hgf]

theorem fanFailed_start_none
    (h : ∀ g : Fin 4, ¬(g ≠ f ∧ c.fans[g].failed = false ∧ c.fans[g].runOut = false)) :
    (c.fanFailed now f).fanToStart = none :=
  lowest?_none.mpr fun g => Bool.eq_false_iff.mpr fun hg => h g (fanFailed_spare.mp hg)

theorem fanFailed_start_some (hg : g ≠ f ∧ c.fans[g].failed = false ∧ c.fans[g].runOut = false)
    (hleast : ∀ h : Fin 4, h ≠ f ∧ c.fans[h].failed = false ∧ c.fans[h].runOut = false → g ≤ h) :
    (c.fanFailed now f).fanToStart = some g := by
  cases hstart : (c.fanFailed now f).fanToStart with
  | none => exact absurd (fanFailed_spare.mpr hg) (Bool.eq_false_iff.mp (lowest?_none.mp hstart g))
  | some i =>
    have hle := lowest?_least hstart (fanFailed_spare.mpr hg)
    exact congrArg some (le_antisymm hle (hleast i (fanFailed_spare.mp (lowest?_some hstart))))

/-- R143: the fan that takes the place starts, and its feedback timer with its run output. -/
theorem fanFailed_setFanOut (hg : g ≠ f ∧ c.fans[g].failed = false ∧ c.fans[g].runOut = false) :
    (c.fanFailed now f).setFanOut now g true = { c with
      fans := (c.fans.set f c.fans[f].gone).set g { c.fans[g] with
        runOut := true
        feedbackDue := feedback now c.fans[g].runIn (!c.fans[g].runIn) c.fans[g].feedbackDue } } := by
  obtain ⟨hne, hgood, hoff⟩ := hg
  have hval : f.val ≠ g.val := fun h => hne (Fin.ext h.symm)
  have hfan : (c.fanFailed now f).fans[g] = c.fans[g] := by
    simp [Clc.fanFailed, update, Vector.getElem_set_ne, hval]
  have hchange : c.fans[g].change now { c.fans[g] with runOut := true } = { c.fans[g] with
      runOut := true
      feedbackDue := feedback now c.fans[g].runIn (!c.fans[g].runIn) c.fans[g].feedbackDue } := by
    simp only [Fan.change, monitor_eq_feedback, Fan.disagrees, hgood, hoff]
    cases c.fans[g].runIn <;> rfl
  rw [← hchange]
  simp only [Clc.setFanOut, update, hfan]
  rfl

end

/-- As many usable fans as run, and one more where one stands still. -/
theorem usableFans_ge {c : Clc} (hoff : ∀ g : Fin 4, c.fans[g].failed = true → c.runs g = false) {g : Fin 4}
    (hstart : c.fanToStart = some g) : setCount c.runs + 1 ≤ c.usableFans := by
  obtain ⟨hgood, hstill⟩ := fanToStart_some hstart
  have hmore : setCount (fun i => c.runs i || g == i) = setCount c.runs + 1 := setCount_insert hstill fun _ => rfl
  rw [← hmore, Clc.usableFans, toList_eq_map_finRange, List.filter_map, List.length_map, setCount,
    ← List.countP_eq_length_filter, ← List.countP_eq_length_filter]
  refine List.countP_mono_left fun i _ hi => ?_
  have hi : c.fans[i].failed = false := by
    rcases Bool.or_eq_true_iff.mp hi with hi | hi
    · exact Bool.eq_false_iff.mpr fun hf => by rw [hoff i hf] at hi; cases hi
    · rw [← beq_iff_eq.mp hi]
      exact hgood
  simpa using hi

section
variable {s : State} {f : Fin 4}

theorem fanMarked_eq (s : State) (f : Fin 4) : s.fanMarked f = { s with
    clc := { s.clc with fans := s.clc.fans.set f s.clc.fans[f].gone }
    flm := s.flm.take s.stamp (.present .fanFail
      ((List.finRange 4).map fun g => if g = f ∨ s.clc.fans[g].failed = true then (2 : Int) ^ g.val else 0).sum) } := by
  rw [State.fanMarked, fanFailed_failedFans]
  rfl

/-- R143: a fan that stands still is marked. -/
theorem failFan_still (hoff : s.clc.fans[f].runOut = false) : s.failFan f = s.fanMarked f := by
  rw [failFan_eq]
  exact if_neg (by rw [Clc.runs, hoff]; exact Bool.false_ne_true)

variable (hon : s.clc.fans[f].runOut = true) (hfits : s.fansFit)
include hon hfits

/-- R142: once a running fan is marked, one fan fewer runs than is granted. -/
theorem fanMarked_count : setCount (s.fanMarked f).clc.runs + 1 = s.apa.fansGranted := by
  obtain ⟨hcount, -⟩ := hfits
  exact (setCount_erase (f := f) hon (s.clc.fanFailed_runs s.clock f)).symm.trans hcount

/-- R143: a fan that stands still takes a running fan's place under the same grant. -/
theorem failFan_replaced {g : Fin 4} (hstart : (s.clc.fanFailed s.clock f).fanToStart = some g) : s.failFan f =
    (s.fanMarked f).setClc ((s.clc.fanFailed s.clock f).setFanOut s.clock g true) := by
  have hcount := fanMarked_count hon hfits
  have husable := usableFans_ge (Clc.fanFailed_off hfits.2 s.clock f) hstart
  have hstay : ¬(s.fanMarked f).clc.usableFans < (s.fanMarked f).apa.fansGranted :=
    Nat.not_lt.mpr (hcount.symm.le.trans husable)
  have hspare : (s.fanMarked f).clc.fanToStart = some g := hstart
  rw [failFan_eq, if_pos (show s.clc.runs f = true from hon), if_neg hstay, hspare]
  rfl

/-- R143, R165: without one the grant is released. -/
theorem failFan_released {b : Bool} (hy : s.yawFits b) (hshed : s.shedFits)
    (hnone : (s.clc.fanFailed s.clock f).fanToStart = none) :
    (s.failFan f).clc = { s.clc with fans := s.clc.fans.set f s.clc.fans[f].gone } ∧
      (s.failFan f).apa.fansGranted = s.apa.fansGranted - 1 ∧ (s.failFan f).flm.holds .fanFail = true := by
  have hcount := fanMarked_count hon hfits
  have husable : (s.fanMarked f).clc.usableFans ≤ setCount (s.fanMarked f).clc.runs :=
    usableFans_le (c := (s.fanMarked f).clc) hnone
  have hless : (s.fanMarked f).clc.usableFans < (s.fanMarked f).apa.fansGranted :=
    Nat.lt_of_lt_of_le (Nat.lt_succ_of_le husable) hcount.le
  let u : State := (s.fanMarked f).setApa { s.apa with fansGranted := s.apa.fansGranted - 1 }
  have hexamine : s.failFan f = u.examine := by
    rw [failFan_eq, if_pos (show s.clc.runs f = true from hon), if_pos hless]
    rfl
  obtain ⟨hclc, hgranted⟩ := examine_fansLeft (s := u) (b := b) hy hshed hnone
  rw [hexamine]
  refine ⟨hclc, hgranted, ?_⟩
  rw [examine_holds _ rfl]
  exact s.flm.takePresent_holds _ _ _

end

/-- Settles O49: running inputs, and the feedback timer by what the failed fan did and who can take its place. -/
theorem fansAreWatchedAndReplaced : Obligations.FansAreWatchedAndReplaced := by
  constructor
  · intro dt f level s now x
    have hchange := Fan.change_runIn x now level
    simp only [exec, execFanRunningInput, State.fanRunning, update]
    rw [← hchange]
    rfl
  · intro due f s hdue hgood hpower hyaw now bits gone spare flm
    obtain ⟨⟨hfits, -, hshed⟩, -⟩ := (powerSound_iff s).mp hpower
    let u : State := s.runTo due
    have hexec : exec (.fanFeedbackTimerExpiry f) s = .next (u.failFan f) := by
      simp only [exec, execFanFeedbackTimerExpiry, State.fanFeedback, hdue, atDue_some, u]
    rw [hexec]
    refine ⟨fun hoff => ?_, fun hon => ⟨fun g hg hleast => ?_, fun hnone => ?_⟩⟩
    · rw [failFan_still (s := u) hoff, fanMarked_eq]
      rfl
    · rw [failFan_replaced (s := u) hon hfits (fanFailed_start_some hg hleast), fanFailed_setFanOut (c := u.clc) hg, fanMarked_eq]
      rfl
    · obtain ⟨hclc, hgranted, hholds⟩ :=
        failFan_released (s := u) hon hfits ((yawSound_iff s).mp hyaw) hshed (fanFailed_start_none hnone)
      exact ⟨_, rfl, hclc, hgranted, hholds⟩

end Sys2Proof.Machine
end

section
/-! SUPPORT. The scans of the CTS: the order of the channels, the classes, and the conditions of their roles (R153 to R157). -/

namespace Sys2Proof.Machine

/-! ## The order of the channels (R153) -/

section
variable (c : Cts) (n : Nat)

theorem scannedFrom?_none : c.scannedFrom? n = none ↔ ∀ j : Fin 8, n ≤ j.val → c.channels[j].scanned = false := by
  rw [Cts.scannedFrom?, lowest?_none]
  exact forall_congr' fun j => by simp [-Fin.getElem_fin]

theorem scannedFrom?_some {i : Fin 8} (h : c.scannedFrom? n = some i) :
    n ≤ i.val ∧ c.channels[i].scanned = true ∧ ∀ j : Fin 8, n ≤ j.val → j < i → c.channels[j].scanned = false := by
  have hi : n ≤ i.val ∧ c.channels[i].scanned = true := by simpa [-Fin.getElem_fin] using lowest?_some h
  refine ⟨hi.1, hi.2, fun j hj hlt => Bool.eq_false_iff.mpr fun hs => ?_⟩
  have hle : i ≤ j := lowest?_least h (by simpa [-Fin.getElem_fin] using And.intro hj hs)
  exact absurd hlt (not_lt.mpr hle)

/-- R153: the lowest scanned channel of all. -/
theorem scannedFrom?_zero {i : Fin 8} (hi : c.channels[i].scanned = true)
    (hleast : ∀ j : Fin 8, j < i → c.channels[j].scanned = false) : c.scannedFrom? 0 = some i := by
  cases h : c.scannedFrom? 0 with
  | none =>
    have hnone := (scannedFrom?_none c 0).mp h i (Nat.zero_le _)
    rw [hi] at hnone
    cases hnone
  | some k =>
    obtain ⟨-, hk, hbelow⟩ := scannedFrom?_some c 0 h
    rcases lt_trichotomy k i with hlt | rfl | hgt
    · rw [hleast k hlt] at hk
      cases hk
    · rfl
    · rw [hbelow i (Nat.zero_le _) hgt] at hi
      cases hi

end

/-! ## The bitmaps of the classes (R157) -/

section
variable {c d : Cts} {p : Fin 8 → Option RawClass → Bool}

theorem classBitmap_eq_bitSum (c : Cts) (p : Fin 8 → Option RawClass → Bool) :
    c.classBitmap p = bitSum fun j : Fin 8 => p j c.channels[j].reported := bitmap_eq_sum _

theorem classBitmap_congr (h : ∀ j : Fin 8, d.channels[j].reported = c.channels[j].reported) :
    d.classBitmap p = c.classBitmap p := by
  simp only [classBitmap_eq_bitSum, h]

/-- A channel that comes to satisfy the condition makes a larger bitmap. -/
theorem classBitmap_lt {i : Fin 8} (hother : ∀ j : Fin 8, j ≠ i → d.channels[j].reported = c.channels[j].reported)
    (hold : p i c.channels[i].reported = false) (hnew : p i d.channels[i].reported = true) :
    c.classBitmap p < d.classBitmap p := by
  rw [classBitmap_eq_bitSum, classBitmap_eq_bitSum]
  refine bitSum_lt (fun j hj => ?_) hold hnew
  have hne : j ≠ i := by
    rintro rfl
    rw [hold] at hj
    cases hj
  rw [hother j hne]
  exact hj

end

/-! ## The conditions of the roles (R157) -/

section
variable {s : State} {c d : FaultCode} {a b : Nat}

theorem reportBitmap_holds_other (hd : d.incidental = false) (hne : c ≠ d) :
    (s.reportBitmap c a b).flm.holds d = s.flm.holds d := by
  simp only [State.reportBitmap]
  split
  · rfl
  · split
    · exact report_holds_other (r := .gone c) hd hne
    · exact report_holds_other (r := .present c _) hd hne

theorem reportBitmap_holds (hc : c.incidental = false) (hlt : a < b) : (s.reportBitmap c a b).flm.holds c = true := by
  have hne : a ≠ b := hlt.ne
  have hpos : b ≠ 0 := Nat.ne_of_gt (Nat.lt_of_le_of_lt (Nat.zero_le a) hlt)
  rw [State.reportBitmap, if_neg hne, if_neg hpos]
  exact report_present_holds hc _

variable {act : Cts → Cts}

/-- R157: a condition that arises is present when all four have been reported. -/
theorem watchSense_leak (h : s.cts.leakBitmap < (act s.cts).leakBitmap) :
    (s.watchSense act).flm.holds .coolantLeak = true := by
  simp only [State.watchSense]
  rw [reportBitmap_holds_other rfl (by decide), reportBitmap_holds_other rfl (by decide),
    reportBitmap_holds_other rfl (by decide)]
  exact reportBitmap_holds rfl h

theorem watchSense_condensation (h : s.cts.condensationBitmap < (act s.cts).condensationBitmap) :
    (s.watchSense act).flm.holds .condensation = true := by
  simp only [State.watchSense]
  rw [reportBitmap_holds_other rfl (by decide), reportBitmap_holds_other rfl (by decide)]
  exact reportBitmap_holds rfl h

theorem watchSense_low (h : s.cts.lowBitmap < (act s.cts).lowBitmap) :
    (s.watchSense act).flm.holds .coolantLow = true := by
  simp only [State.watchSense]
  rw [reportBitmap_holds_other rfl (by decide)]
  exact reportBitmap_holds rfl h

theorem watchSense_fault (h : s.cts.faultBitmap < (act s.cts).faultBitmap) :
    (s.watchSense act).flm.holds .senseChannelFault = true :=
  reportBitmap_holds rfl h

@[simp] theorem watchSense_cts : (s.watchSense act).cts = act s.cts := by simp [State.watchSense]

@[simp] theorem watchSense_clock : (s.watchSense act).clock = s.clock := by simp [State.watchSense]

/-- R157: where no reported class changes nothing is reported. -/
theorem watchSense_quiet (h : ∀ j : Fin 8, (act s.cts).channels[j].reported = s.cts.channels[j].reported) :
    s.watchSense act = s.setCts (act s.cts) :=
  watchSense_same (classBitmap_congr h) (classBitmap_congr h) (classBitmap_congr h) (classBitmap_congr h)

end

/-! ## A reading (R155 to R157) -/

/-- R156: the channel after a raw class, in the words of the statement. -/
theorem SenseChannel.debounce_eq (x : SenseChannel) (raw : RawClass) : x.debounce raw =
    if x.reported = some raw then { x with raw := some raw, candidate := none, agree := 0 }
    else if x.candidate ≠ some raw then { x with raw := some raw, candidate := some raw, agree := 1 }
    else if x.agree = 2 then { x with raw := some raw, reported := some raw, candidate := none, agree := 0 }
    else { x with raw := some raw, agree := x.agree + 1 } := by
  simp only [SenseChannel.debounce, Nat.reduceEqDiff, ne_eq, ite_not]

@[simp] theorem SenseChannel.debounce_scanned (x : SenseChannel) (raw : RawClass) :
    (x.debounce raw).scanned = x.scanned := by
  simp only [SenseChannel.debounce]
  repeat' split
  all_goals rfl

/-- R156: a reported class that changes becomes the raw class. -/
theorem SenseChannel.debounce_reported {x : SenseChannel} {raw : RawClass} (h : (x.debounce raw).reported ≠ x.reported) :
    (x.debounce raw).reported = some raw ∧ x.reported ≠ some raw := by
  rw [SenseChannel.debounce_eq] at h ⊢
  split at h
  · exact absurd rfl h
  · next hne =>
    rw [if_neg hne]
    split at h
    · exact absurd rfl h
    · next hcand =>
      rw [if_neg hcand]
      split at h
      · next hagree =>
        rw [if_pos hagree]
        exact ⟨rfl, hne⟩
      · exact absurd rfl h

/-- R156: the CTS with the reading of channel `i` taken. -/
def Cts.taken (c : Cts) (i : Fin 8) (raw : RawClass) : Cts := { c with channels := c.channels.set i (c.channels[i].debounce raw) }

section
variable (c : Cts) (i : Fin 8) (raw : RawClass)

theorem Cts.taken_channel (j : Fin 8) :
    (c.taken i raw).channels[j] = if i = j then c.channels[j].debounce raw else c.channels[j] :=
  update_get c.channels i j (·.debounce raw)

theorem Cts.taken_scanned (j : Fin 8) : (c.taken i raw).channels[j].scanned = c.channels[j].scanned := by
  rw [Cts.taken_channel]
  split
  · exact SenseChannel.debounce_scanned _ _
  · rfl

theorem Cts.taken_self : (c.taken i raw).channels[i] = c.channels[i].debounce raw := by
  rw [Cts.taken_channel, if_pos rfl]

theorem Cts.taken_reported_other {j : Fin 8} (hne : j ≠ i) :
    (c.taken i raw).channels[j].reported = c.channels[j].reported := by
  rw [Cts.taken_channel, if_neg (Ne.symm hne)]

end

section
variable {s : State} {i : Fin 8} {raw : RawClass}

theorem takeReading_eq : s.takeReading i raw =
    (s.watchSense (·.taken i raw)).setCts ((s.cts.taken i raw).measureFrom s.clock (i.val + 1)) := by
  have h : s.takeReading i raw =
      (s.watchSense (·.taken i raw)).setCts
        ((s.watchSense (·.taken i raw)).cts.measureFrom (s.watchSense (·.taken i raw)).clock (i.val + 1)) := rfl
  rw [h, watchSense_cts, watchSense_clock]

/-- R157: where the reported class stays nothing else changes. -/
theorem takeReading_quiet (h : (s.cts.channels[i].debounce raw).reported = s.cts.channels[i].reported) :
    s.takeReading i raw = s.setCts ((s.cts.taken i raw).measureFrom s.clock (i.val + 1)) := by
  rw [takeReading_eq, watchSense_quiet]
  · rfl
  · intro j
    by_cases hj : j = i
    · rw [hj, Cts.taken_self, h]
    · exact Cts.taken_reported_other _ _ _ hj

/-- R153: the scan goes on with the next scanned channel, or ends. -/
theorem measureFrom_taken (now : Clocks) :
    let c := (s.cts.taken i raw).measureFrom now (i.val + 1)
    (c.scan = none ↔ ∀ j, i < j → s.cts.channels[j].scanned = false) ∧
      ∀ z, c.scan = some z → z.phase = .discharging (now + us 50) ∧ i < z.channel ∧
        s.cts.channels[z.channel].scanned = true ∧
        ∀ j, i < j → j < z.channel → s.cts.channels[j].scanned = false := by
  intro c
  have hscan : c.scan = ((s.cts.taken i raw).scannedFrom? (i.val + 1)).map fun k =>
      { channel := k, phase := .discharging (now + us 50) } := rfl
  refine ⟨?_, fun z hz => ?_⟩
  · rw [hscan, Option.map_eq_none_iff, scannedFrom?_none]
    exact forall_congr' fun j => by rw [Cts.taken_scanned, Nat.succ_le_iff, Fin.lt_def]
  · rw [hscan, Option.map_eq_some_iff] at hz
    obtain ⟨k, hk, rfl⟩ := hz
    obtain ⟨hle, hs, hbelow⟩ := scannedFrom?_some _ _ hk
    rw [Cts.taken_scanned] at hs
    exact ⟨rfl, Nat.lt_of_succ_le hle, hs,
      fun j hij hjk => (Cts.taken_scanned _ _ _ j).symm.trans (hbelow j (Nat.succ_le_of_lt hij) hjk)⟩

/-- R157: what a change of the reported class of channel `i` brings, by its role. -/
theorem takeReading_roles (h : (s.cts.channels[i].debounce raw).reported ≠ s.cts.channels[i].reported) :
    let x := s.cts.channels[i]
    let t := s.takeReading i raw
    (raw = .wet → i < 4 → t.flm.holds .coolantLeak = true) ∧
      (raw = .wet → i = 4 ∨ i = 5 → t.flm.holds .condensation = true) ∧
      (raw = .dry → 6 ≤ i → t.flm.holds .coolantLow = true) ∧
      (raw = .opened ∨ raw = .noTrip → x.reported ≠ some .opened → x.reported ≠ some .noTrip →
        t.flm.holds .senseChannelFault = true) := by
  intro x t
  obtain ⟨hnew, hold⟩ := SenseChannel.debounce_reported h
  have hflm : t.flm = (s.watchSense (·.taken i raw)).flm := by rw [show t = _ from takeReading_eq, State.setCts_flm]
  have hclass {p : Fin 8 → Option RawClass → Bool} (hbefore : p i s.cts.channels[i].reported = false)
      (hafter : p i (some raw) = true) : s.cts.classBitmap p < (s.cts.taken i raw).classBitmap p := by
    refine classBitmap_lt (fun j hj => Cts.taken_reported_other _ _ _ hj) hbefore ?_
    rw [Cts.taken_self, hnew]
    exact hafter
  have hnot {q : RawClass} (hq : raw = q) : (s.cts.channels[i].reported == some q) = false := by
    rw [beq_eq_false_iff_ne, ← hq]
    exact hold
  rw [hflm]
  refine ⟨fun hr hi => ?_, fun hr hi => ?_, fun hr hi => ?_, fun hr h1 h2 => ?_⟩
  · refine watchSense_leak (hclass ?_ ?_)
    · rw [hnot hr, Bool.and_false]
    · rw [hr, Bool.and_eq_true, decide_eq_true_eq]
      exact ⟨hi, rfl⟩
  · refine watchSense_condensation (hclass ?_ ?_)
    · rw [hnot hr, Bool.and_false]
    · rw [hr]
      rcases hi with rfl | rfl <;> rfl
  · refine watchSense_low (hclass ?_ ?_)
    · rw [hnot hr, Bool.and_false]
    · rw [hr, Bool.and_eq_true, decide_eq_true_eq]
      exact ⟨hi, rfl⟩
  · refine watchSense_fault (hclass ?_ ?_)
    · rw [beq_eq_false_iff_ne.mpr h1, beq_eq_false_iff_ne.mpr h2, Bool.or_false]
    · rcases hr with hr | hr <;> rw [hr] <;> rfl

end

/-! ## The commands (R153 to R155) -/

section
variable {s : State} {due : Clocks}

theorem exec_scanTimer (h : s.cts.scanDue = some due) : exec .scanTimerExpiry s = .next { s with
    clock := max s.clock due
    cts := { s.cts.measureFrom (max s.clock due) 0 with scanDue := some (due + ms 2000) } } := by
  simp only [exec, execScanTimerExpiry, State.scanTimer, h, atDue_some]
  rfl

theorem exec_dischargeEnd {i : Fin 8} (h : s.cts.scan = some { channel := i, phase := .discharging due }) :
    exec .dischargeEnd s = .next { s with
      clock := max s.clock due
      cts := { s.cts with scan := some { channel := i, phase := .counting (max s.clock due) } } } := by
  simp only [exec, execDischargeEnd, State.dischargeEnd, h]
  rfl

/-- R154, R155: either end of a count is a reading of its raw class. -/
theorem exec_reading {since : Clocks} {i : Fin 8} {n : Nat} {c : Instr}
    (hscan : s.cts.scan = some { channel := i, phase := .counting since })
    (h : (c = .comparatorTrip n ∧ n < s.cts.channels[i].ceiling) ∨ (c = .ceilingReached ∧ n = s.cts.channels[i].ceiling)) :
    exec c s = .next ((s.runTo (since + s.cts.countTime n)).takeReading i
      (if n = s.cts.channels[i].ceiling then .noTrip
        else if n < s.cts.channels[i].baseline / 2 then .opened
        else if s.cts.channels[i].baseline + s.cts.channels[i].margin < n then .wet
        else .dry)) := by
  rcases h with ⟨rfl, hn⟩ | ⟨rfl, rfl⟩
  · simp only [exec, execComparatorTrip, State.comparatorTrip, hscan, if_pos hn, if_neg hn.ne]
    rfl
  · simp only [exec, execCeilingReached, State.ceilingReached, hscan, if_true]

end

/-- Settles O51: the scan timer, the end of a discharge, and the two ends of a count. -/
theorem scansClassifyTheElectrodes : Obligations.ScansClassifyTheElectrodes := by
  refine ⟨fun due s hdue => ?timer, fun due i s hscan => exec_dischargeEnd hscan, ?reading⟩
  case timer =>
    intro now u
    rw [exec_scanTimer hdue]
    refine ⟨fun i hi hleast => ?_, fun hnone => ?_⟩
    · rw [Cts.measureFrom, scannedFrom?_zero _ hi hleast]
      rfl
    · rw [Cts.measureFrom, (scannedFrom?_none _ _).mpr fun j _ => hnone j]
      rfl
  case reading =>
    intro since i n c s hscan x hc raw y
    have hy : y = x.debounce raw := (SenseChannel.debounce_eq x raw).symm
    let u : State := s.runTo (since + s.cts.countTime n)
    have heq := takeReading_eq (s := u) (i := i) (raw := raw)
    obtain ⟨hend, hnext⟩ := measureFrom_taken (s := u) (i := i) (raw := raw) u.clock
    have hclock : (u.takeReading i raw).clock = u.clock := by
      rw [heq, State.setCts_clock, watchSense_clock]
    have hcts : (u.takeReading i raw).cts = (u.cts.taken i raw).measureFrom u.clock (i.val + 1) := congrArg State.cts heq
    refine ⟨u.takeReading i raw, exec_reading hscan hc, ?_, ?_, ?_, hclock, ?_, ?_, fun hsame => ?_, fun hchange => ?_⟩
    · rw [hcts, hy]
      rfl
    · rw [hcts]
      rfl
    · rw [hcts]
      rfl
    · rw [hcts]
      exact hend
    · rw [hcts, hclock]
      exact hnext
    · rw [hy] at hsame
      rw [takeReading_quiet (s := u) hsame]
      rfl
    · rw [hy] at hchange
      exact takeReading_roles (s := u) hchange

end Sys2Proof.Machine
end

section
/-! SUPPORT. The record of a code in the OPEN list under reports of other codes and under the moves of the arbiter and of the
yaw states (R175 to R178). -/

namespace Sys2Proof.Machine

/-! ## Reports of other codes (R175 to R179) -/

/-- R176: a report of another code is nothing to the record. -/
theorem find?_map_again {c d : FaultCode} (h : c ≠ d) (now : Stamp) (l : List Record) :
    (l.map fun r => if r.code == d then r.again now else r).find? (·.code == c) = l.find? (·.code == c) := by
  induction l with
  | nil => rfl
  | cons x xs ih =>
    by_cases hd : x.code = d
    · have hc : ¬x.code = c := fun hc => h (hc.symm.trans hd)
      simpa [-List.find?_map, hd, hc, h.symm] using ih
    · by_cases hc : x.code = c
      · simp [-List.find?_map, hc, h]
      · simpa [-List.find?_map, hd, hc] using ih

/-- R175: nor is a record of another code that joins the list. -/
theorem find?_insertOpen {c : FaultCode} {r : Record} (h : r.code ≠ c) (l : List Record) :
    (insertOpen r l).find? (·.code == c) = l.find? (·.code == c) := by
  induction l with
  | nil => simp [insertOpen, h]
  | cons x xs ih =>
    simp only [insertOpen]
    split
    · simp only [List.find?_cons, ih]
    · rw [List.find?_cons_of_neg (by simpa using h)]

theorem Flm.openRecord?_take_ne {c : FaultCode} (f : Flm) (now : Stamp) {r : Report} (h : r.code ≠ c) :
    (f.take now r).openRecord? c = f.openRecord? c := by
  cases r with
  | present d v =>
    simp only [Flm.take, Flm.takePresent]
    split
    · exact find?_map_again (Ne.symm h) now _
    · exact (find?_insertOpen (r := openedRecord _ d v now _) h _).trans (by simp [Flm.openRecord?])
  | gone d => exact f.openRecord?_takeGone_other (Ne.symm h) now
  | event d v =>
    have hopens : (f.take now (.event d v)).opens = f.opens := by
      simp only [Flm.take, Flm.takeEvent]
      repeat' split
      all_goals simp
    rw [Flm.openRecord?, hopens, Flm.openRecord?]

/-! ## The arbiter and the yaw states -/

section
variable (s : State) {c : FaultCode} (hc : c.ofArbiter = false)
include hc

theorem quietGone_openRecord {d : FaultCode} (hd : d.ofArbiter = true) :
    (s.quietGone d).flm.openRecord? c = s.flm.openRecord? c := by
  have hne : c ≠ d := by
    rintro rfl
    rw [hc] at hd
    cases hd
  rw [quietGone_eq]
  exact s.flm.openRecord?_goneIf_other hne _

theorem tryRequests_openRecord : s.tryRequests.flm.openRecord? c = s.flm.openRecord? c := by
  have hyaw (t : State) : t.tryYaw.flm.openRecord? c = t.flm.openRecord? c := by
    simp only [State.tryYaw]
    split
    · exact quietGone_openRecord _ hc (d := .yawWaitPower) rfl
    · rfl
  simp only [State.tryRequests]
  split
  · rw [State.tryFan_flm, hyaw]
  · rw [hyaw, State.tryFan_flm]

theorem yawToIdle_openRecord : s.yawToIdle.flm.openRecord? c = s.flm.openRecord? c := by
  have hne : c ≠ .yawStall := by
    rintro rfl
    cases hc
  rw [yawToIdle_eq]
  exact s.flm.openRecord?_goneIf_other hne _

theorem endMove_openRecord : s.endMove.flm.openRecord? c = s.flm.openRecord? c := by
  rw [State.endMove, yawToIdle_openRecord _ hc]
  simp only [State.releaseYaw]
  split
  · rw [tryRequests_openRecord _ hc, State.shed_flm, State.setApa_flm]
  · rw [tryRequests_openRecord _ hc, State.setApa_flm]

theorem enterBrakeApply_openRecord : s.enterBrakeApply.flm.openRecord? c = s.flm.openRecord? c := by
  rw [enterBrakeApply_eq]
  split
  · rfl
  · exact endMove_openRecord s.braked hc

theorem withdrawYaw_openRecord : s.withdrawYaw.flm.openRecord? c = s.flm.openRecord? c := by
  rw [State.withdrawYaw, yawToIdle_openRecord _ hc, quietGone_openRecord _ hc rfl, tryRequests_openRecord _ hc,
    State.setApa_flm]

/-- R119, R121: a stop leaves the records of every code but its own. -/
theorem yawStopCause_openRecord (b : Bool) : (s.yawStopCause b).flm.openRecord? c = s.flm.openRecord? c := by
  simp only [State.yawStopCause]
  split
  case h_1 =>
    split
    · exact withdrawYaw_openRecord s hc
    · rfl
  case h_2 | h_3 => exact enterBrakeApply_openRecord s hc
  all_goals rfl

/-! ## Reports while no image is loaded (R181) -/

theorem report_openRecord (hu : s.osc.state.isUnloaded = true) (r : Report) :
    (s.report r).flm.openRecord? c = (s.flm.take s.stamp r).openRecord? c := by
  rcases report_of_unloaded hu r with h | h <;> rw [h]
  · rfl
  · exact yawStopCause_openRecord (s.quiet r) hc true

theorem reportBitmap_openRecord (hu : s.osc.state.isUnloaded = true) {d : FaultCode} (hd : d ≠ c) (x y : Nat) :
    (s.reportBitmap d x y).flm.openRecord? c = s.flm.openRecord? c := by
  simp only [State.reportBitmap]
  split
  · rfl
  · split
    · rw [report_openRecord s hc hu]
      exact s.flm.openRecord?_take_ne _ (r := .gone d) hd
    · rw [report_openRecord s hc hu]
      exact s.flm.openRecord?_take_ne _ (r := .present d y) hd

end

/-- R180: a record of a code of safe stop is safe stop. -/
theorem safeStop_of_openRecord {f : Flm} {c : FaultCode} (hc : c.severity = .safeStop) (h : (f.openRecord? c).isSome = true) :
    f.reaction.safeStop = true := by
  obtain ⟨r, hr⟩ := Option.isSome_iff_exists.mp h
  have hcode : r.code = c := by simpa using List.find?_some hr
  exact List.any_eq_true.mpr ⟨r, List.mem_of_find?_eq_some hr, by rw [Record.severity, hcode, hc]; rfl⟩

end Sys2Proof.Machine
end

section
/-! SUPPORT. An image refused (R158, R193, R198). -/

namespace Sys2Proof.Machine

/-- R157: the CTS reports no other code while no image is loaded. -/
theorem watchSense_openRecord {s : State} (hu : s.osc.state.isUnloaded = true) (act : Cts → Cts) :
    (s.watchSense act).flm.openRecord? .configInvalid = s.flm.openRecord? .configInvalid := by
  have hstep {t : State} (ht : t.osc = s.osc) {c : FaultCode} (hc : c ≠ .configInvalid)
      (hp : c.index ≠ FaultCode.peerLost.index) (hl : c.index ≠ FaultCode.twistHardLimit.index) (a b : Nat) :
      (t.reportBitmap c a b).flm.openRecord? .configInvalid = t.flm.openRecord? .configInvalid ∧
        (t.reportBitmap c a b).osc = s.osc := by
    have hut : t.osc.state.isUnloaded = true := by rw [ht]; exact hu
    exact ⟨reportBitmap_openRecord t rfl hut hc a b,
      (congrArg Basis.osc (State.reportBitmap_basis hut c a b hp hl)).trans ht⟩
  simp only [State.watchSense]
  have hleak := hstep (t := s.setCts (act s.cts)) rfl (c := .coolantLeak) (by decide) (by decide) (by decide)
    s.cts.leakBitmap (act s.cts).leakBitmap
  have hcond := hstep hleak.2 (c := .condensation) (by decide) (by decide) (by decide)
    s.cts.condensationBitmap (act s.cts).condensationBitmap
  have hlow := hstep hcond.2 (c := .coolantLow) (by decide) (by decide) (by decide)
    s.cts.lowBitmap (act s.cts).lowBitmap
  have hfault := hstep hlow.2 (c := .senseChannelFault) (by decide) (by decide) (by decide)
    s.cts.faultBitmap (act s.cts).faultBitmap
  exact hfault.1.trans (hlow.1.trans (hcond.1.trans hleak.1))

theorem watchSense_holds {c : FaultCode} (hc : c.incidental = false) (h1 : c ≠ .coolantLeak) (h2 : c ≠ .condensation)
    (h3 : c ≠ .coolantLow) (h4 : c ≠ .senseChannelFault) (s : State) (act : Cts → Cts) :
    (s.watchSense act).flm.holds c = s.flm.holds c := by
  simp only [State.watchSense]
  rw [reportBitmap_holds_other hc h4.symm, reportBitmap_holds_other hc h3.symm, reportBitmap_holds_other hc h2.symm,
    reportBitmap_holds_other hc h1.symm]
  rfl

/-- R158: the CTS at rest. -/
def Cts.stopped (c : Cts) : Cts :=
  { c with scan := none, scanDue := none, channels := mapTable c.channels SenseChannel.forget }

/-- R193, R198: what a refusal leaves. -/
theorem refuseImage_spec {s : State} (hnone : s.flm.openRecord? .configInvalid = none) (code : Nat) :
    let t := s.refuseImage code
    t.basis = { s.basis with
        cts := s.cts.stopped, osc := { s.osc with state := .unconfigured, loader := .idle } } ∧
      t.flm.holds .configInvalid = true ∧
      (t.flm.openRecord? .configInvalid).map (·.value) = some (BitVec.ofNat 32 code) ∧
      t.flm.reaction.safeStop = true := by
  intro t
  let u : State := s.setOsc { s.osc with state := .unconfigured, loader := .idle }
  have huu : u.osc.state.isUnloaded = true := rfl
  let v : State := u.report (.present .configInvalid code)
  have hbasis : v.basis = u.basis :=
    State.report_basis huu (.present .configInvalid code) (by simp only [Report.code]; decide)
      (by simp only [Report.code]; decide)
  have hv : v.osc.state.isUnloaded = true := (congrArg (fun b => b.osc.state.isUnloaded) hbasis).trans huu
  have hcts : v.cts = s.cts := congrArg Basis.cts hbasis
  have ht : t = v.watchSense Cts.stopped := rfl
  have hrecord : (t.flm.openRecord? .configInvalid).map (·.value) = some (BitVec.ofNat 32 code) := by
    rw [ht, watchSense_openRecord hv, report_openRecord u rfl huu, openRecord?_takePresent (f := u.flm) hnone,
      BitVec.ofInt_natCast]
  refine ⟨?_, ?_, hrecord, safeStop_of_openRecord (c := .configInvalid) rfl ?_⟩
  · rw [ht, watchSense_basis hv, hbasis, hcts]
    rfl
  · rw [ht, watchSense_holds rfl (by decide) (by decide) (by decide) (by decide)]
    exact report_present_holds rfl _
  · rw [← Option.isSome_map, hrecord]
    rfl

end Sys2Proof.Machine
end

section
/-! SUPPORT. The walk over the records of an image, and what it stages (10.2.2, R194). -/

namespace Sys2Proof.Machine

/-! ## Tables by their numbers (10.2.2) -/

/-- The statement's table of shapes is the model's. -/
theorem tableShape_eq (id : Byte) : tableShape id = (Table.ofId id.toNat).map fun t => (t.indices, t.dataLength) := by
  simp only [tableShape, Table.ofId]
  split <;> rfl

theorem tableShape_none {id : Byte} (h : tableShape id = none) : Table.ofId id.toNat = none := by
  rwa [tableShape_eq, Option.map_eq_none_iff] at h

theorem tableShape_some {id : Byte} {most size : Nat} (h : tableShape id = some (most, size)) :
    ∃ t, Table.ofId id.toNat = some t ∧ t.indices = most ∧ t.dataLength = size := by
  rw [tableShape_eq, Option.map_eq_some_iff] at h
  obtain ⟨t, ht, hshape⟩ := h
  obtain ⟨rfl, rfl⟩ := Prod.mk.inj hshape
  exact ⟨t, ht, rfl, rfl⟩

/-- The number of a table. -/
def Table.number : Table → Byte
  | .station => 1 | .peer => 2 | .sector => 3 | .offset => 4 | .cooling => 5 | .sense => 6 | .loads => 7

theorem Table.ofId_number {id : Byte} {t : Table} (h : Table.ofId id.toNat = some t) : id = t.number := by
  refine BitVec.eq_of_toNat_eq ?_
  simp only [Table.ofId] at h
  split at h
  case h_8 => cases h
  all_goals
    next hid =>
    cases h
    exact hid

theorem Table.number_injective {t k : Table} (h : t.number = k.number) : t = k := by
  have hread (t : Table) : Table.ofId t.number.toNat = some t := by cases t <;> rfl
  exact Option.some.inj ((hread t).symm.trans ((congrArg (fun id : Byte => Table.ofId id.toNat) h).trans (hread k)))

theorem Table.dataLength_lt (t : Table) : t.dataLength < 256 := by
  cases t <;> decide

/-- R194: what a record that fits is. -/
theorem RawRecord.fits_iff (q : RawRecord) : q.fits ↔
    ∃ t : Table, Table.ofId q.id.toNat = some t ∧ q.index.toNat < t.indices ∧ q.data.length = t.dataLength := by
  constructor
  · rintro ⟨n, len, hshape, hindex, hlen⟩
    obtain ⟨t, ht, rfl, rfl⟩ := tableShape_some hshape
    exact ⟨t, ht, hindex, hlen⟩
  · rintro ⟨t, ht, hindex, hlen⟩
    exact ⟨_, _, (tableShape_eq _).trans (by rw [ht]; rfl), hindex, hlen⟩

/-! ## One record of the walk (R194) -/

/-- R194: the staging copy with the record placed in its table. -/
def Staging.placed (st : Staging) (q : RawRecord) : Staging :=
  (Table.ofId q.id.toNat).elim st fun t => st.place t q.index.toNat q.data

section
variable (count : Nat) (id index len : Byte) (tail : List Byte) (st : Staging)

/-- R194: a record whose data ends after the records do. -/
theorem walk_overrun (h : tail.length < len.toNat) : walk (count + 1) (id :: index :: len :: tail) st = .refuse 4 := by
  rw [walk, if_pos h]

theorem walk_unknown (h : ¬tail.length < len.toNat) (ht : Table.ofId id.toNat = none) :
    walk (count + 1) (id :: index :: len :: tail) st = .refuse 5 := by
  rw [walk, if_neg h, ht]

theorem walk_known (h : ¬tail.length < len.toNat) {t : Table} (ht : Table.ofId id.toNat = some t) :
    walk (count + 1) (id :: index :: len :: tail) st =
      if t.indices ≤ index.toNat then .refuse 6
      else if len.toNat ≠ t.dataLength then .refuse 4
      else walk count (tail.drop len.toNat) (st.place t index.toNat (tail.take len.toNat)) := by
  rw [walk, if_neg h, ht]

end

/-- R194: a header that ends after the records do. -/
theorem walk_short (count : Nat) {tail : List Byte} (h : tail.length < 3) (st : Staging) :
    walk (count + 1) tail st = .refuse 4 := by
  match tail, h with
  | [], _ => rfl
  | [_], _ => rfl
  | [_, _], _ => rfl

/-- R194: the walk takes a record that fits. -/
theorem walk_record {q : RawRecord} (hq : q.fits) (count : Nat) (tail : List Byte) (st : Staging) :
    walk (count + 1) (q.bytes ++ tail) st = walk count tail (st.placed q) := by
  obtain ⟨t, ht, hindex, hlen⟩ := q.fits_iff.mp hq
  have hbyte : (BitVec.ofNat 8 q.data.length).toNat = q.data.length := by
    rw [BitVec.toNat_ofNat, hlen]
    exact Nat.mod_eq_of_lt t.dataLength_lt
  have hbytes : q.bytes ++ tail = q.id :: q.index :: BitVec.ofNat 8 q.data.length :: (q.data ++ tail) := rfl
  have hfits : ¬(q.data ++ tail).length < (BitVec.ofNat 8 q.data.length).toNat := by
    rw [hbyte, List.length_append]
    omega
  rw [hbytes, walk_known _ _ _ _ _ _ hfits ht, if_neg (Nat.not_le.mpr hindex), hbyte, if_neg (not_not_intro hlen),
    List.drop_left, List.take_left, Staging.placed, ht]
  rfl

/-- R194: the walk takes the records that fit one after the other. -/
theorem walk_records (image : List RawRecord) (hfits : ∀ q ∈ image, q.fits) (count : Nat) (tail : List Byte) (st : Staging) :
    walk (image.length + count) (image.flatMap (·.bytes) ++ tail) st = walk count tail (image.foldl Staging.placed st) := by
  induction image generalizing st with
  | nil => simp
  | cons q image ih =>
    obtain ⟨hq, hrest⟩ := List.forall_mem_cons.mp hfits
    have hcount : (q :: image).length + count = image.length + count + 1 := by
      rw [List.length_cons]
      omega
    rw [hcount, List.flatMap_cons, List.append_assoc, walk_record hq, ih hrest, List.foldl_cons]

/-! ## The last record of each table and index (R194) -/

theorem lastRecord_nil (id : Byte) (index : Nat) : lastRecord [] id index = none := rfl

theorem lastRecord_concat (image : List RawRecord) (q : RawRecord) (id : Byte) (index : Nat) :
    lastRecord (image ++ [q]) id index =
      if q.id = id ∧ q.index.toNat = index then some q.data else lastRecord image id index := by
  rw [lastRecord, List.reverse_append, List.reverse_singleton, List.singleton_append, List.find?_cons]
  by_cases h : q.id = id ∧ q.index.toNat = index
  · simp [h]
  · have hno : (q.id == id && q.index.toNat == index) = false := by
      rw [Bool.eq_false_iff, Ne, Bool.and_eq_true, beq_iff_eq, beq_iff_eq]
      exact h
    rw [hno, if_neg h]
    rfl

/-- R194: each table of the staging copy holds the last record of each index. -/
structure Staging.Holds (st : Staging) (image : List RawRecord) : Prop where
  station : st.station = (lastRecord image 1 0).map readStation
  peers : ∀ j : Fin 12, st.peers[j] = (lastRecord image 2 j.val).map readPeer
  sectors : ∀ k : Fin 24, st.sectors[k] = (lastRecord image 3 k.val).map readSector
  offsets : ∀ k : Fin 8, st.offsets[k] = (lastRecord image 4 k.val).map fun d => s16At d 0
  cooling : st.cooling = (lastRecord image 5 0).map readCooling
  sense : ∀ i : Fin 8, st.sense[i] = (lastRecord image 6 i.val).map readSense
  loads : st.loads = (lastRecord image 7 0).map readLoads

theorem emptyStaging_holds : emptyStaging.Holds [] where
  station := rfl
  peers j := by simp [emptyStaging, lastRecord_nil]
  sectors k := by simp [emptyStaging, lastRecord_nil]
  offsets k := by simp [emptyStaging, lastRecord_nil]
  cooling := rfl
  sense i := by simp [emptyStaging, lastRecord_nil]
  loads := rfl

/-- A table with the entry at an index of its own set. -/
def setAt {α : Type} {n : Nat} (v : Vector α n) (i : Nat) (x : α) : Vector α n := if h : i < n then v.set i x h else v

theorem setAt_get {α : Type} {n : Nat} (v : Vector α n) (i : Nat) (x : α) (j : Fin n) :
    (setAt v i x)[j] = if i = j.val then x else v[j] := by
  rw [setAt]
  by_cases h : i < n
  · simp [h, Vector.getElem_set]
  · have hne : i ≠ j.val := by omega
    simp [h, hne]

/-- R194: a record is placed in its own table alone. -/
theorem Staging.place_eq (st : Staging) (t : Table) (i : Nat) (d : List Byte) : st.place t i d =
    { station := if t = .station then some (readStation d) else st.station
      peers := if t = .peer then setAt st.peers i (some (readPeer d)) else st.peers
      sectors := if t = .sector then setAt st.sectors i (some (readSector d)) else st.sectors
      offsets := if t = .offset then setAt st.offsets i (some (s16At d 0)) else st.offsets
      cooling := if t = .cooling then some (readCooling d) else st.cooling
      sense := if t = .sense then setAt st.sense i (some (readSense d)) else st.sense
      loads := if t = .loads then some (readLoads d) else st.loads } := by
  cases t
  case station | cooling | loads => rfl
  all_goals
    simp only [Staging.place, setAt, reduceCtorEq, if_true, if_false]
    split <;> rfl

section
variable {image : List RawRecord} {q : RawRecord} {t : Table} {α : Type} {read : List Byte → α} {old new : Option α}

/-- R194: an entry that is given the record where it is its own has the last record again. -/
theorem lastRecord_placed (k : Table) {j : Nat} (hid : q.id = t.number)
    (hold : old = (lastRecord image k.number j).map read)
    (hnew : new = if t = k ∧ q.index.toNat = j then some (read q.data) else old) :
    new = (lastRecord (image ++ [q]) k.number j).map read := by
  rw [hnew, lastRecord_concat, hid, hold]
  by_cases h : t = k ∧ q.index.toNat = j
  · rw [if_pos h, if_pos ⟨congrArg Table.number h.1, h.2⟩]
    rfl
  · rw [if_neg h, if_neg fun g => h ⟨Table.number_injective g.1, g.2⟩]

/-- The same for a table of one index. -/
theorem lastRecord_placed_single (k : Table) (hk : k.indices = 1) (hid : q.id = t.number) (hi : q.index.toNat < t.indices)
    (hold : old = (lastRecord image k.number 0).map read) :
    (if t = k then some (read q.data) else old) = (lastRecord (image ++ [q]) k.number 0).map read := by
  refine lastRecord_placed k hid hold (if_congr ⟨fun h => ⟨h, ?_⟩, And.left⟩ rfl rfl)
  rw [h, hk] at hi
  exact Nat.lt_one_iff.mp hi

/-- The same for a table of several. -/
theorem lastRecord_placed_table {n : Nat} {v : Vector (Option α) n} (k : Table) (hid : q.id = t.number)
    (hold : ∀ j : Fin n, v[j] = (lastRecord image k.number j.val).map read) (j : Fin n) :
    (if t = k then setAt v q.index.toNat (some (read q.data)) else v)[j] =
      (lastRecord (image ++ [q]) k.number j.val).map read := by
  refine lastRecord_placed k hid (hold j) ?_
  by_cases h : t = k
  · simp only [h, if_true, true_and, setAt_get]
  · simp only [h, if_false, false_and]

end

/-- R194: with a record that fits, the staging copy holds what the image with it has. -/
theorem Staging.Holds.placed {st : Staging} {image : List RawRecord} {q : RawRecord} (h : st.Holds image) (hq : q.fits) :
    (st.placed q).Holds (image ++ [q]) := by
  obtain ⟨t, ht, hi, -⟩ := q.fits_iff.mp hq
  have hid := Table.ofId_number ht
  rw [Staging.placed, ht, Option.elim_some, Staging.place_eq]
  exact {
    station := lastRecord_placed_single .station rfl hid hi h.station
    peers := lastRecord_placed_table .peer hid h.peers
    sectors := lastRecord_placed_table .sector hid h.sectors
    offsets := lastRecord_placed_table .offset (read := fun d => s16At d 0) hid h.offsets
    cooling := lastRecord_placed_single .cooling rfl hid hi h.cooling
    sense := lastRecord_placed_table .sense hid h.sense
    loads := lastRecord_placed_single .loads rfl hid hi h.loads }

/-- R194: an image of records that fit, walked. -/
theorem foldl_placed_holds (image : List RawRecord) (hfits : ∀ q ∈ image, q.fits) :
    (image.foldl Staging.placed emptyStaging).Holds image := by
  induction image using List.reverseRecOn with
  | nil => exact emptyStaging_holds
  | append_singleton image q ih =>
    rw [List.forall_mem_append] at hfits
    obtain ⟨hrest, hq⟩ := hfits
    rw [List.foldl_concat]
    exact (ih hrest).placed (hq q (List.mem_singleton_self q))

/-- R194: the walk takes the records that fit, and refuses what does not by its code. -/
theorem walk_spec (image : List RawRecord) (n : Nat) (tail : List Byte) (hfits : ∀ q ∈ image, q.fits) :
    let bytes := image.flatMap (·.bytes)
    (∃ st, walk image.length bytes emptyStaging = .good st ∧ st.Holds image) ∧
      (tail ≠ [] → walk image.length (bytes ++ tail) emptyStaging = .refuse 4) ∧
      (tail.length < 3 → walk (image.length + n + 1) (bytes ++ tail) emptyStaging = .refuse 4) ∧
      ∀ id index len : Byte,
        let w := walk (image.length + n + 1) (bytes ++ id :: index :: len :: tail) emptyStaging
        if tail.length < len.toNat then w = .refuse 4
        else
          (tableShape id = none → w = .refuse 5) ∧
          ∀ most size, tableShape id = some (most, size) →
            (most ≤ index.toNat → w = .refuse 6) ∧ (index.toNat < most → len.toNat ≠ size → w = .refuse 4) := by
  intro bytes
  have hwalk (count : Nat) (tail : List Byte) := walk_records image hfits count tail emptyStaging
  refine ⟨⟨_, ?_, foldl_placed_holds image hfits⟩, fun htail => ?_, fun hshort => ?_, fun id index len => ?_⟩
  · have h := hwalk 0 []
    rwa [List.append_nil] at h
  · obtain ⟨b, rest, rfl⟩ := List.exists_cons_of_ne_nil htail
    exact hwalk 0 (b :: rest)
  · exact (hwalk (n + 1) tail).trans (walk_short n hshort _)
  · intro w
    have hw : w = _ := hwalk (n + 1) (id :: index :: len :: tail)
    split
    · next hover => exact hw.trans (walk_overrun _ _ _ _ _ _ hover)
    · next hdata =>
      refine ⟨fun hshape => hw.trans (walk_unknown _ _ _ _ _ _ hdata (tableShape_none hshape)), fun most size hshape => ?_⟩
      obtain ⟨t, ht, rfl, rfl⟩ := tableShape_some hshape
      have hknown := hw.trans (walk_known _ _ _ _ _ _ hdata ht)
      exact ⟨fun hindex => hknown.trans (if_pos hindex),
        fun hindex hlen => hknown.trans ((if_neg (Nat.not_le.mpr hindex)).trans (if_pos hlen))⟩

end Sys2Proof.Machine
end

section
/-! SUPPORT. The settling of the staging copy and the refusals of its records (R195, R196). -/

namespace Sys2Proof.Machine

/-! ## The settling (R196) -/

theorem settleRamp_eq (x : Nat) : settleRamp x = if x = 0 then 1 else if 5000 < x then 5000 else x := by
  rw [settleRamp]
  split_ifs <;> omega

theorem settleOffset_eq (o : Int) : settleOffset o = if o < -300 then -300 else if 300 < o then 300 else o := by
  rw [settleOffset]
  split_ifs <;> omega

theorem settleCap_eq (x : Nat) : min 100 x = if 100 < x then 100 else x := by
  split_ifs <;> omega

theorem Staging.settle_spec (st : Staging) :
    let u := st.settle
    (∀ k : Fin 8, u.offsets[k] = (st.offsets[k]).map fun o => if o < -300 then -300 else if 300 < o then 300 else o) ∧
    u = { st with offsets := u.offsets, station := u.station } ∧
    u.station = st.station.map fun r =>
      let ramp := fun x : Nat => if x = 0 then 1 else if 5000 < x then 5000 else x
      { r with
        rampUp := ramp r.rampUp, rampDown := ramp r.rampDown, cap := if 100 < r.cap then 100 else r.cap
        startThreshold := if r.startThreshold = 0 then 80 else r.startThreshold
        softLimit := if r.softLimit = 0 then 7200 else r.softLimit
        hardLimit := if r.hardLimit = 0 then 9000 else r.hardLimit
        bandLower := if r.bandLower = 0 ∧ r.bandUpper = 0 then 50 else r.bandLower
        bandUpper := if r.bandLower = 0 ∧ r.bandUpper = 0 then 120 else r.bandUpper } := by
  intro u
  refine ⟨fun k => ?_, rfl, ?_⟩
  · have hk : u.offsets[k] = (st.offsets[k]).map settleOffset := mapTable_get _ _ _
    rw [hk, funext settleOffset_eq]
  · simp only [← settleRamp_eq, ← settleCap_eq]
    rfl

/-! ## The first refusal (R195) -/

/-- The code of the first entry that applies, in a list in the order of the codes. -/
theorem find?_first {l : List (Nat × Bool)} {P : Nat → Prop} (hsorted : l.Pairwise fun a b => a.1 < b.1)
    (hP : ∀ q ∈ l, q.2 = true ↔ P q.1) (honly : ∀ c, P c → ∃ q ∈ l, q.1 = c) {code : Nat} (hcode : P code)
    (hfirst : ∀ c, c < code → ¬P c) : ∃ q, l.find? Prod.snd = some q ∧ q.1 = code := by
  obtain ⟨own, hown, rfl⟩ := honly code hcode
  have howns : own.2 = true := (hP own hown).mpr hcode
  cases hfind : l.find? Prod.snd with
  | none => exact absurd howns (List.find?_eq_none.mp hfind own hown)
  | some q =>
    obtain ⟨hq, as, bs, hl, has⟩ := List.find?_eq_some_iff_append.mp hfind
    have hmem : q ∈ l := by rw [hl]; simp
    have hnot : ¬q.1 < own.1 := fun hlt => hfirst q.1 hlt ((hP q hmem).mp hq)
    rw [hl, List.mem_append, List.mem_cons] at hown
    rcases hown with hown | rfl | hown
    · have := has own hown
      simp [howns] at this
    · exact ⟨own, rfl, rfl⟩
    · rw [hl] at hsorted
      exact absurd ((List.pairwise_cons.mp (List.pairwise_append.mp hsorted).2.1).1 own hown) hnot

/-! ## The records of a table -/

section
variable {α : Type} {n : Nat} (v : Vector (Option α) n)

/-- The records that stand in a table of the staging copy. -/
theorem mem_records {x : α} : x ∈ v.toList.filterMap id ↔ ∃ j : Fin n, v[j] = some x := by
  simp [toList_eq_map_finRange]

theorem any_records (p : α → Bool) : (v.toList.filterMap id).any p = true ↔ ∃ j : Fin n, (v[j]).any p = true := by
  simp only [List.any_eq_true, mem_records, Option.any_eq_true]
  exact ⟨fun ⟨x, ⟨j, hj⟩, hx⟩ => ⟨j, x, hj, hx⟩, fun ⟨j, x, hj, hx⟩ => ⟨x, ⟨j, hj⟩, hx⟩⟩

theorem length_records : (v.toList.filterMap id).length = setCount fun j : Fin n => (v[j]).isSome := by
  rw [List.length_filterMap_eq_countP, toList_eq_map_finRange, List.countP_map, List.countP_eq_length_filter]
  rfl

end

theorem option_not_all {α : Type} (o : Option α) (p : α → Bool) : (!o.all p) = o.any fun x => !p x := by
  cases o <;> rfl

/-! ## The ranges of the fields (code 11) -/

theorem StationRecord.not_inRange (r : StationRecord) :
    (!r.inRange) = decide (240000 < r.cCfg ∨ 1000 < r.fCab ∨ 2 < r.strobe) := by
  rw [Bool.eq_iff_iff]
  simp only [StationRecord.inRange, Bool.not_eq_true', Bool.and_eq_false_iff, decide_eq_false_iff_not, decide_eq_true_eq,
    not_le, or_assoc]

theorem Descriptor.not_inRange (d : Descriptor) :
    (!d.inRange) = decide (d.station = 0 ∨ 12 < d.station ∨ 20000 < d.rated) := by
  rw [Bool.eq_iff_iff]
  simp only [Descriptor.inRange, Bool.not_eq_true', Bool.and_eq_false_iff, decide_eq_false_iff_not, decide_eq_true_eq,
    not_le, or_assoc, Nat.lt_one_iff]

theorem SectorRecord.not_inRange (r : SectorRecord) :
    (!r.inRange) = decide ((12 ≤ r.partner ∧ r.partner ≠ 255) ∨ 7 < r.offsetRef) := by
  rw [Bool.eq_iff_iff]
  simp only [SectorRecord.inRange, Bool.not_eq_true', Bool.and_eq_false_iff, Bool.or_eq_false_iff,
    decide_eq_false_iff_not, decide_eq_true_eq, not_le, not_lt, beq_eq_false_iff_ne]

theorem goodTemperature_eq (x : Int) : goodTemperature x = !offScale x := by
  rw [Bool.eq_iff_iff]
  simp [goodTemperature, offScale]

theorem CoolingRecord.not_inRange (r : CoolingRecord) : (!r.inRange) =
    (decide (7 < r.clockSel ∨ 2000 < r.params.minFlow ∨ ∃ k : Fin 4, offScale r.params.stages[k] = true) ||
      offScale r.params.valveTarget || offScale r.params.knee || offScale r.params.tripTemp ||
      offScale r.params.cableLimit) := by
  have hstages : (!r.params.stages.toList.all goodTemperature) = true ↔
      ∃ k : Fin 4, offScale r.params.stages[k] = true := by
    simp [toList_eq_map_finRange, goodTemperature_eq]
  rw [Bool.eq_iff_iff]
  simp only [CoolingRecord.inRange, goodTemperature_eq, Bool.not_and, Bool.or_eq_true, Bool.not_not, hstages,
    Bool.not_eq_true', decide_eq_false_iff_not, decide_eq_true_eq, not_le]
  simp only [or_comm, or_left_comm]

theorem SenseRecord.not_inRange (r : SenseRecord) : (!r.inRange) = decide (r.ceiling = 0 ∨ 4095 < r.ceiling) := by
  rw [Bool.eq_iff_iff]
  simp only [SenseRecord.inRange, Bool.not_eq_true', Bool.and_eq_false_iff, decide_eq_false_iff_not, decide_eq_true_eq,
    not_le, Nat.lt_one_iff]

theorem Figures.not_inRange (f : Figures) : (!decide (0 < f.yawLoad)) = decide (f.yawLoad = 0) := by
  rw [Bool.eq_iff_iff, Bool.not_eq_true', decide_eq_false_iff_not, decide_eq_true_eq, Nat.pos_iff_ne_zero, not_not]

/-! ## Each code with its condition (R195) -/

section
variable (st : Staging) (own : Nat)

theorem refusedFor_peers_few : decide (st.peerList.length < 2) = true ↔ st.refusedFor own 8 := by
  rw [decide_eq_true_eq, Nat.lt_succ_iff, Staging.peerList, length_records, setCount, length_filter_finRange,
    Finset.card_le_one]
  simp only [Finset.mem_filter, Finset.mem_univ, true_and]
  exact ⟨fun h i j hi hj => h i hi j hj, fun h i hi j hj => h i j hi hj⟩

theorem refusedFor_unnamed : (!st.peerList.any (·.station == own)) = true ↔ st.refusedFor own 9 := by
  have hany := any_records st.peers (·.station == own)
  rw [Bool.not_eq_true', ← Bool.not_eq_true, Staging.peerList, hany, not_exists]
  exact forall_congr' fun j => by rw [Bool.not_eq_true]

theorem refusedFor_twice : (!st.peersDistinct) = true ↔ st.refusedFor own 10 := by
  have hpair {i j : Fin 12} : (st.peers[i]).any (fun d => (st.peers[j]).any fun e => d.station == e.station) = true ↔
      ∃ d e, st.peers[i] = some d ∧ st.peers[j] = some e ∧ d.station = e.station := by
    simp only [Option.any_eq_true, beq_iff_eq]
    exact ⟨fun ⟨d, hd, e, he, h⟩ => ⟨d, e, hd, he, h⟩, fun ⟨d, e, hd, he, h⟩ => ⟨d, hd, e, he, h⟩⟩
  constructor
  · intro h
    by_contra hno
    have hapart : st.peersDistinct = true := by
      rw [Staging.peersDistinct, decide_eq_true_eq, List.Nodup, List.pairwise_map, Staging.peerList,
        List.pairwise_filterMap, List.pairwise_iff_getElem]
      intro i j hi hj hlt d hd e he heq
      rw [Vector.length_toList] at hi hj
      refine hno ⟨⟨i, hi⟩, ⟨j, hj⟩, fun h => hlt.ne (congrArg Fin.val h), hpair.mpr ⟨d, e, ?_, ?_, heq⟩⟩
      · simpa using hd
      · simpa using he
    rw [hapart] at h
    cases h
  · rintro ⟨i, j, hne, h⟩
    obtain ⟨d, e, hd, he, heq⟩ := hpair.mp h
    rw [Bool.not_eq_true']
    exact Bool.eq_false_iff.mpr fun hdistinct => hne (Staging.peers_injective hdistinct hd he heq)

theorem refusedFor_range : (!st.inRange) = true ↔ st.refusedFor own 11 := by
  simp only [Staging.inRange, Staging.peerList, Bool.not_and, List.not_all_eq_any_not, option_not_all, Bool.or_eq_true,
    any_records, StationRecord.not_inRange, Descriptor.not_inRange, SectorRecord.not_inRange, CoolingRecord.not_inRange,
    SenseRecord.not_inRange, Figures.not_inRange, or_assoc, Staging.refusedFor]

theorem refusedFor_twist : (!st.station.all (·.goodTwist)) = true ↔ st.refusedFor own 12 := by
  have htwist (r : StationRecord) : (!r.goodTwist) =
      decide (r.softLimit < 5400 ∨ r.hardLimit < r.softLimit + 1800 ∨ 10800 < r.hardLimit) := by
    rw [Bool.eq_iff_iff]
    simp only [StationRecord.goodTwist, Bool.not_eq_true', Bool.and_eq_false_iff, decide_eq_false_iff_not,
      decide_eq_true_eq, not_le, or_assoc]
  rw [option_not_all, funext htwist]
  exact Iff.rfl

/-- R195: the defaults of R136 and of 8.1 are in order. -/
theorem refusedFor_knee : decide (st.coolingParams.tripTemp ≤ st.coolingParams.knee) = true ↔ st.refusedFor own 13 := by
  rw [decide_eq_true_eq, Staging.refusedFor, Staging.coolingParams]
  cases st.cooling with
  | none => decide
  | some c => exact decide_eq_true_iff.symm

theorem refusedFor_budget :
    decide (st.figures.budgetRt < st.figures.pumpLoad ∨ st.figures.budget < st.figures.budgetRt) = true ↔
      st.refusedFor own 14 := by
  rw [decide_eq_true_eq, Staging.refusedFor, Staging.figures]
  cases st.loads with
  | none => decide
  | some f => exact decide_eq_true_iff.symm

/-- R195: each entry of the table with its condition. -/
theorem failures_iff : ∀ q ∈ st.failures own, q.2 = true ↔ st.refusedFor own q.1 := by
  simp only [Staging.failures, List.forall_mem_cons]
  exact ⟨Option.isNone_iff_eq_none, refusedFor_peers_few st own, refusedFor_unnamed st own, refusedFor_twice st own,
    refusedFor_range st own, refusedFor_twist st own, refusedFor_knee st own, refusedFor_budget st own,
    any_records st.sense _, fun q hq => by cases hq⟩

/-- R195: the table has no other codes. -/
theorem refusedFor_mem {c : Nat} (h : st.refusedFor own c) : ∃ q ∈ st.failures own, q.1 = c := by
  have hcodes : c ∈ (st.failures own).map Prod.fst := by
    have hmap : (st.failures own).map Prod.fst = [7, 8, 9, 10, 11, 12, 13, 14, 15] := rfl
    rw [hmap]
    unfold Staging.refusedFor at h
    split at h
    case h_10 => exact h.elim
    all_goals simp
  exact List.mem_map.mp hcodes

/-- R195: the first condition that holds gives the code, and with none the copy is good. -/
theorem check_spec :
    (∀ code, st.refusedFor own code → (∀ c, c < code → ¬st.refusedFor own c) → st.check own = .refuse code) ∧
      ((∀ c, ¬st.refusedFor own c) → st.check own = .good st) := by
  refine ⟨fun code hcode hfirst => ?_, fun hnone => ?_⟩
  · have hsorted : (st.failures own).Pairwise fun a b => a.1 < b.1 := by simp [Staging.failures]
    obtain ⟨q, hfind, rfl⟩ :=
      find?_first hsorted (failures_iff st own) (fun _ h => refusedFor_mem st own h) hcode hfirst
    rw [Staging.check, hfind]
  · have hfind : (st.failures own).find? Prod.snd = none :=
      List.find?_eq_none.mpr fun q hq h => hnone q.1 ((failures_iff st own q hq).mp h)
    rw [Staging.check, hfind]

end

end Sys2Proof.Machine
end

section
/-! SUPPORT. The bytes of an image as they are received (R193 to R195), and the statement about refused images. -/

namespace Sys2Proof.Machine

section
variable {s : State} {dt : Clocks}

/-- R193: the header's length and format. -/
theorem headerGood_iff (b0 b1 b2 b3 : Byte) : headerGood [b0, b1, b2, b3] = true ↔
    4 ≤ 256 * b0.toNat + b1.toNat ∧ 256 * b0.toNat + b1.toNat ≤ 2048 ∧ b3 = 1#8 := by
  have hlength : imageLength [b0, b1, b2, b3] = 256 * b0.toNat + b1.toNat := u16At_toNat _ 0
  have hformat : u8At [b0, b1, b2, b3] 3 = b3 := rfl
  simp only [headerGood, hlength, hformat, Bool.and_eq_true, decide_eq_true_eq, beq_iff_eq, and_assoc]
  rfl

theorem exec_configMarker (hl : s.osc.loader = .reading []) (m : Byte) : exec (.configMarkerReceived dt m) s = .next
    (if m = 0x96#8 then { s with clock := s.clock + dt, osc := { s.osc with loader := .reading [m] } }
      else (s.elapse dt).refuseImage 1) := by
  simp only [exec, execConfigMarkerReceived, State.configMarker, State.elapse_osc, hl]
  rfl

theorem exec_configHeader {m : Byte} (hl : s.osc.loader = .reading [m]) (b0 b1 b2 b3 : Byte) :
    exec (.configHeaderReceived dt b0 b1 b2 b3) s = .next
      (if 4 ≤ 256 * b0.toNat + b1.toNat ∧ 256 * b0.toNat + b1.toNat ≤ 2048 ∧ b3 = 1#8 then
        { s with clock := s.clock + dt, osc := { s.osc with loader := .reading [m, b0, b1, b2, b3] } }
      else (s.elapse dt).refuseImage 2) := by
  simp only [exec, execConfigHeaderReceived, State.configHeader, State.elapse_osc, hl, headerGood_iff]
  rfl

/-- R193: the end of the read of an image that is refused. -/
theorem exec_configRead_refused {m b0 b1 b2 b3 : Byte} {rest : List Byte}
    (hl : s.osc.loader = .reading [m, b0, b1, b2, b3]) (h4 : 4 ≤ 256 * b0.toNat + b1.toNat)
    (hlen : rest.length = 256 * b0.toNat + b1.toNat - 2) {code : Nat}
    (hj : judgeImage [b0, b1, b2, b3] rest s.osc.station = .refuse code) :
    exec (.configReadComplete dt rest) s = .next ((s.elapse dt).refuseImage code) := by
  have hlength : imageLength [b0, b1, b2, b3] = 256 * b0.toNat + b1.toNat := u16At_toNat _ 0
  have hbytes : rest.length = imageLength [b0, b1, b2, b3] - 4 + 2 := by rw [hlength]; omega
  simp only [exec, execConfigReadComplete, State.configRest, State.elapse_osc, hl, hj]
  exact congrArg Host.Outcome.next (if_pos hbytes)

end

/-- R194, R195: the judgement by the CRC, the walk and the checks, in this order. -/
theorem judgeImage_eq (b0 b1 b2 b3 : Byte) (rest : List Byte) (own : Nat) :
    let length := 256 * b0.toNat + b1.toNat
    judgeImage [b0, b1, b2, b3] rest own =
      if crc16 ([b0, b1, b2, b3] ++ rest.take (length - 4)) ≠ u16At rest (length - 4) then .refuse 3
      else
        match walk b2.toNat (rest.take (length - 4)) emptyStaging with
        | .refuse code => .refuse code
        | .good st => st.settle.check own := by
  have hlength : imageLength [b0, b1, b2, b3] = 256 * b0.toNat + b1.toNat := u16At_toNat _ 0
  simp only [judgeImage, hlength]
  rfl

/-- R158, R193, R198: the words of the statement for what a refusal leaves of the state before. -/
theorem refuseImage_parts {s : State} {dt : Clocks} (hnone : s.flm.openRecord? .configInvalid = none) {c : Instr} {code : Nat}
    (hexec : exec c s = .next ((s.elapse dt).refuseImage code)) :
    ∃ t, exec c s = .next t ∧ t.clock = s.clock + dt ∧ t.osc.state = .unconfigured ∧ t.osc.loader = .idle ∧
      t.osc.enable = s.osc.enable ∧ t.flm.holds .configInvalid = true ∧
      (t.flm.openRecord? .configInvalid).map (·.value) = some (BitVec.ofNat 32 code) ∧
      t.flm.reaction.safeStop = true ∧ t.cts.scan = none ∧ t.cts.scanDue = none ∧
      (∀ i : Fin 8, t.cts.channels[i].reported = none) ∧ t.ptb = s.ptb ∧ t.scu = s.scu ∧ t.cvp = s.cvp ∧
      t.ywc.sectors = s.ywc.sectors ∧ t.ywc.offsets = s.ywc.offsets ∧ t.ywc.params = s.ywc.params ∧
      t.ywc.evalDue = s.ywc.evalDue ∧ t.clc.params = s.clc.params ∧
      t.clc.minFlowInForce = s.clc.minFlowInForce ∧ t.apa.figures = s.apa.figures ∧
      t.cts.clockSel = s.cts.clockSel ∧ (∀ i : Fin 8, t.cts.channels[i].scanned = s.cts.channels[i].scanned ∧
        t.cts.channels[i].baseline = s.cts.channels[i].baseline ∧ t.cts.channels[i].margin = s.cts.channels[i].margin ∧
        t.cts.channels[i].ceiling = s.cts.channels[i].ceiling) := by
  obtain ⟨hbasis, hholds, hrecord, hsafe⟩ := refuseImage_spec (s := s.elapse dt) hnone code
  generalize (s.elapse dt).refuseImage code = t at hexec hbasis hholds hrecord hsafe
  have hcts : t.cts = s.cts.stopped := congrArg Basis.cts hbasis
  have hosc : t.osc = { s.osc with state := .unconfigured, loader := .idle } := congrArg Basis.osc hbasis
  have hyaw : t.ywc.basis = s.ywc.basis := congrArg Basis.yaw hbasis
  have hcooling : t.clc.fanless = s.clc.fanless := congrArg Basis.cooling hbasis
  have hchannel (i : Fin 8) : t.cts.channels[i] = (s.cts.channels[i]).forget := by
    rw [hcts]
    exact mapTable_get _ _ i
  refine ⟨t, hexec, congrArg Basis.clock hbasis, congrArg Osc.state hosc, congrArg Osc.loader hosc,
    (congrArg Osc.enable hosc :), hholds, hrecord, hsafe, ?_, ?_, fun i => ?_, congrArg Basis.ptb hbasis,
    congrArg Basis.scu hbasis, congrArg Basis.cvp hbasis, congrArg YawBasis.sectors hyaw,
    congrArg YawBasis.offsets hyaw, congrArg YawBasis.params hyaw, congrArg YawBasis.evalDue hyaw,
    (congrArg Clc.params hcooling :), (congrArg Clc.minFlowInForce hcooling :), congrArg Basis.figures hbasis, ?_,
    fun i => ?_⟩
  · rw [hcts]
    rfl
  · rw [hcts]
    rfl
  · rw [hchannel]
    rfl
  · rw [hcts]
    rfl
  · rw [hchannel]
    exact ⟨rfl, rfl, rfl, rfl⟩

/-- Settles O52: the bytes as they are received, the walk, the settling and the checks. -/
theorem imagesAreRefusedByCode : Obligations.ImagesAreRefusedByCode := by
  refine ⟨fun dt s hholds hnone => ?bytes, fun image n tail hfits => ?walk, Staging.settle_spec, check_spec⟩
  case bytes =>
    intro now refusal _
    have hrefusal {c : Instr} {code : Nat} (hexec : exec c s = .next ((s.elapse dt).refuseImage code)) : refusal c code :=
      refuseImage_parts hnone hexec
    refine ⟨fun hl => ⟨?_, fun m hm => hrefusal ?_⟩, fun m b0 b1 b2 b3 hl => ?_, fun m b0 b1 b2 b3 rest hl => ?_⟩
    · exact (exec_configMarker hl _).trans (congrArg Host.Outcome.next (if_pos rfl))
    · exact (exec_configMarker hl m).trans (congrArg Host.Outcome.next (if_neg hm))
    · intro length
      split
      · next hgood => exact (exec_configHeader hl b0 b1 b2 b3).trans (congrArg Host.Outcome.next (if_pos hgood))
      · next hbad =>
        exact hrefusal ((exec_configHeader hl b0 b1 b2 b3).trans (congrArg Host.Outcome.next (if_neg hbad)))
    · intro length h4 hlen
      have hjudge := judgeImage_eq b0 b1 b2 b3 rest s.osc.station
      refine ⟨fun hcrc => hrefusal (exec_configRead_refused hl h4 hlen (hjudge.trans (if_pos hcrc))),
        fun hcrc code hcode => hrefusal (exec_configRead_refused hl h4 hlen
          ((hjudge.trans (if_neg (not_not_intro hcrc))).trans ?_))⟩
      rcases hcode with hwalk | ⟨st, hwalk, hcheck⟩
      · simp only [length] at hwalk
        rw [hwalk]
      · simp only [length] at hwalk
        rw [hwalk]
        exact hcheck
  case walk =>
    obtain ⟨⟨st, hwalk, hst⟩, hrest⟩ := walk_spec image n tail hfits
    exact ⟨⟨st, hwalk, hst.station, hst.peers, hst.sectors, hst.offsets, hst.cooling, hst.sense, hst.loads⟩, hrest⟩

end Sys2Proof.Machine
end

section
/-! SUPPORT. The examination of a fan request that waits, with its override test (R142, R162 to R166). -/

namespace Sys2Proof.Machine

/-! ## Free power (R160) -/

section
variable (a : Apa)

theorem Apa.free_fanGranted : ({ a with fanRequest := false, fansGranted := a.fansGranted + 1 } : Apa).free =
    a.free - a.figures.fanLoad := by
  simp only [Apa.free, Apa.inForce, Apa.total, Nat.mul_succ]
  omega

theorem Apa.free_yawGranted (hg : a.yawGranted = 0) (k : Nat) :
    ({ a with yawGranted := k, yawRequest := none, overrideSent := false } : Apa).free =
      a.free - (a.figures.yawLoad * k : Nat) := by
  simp only [Apa.free, Apa.inForce, Apa.total, hg]
  omega

theorem Apa.free_yawReleased : ({ a with yawGranted := 0, overrideSent := false } : Apa).free =
    a.free + (a.figures.yawLoad * a.yawGranted : Nat) := by
  simp only [Apa.free, Apa.inForce, Apa.total]
  omega

end

/-! ## The two requests tried (R163, R164) -/

section
variable {s : State}

/-- R164: the yaw request gets at least four motors of free power. -/
abbrev State.yawGiven (s : State) : Prop := s.apa.yawRequest.isSome = true ∧ 4 ≤ s.yawOffer

theorem tryYaw_given (hg : s.yawGiven) : s.tryYaw = s.grantYaw s.yawOffer := if_pos hg

theorem tryYaw_refused (hg : ¬ s.yawGiven) : s.tryYaw = s := if_neg hg

theorem ungiven_of_none (hr : s.apa.yawRequest = none) : ¬ s.yawGiven := fun h => by
  rw [State.yawGiven, hr] at h
  exact Bool.false_ne_true h.1

theorem tryYaw_of_none (hr : s.apa.yawRequest = none) : s.tryYaw = s := tryYaw_refused (ungiven_of_none hr)

theorem tryYaw_apa (s : State) : s.tryYaw.apa = { s.apa with
    yawGranted := if s.yawGiven then s.yawOffer else s.apa.yawGranted
    yawRequest := if s.yawGiven then none else s.apa.yawRequest
    overrideSent := s.apa.overrideSent && !decide s.yawGiven } := by
  by_cases hg : s.yawGiven
  · rw [tryYaw_given hg, grantYaw_apa]
    simp [hg]
  · rw [tryYaw_refused hg]
    simp [hg]

@[simp] theorem tryYaw_clc (s : State) : s.tryYaw.clc = s.clc := by
  simp only [State.tryYaw]
  split
  · exact grantYaw_clc _ _
  · rfl

/-- R116: the brake opens for a yaw request granted. -/
theorem tryYaw_turning (hg : s.yawGiven) : s.tryYaw.ywc.state = .brakeRelease ∨ s.tryYaw.ywc.state = .moving := by
  rw [tryYaw_given hg, grantYaw_ywc, Ywc.enterBrakeRelease_state]
  split
  · exact .inr rfl
  · exact .inl rfl

@[simp] theorem tryYaw_brakeIn (s : State) : s.tryYaw.ywc.brakeIn = s.ywc.brakeIn := by
  by_cases hg : s.yawGiven
  · rw [tryYaw_given hg, grantYaw_ywc, Ywc.enterBrakeRelease]
    split <;> rfl
  · rw [tryYaw_refused hg]

/-- R163: a fan request that waits is granted at the fan load, unless the yaw request comes first. -/
theorem tryFan_of_request (hr : s.apa.fanRequest = true) : s.tryFan =
    if (s.apa.figures.fanLoad : Int) ≤ s.apa.free ∧ ¬ s.yawFirst s.clc.overrideTemp then s.grantFan else s := by
  have hfirst := yawPrecedes_iff_yawFirst hr
  simp only [State.tryFan, hr, true_and]
  refine if_congr (and_congr_right fun _ => ?_) rfl rfl
  rw [← hfirst]
  simp

theorem grantFan_apa {f : Fin 4} (hstart : s.clc.fanToStart = some f) :
    s.grantFan.apa = { s.apa with fanRequest := false, fansGranted := s.apa.fansGranted + 1 } := by
  rw [(grantFan_spec s).1, hstart]
  rfl

/-- R142: the lowest-numbered usable fan that stands still is started. -/
theorem grantFan_started {f : Fin 4} (hstart : s.clc.fanToStart = some f) :
    ∃ f : Fin 4, s.clc.fans[f].failed = false ∧ s.clc.fans[f].runOut = false ∧
      (∀ g : Fin 4, g < f → s.clc.fans[g].failed = true ∨ s.clc.fans[g].runOut = true) ∧
      ∀ g : Fin 4, s.grantFan.clc.fans[g].runOut = (s.clc.fans[g].runOut || g == f) := by
  obtain ⟨hgood, hstill⟩ := fanToStart_some hstart
  obtain ⟨-, hruns⟩ := grantFan_spec s
  refine ⟨f, hgood, hstill, fun g hlt => ?_, fun g => (hruns g).trans ?_⟩
  · by_contra hspare
    have hle : f ≤ g := lowest?_least hstart (by simpa using hspare)
    exact absurd hlt (Fin.not_lt.mpr hle)
  · rw [hstart, Option.some_beq_some, Bool.beq_comm]
    rfl

/-- A usable fan stands still, where fewer fans are granted than are usable. -/
theorem fanToStart_of_fewer (hfit : s.fansFit) (hfew : s.apa.fansGranted < s.clc.usableFans) :
    ∃ f, s.clc.fanToStart = some f := by
  obtain ⟨hcount, -⟩ := hfit
  refine Option.isSome_iff_exists.mp (Option.isSome_iff_ne_none.mpr fun hnone => ?_)
  have hle := usableFans_le hnone
  omega

end

end Sys2Proof.Machine
end

section
/-! SUPPORT. What an examination makes of a fan request that waits, in the terms of the statements (R142, R162 to R166). -/

namespace Sys2Proof.Machine

/-- R142: the CLC's request for one fan more. -/
abbrev State.asking (s : State) : State := s.setApa { s.apa with fanRequest := true }

section
variable {s : State}

/-! ## The request granted (R163) -/

theorem fanGranted_iff (s : State) (temp : Int) : s.fanGranted temp ↔
    if s.yawFirst temp then 4 ≤ s.yawOffer ∧
      (s.apa.figures.fanLoad : Int) ≤ s.apa.free - (s.apa.figures.yawLoad * s.yawOffer : Nat)
    else (s.apa.figures.fanLoad : Int) ≤ s.apa.free := by
  have hoffer := motorsFor_free s
  rw [freePower_eq_free] at hoffer
  simp only [State.fanGranted, freePower_eq_free, hoffer]

/-- R162: the yaw request first, then the fan request. -/
theorem tryRequests_yawFirst (hfirst : s.yawFirst s.clc.overrideTemp) : s.asking.tryRequests = s.asking.tryYaw.tryFan :=
  if_pos ((yawPrecedes_iff_yawFirst (s := s.asking) rfl).mpr hfirst)

theorem tryRequests_fanFirst (hfirst : ¬ s.yawFirst s.clc.overrideTemp) : s.asking.tryRequests = s.asking.tryFan.tryYaw :=
  if_neg (mt (yawPrecedes_iff_yawFirst (s := s.asking) rfl).mp hfirst)

/-- R162 to R164: the yaw request granted before the fan request. -/
theorem fanRequested_yawFirst {b : Bool} (hy : s.yawFits b) {f : Fin 4} (hstart : s.clc.fanToStart = some f)
    (hg : s.fanGranted s.clc.overrideTemp) (hfirst : s.yawFirst s.clc.overrideTemp) :
    s.fanRequested s.asking.tryRequests s.clc.overrideTemp := by
  have hpower := (fanGranted_iff s _).mp hg
  rw [if_pos hfirst] at hpower
  obtain ⟨hfour, hload⟩ := hpower
  have hgive : s.asking.yawGiven := ⟨by rw [State.setApa_apa, hfirst.1]; rfl, hfour⟩
  have hnone : s.apa.yawGranted = 0 := hy.ungranted (.inr (hy.waiting hgive.1))
  have hfree := Apa.free_yawGranted s.asking.apa hnone s.yawOffer
  have hyaw : s.asking.tryYaw.apa = { s.apa with
      fanRequest := true, yawGranted := s.yawOffer, yawRequest := none, overrideSent := false } := by
    rw [tryYaw_given hgive, grantYaw_apa]
    rfl
  have hstarted : s.asking.tryYaw.clc.fanToStart = some f := by rw [tryYaw_clc]; exact hstart
  have htried : s.asking.tryRequests = s.asking.tryYaw.grantFan := by
    rw [tryRequests_yawFirst hfirst, tryFan_of_request (by rw [hyaw]), if_pos]
    rw [hyaw]
    exact ⟨hload.trans_eq hfree.symm, fun h => Option.some_ne_none _ (h.1.symm.trans (congrArg Apa.yawRequest hyaw))⟩
  have hfan := grantFan_started hstarted
  rw [tryYaw_clc] at hfan
  rw [State.fanRequested, if_pos hg, htried, grantFan_apa hstarted, hyaw, State.grantFan_ywc,
    if_pos hfirst, motorsFor_free]
  refine ⟨?_, fun h => absurd hgive h, fun _ => tryYaw_turning hgive, hfan⟩
  have hsome : s.apa.yawRequest.isSome = true := hgive.1
  simp only [hsome, hfour, and_self, if_true, decide_true, Bool.not_true, Bool.and_false]

/-- R162 to R164: the fan request granted before the yaw request is tried. -/
theorem fanRequested_fanFirst {f : Fin 4} (hstart : s.clc.fanToStart = some f) (hg : s.fanGranted s.clc.overrideTemp)
    (hfirst : ¬ s.yawFirst s.clc.overrideTemp) : s.fanRequested s.asking.tryRequests s.clc.overrideTemp := by
  rw [State.fanRequested, if_pos hg, if_neg hfirst]
  have hpower := (fanGranted_iff s _).mp hg
  rw [if_neg hfirst] at hpower
  have hgranted : s.asking.tryFan = s.asking.grantFan := by
    rw [tryFan_of_request (s := s.asking) rfl, if_pos ⟨hpower, hfirst⟩]
  have hfan : s.asking.grantFan.apa = { s.apa with fanRequest := false, fansGranted := s.apa.fansGranted + 1 } :=
    grantFan_apa (s := s.asking) hstart
  have hoffer : s.motorsFor (s.apa.freePower - s.apa.figures.fanLoad) = s.asking.grantFan.yawOffer := by
    rw [State.motorsFor, State.yawOffer, usableDrives_eq_usableCount, State.grantFan_ywc, hfan, Apa.free_fanGranted,
      freePower_eq_free]
    rfl
  have hgiven : s.asking.grantFan.yawGiven ↔ s.apa.yawRequest.isSome = true ∧ 4 ≤ s.asking.grantFan.yawOffer := by
    rw [State.yawGiven, hfan]
  rw [tryRequests_fanFirst hfirst, hgranted, hoffer, tryYaw_clc]
  refine ⟨?_, fun h => ?_, fun h => tryYaw_turning (hgiven.mpr h), grantFan_started (s := s.asking) hstart⟩
  · rw [tryYaw_apa]
    simp only [hgiven, hfan]
  · rw [tryYaw_refused (mt hgiven.mp h), State.grantFan_ywc]
    rfl

/-- R163, R164: the fan request granted. -/
theorem tryRequests_granted {b : Bool} (hy : s.yawFits b) {f : Fin 4} (hstart : s.clc.fanToStart = some f)
    (hg : s.fanGranted s.clc.overrideTemp) : s.fanRequested s.asking.tryRequests s.clc.overrideTemp :=
  (em (s.yawFirst s.clc.overrideTemp)).elim (fanRequested_yawFirst hy hstart hg) (fanRequested_fanFirst hstart hg)

/-- R162, R163: with the fan request refused, the yaw request alone is tried. -/
theorem tryRequests_refused {b : Bool} (hy : s.yawFits b) (hg : ¬ s.fanGranted s.clc.overrideTemp) :
    s.asking.tryRequests = s.asking.tryYaw := by
  rw [fanGranted_iff] at hg
  by_cases hfirst : s.yawFirst s.clc.overrideTemp
  · rw [if_pos hfirst] at hg
    rw [tryRequests_yawFirst hfirst]
    by_cases hgive : s.asking.yawGiven
    · have hnone : s.apa.yawGranted = 0 := hy.ungranted (.inr (hy.waiting hgive.1))
      have hfree := Apa.free_yawGranted s.asking.apa hnone s.yawOffer
      have hfan : s.asking.tryYaw.apa.fanRequest = true := congrArg Apa.fanRequest (tryYaw_apa s.asking)
      rw [tryFan_of_request hfan, if_neg]
      rintro ⟨hload, -⟩
      rw [tryYaw_given hgive, grantYaw_apa] at hload
      exact hg ⟨hgive.2, hload.trans_eq hfree⟩
    · rw [tryYaw_refused hgive, tryFan_of_request (s := s.asking) rfl, if_neg fun h => h.2 hfirst]
  · rw [if_neg hfirst] at hg
    rw [tryRequests_fanFirst hfirst, tryFan_of_request (s := s.asking) rfl, if_neg fun h => hg h.1]

/-! ## The request refused (R162, R164) -/

theorem asking_tryYaw_apa (s : State) : s.asking.tryYaw.apa = { s.apa with
    fanRequest := true, yawGranted := s.motorsHeld, yawRequest := if s.yawGiven then none else s.apa.yawRequest
    overrideSent := s.apa.overrideSent && !decide s.yawGiven } := by
  rw [tryYaw_apa, State.motorsHeld, motorsFor_free]
  rfl

theorem motorsHeld_of_refused (hg : ¬ s.yawGiven) : s.motorsHeld = s.apa.yawGranted := by
  rw [State.motorsHeld, motorsFor_free]
  exact if_neg hg

/-- R162, R166: the override test once the yaw request has been tried. -/
theorem overrideDue_iff {b : Bool} (hy : s.yawFits b) (hg : ¬ s.fanGranted s.clc.overrideTemp) :
    (s.asking.tryYaw.coolingOverride = true ∧ 0 < s.asking.tryYaw.apa.yawGranted ∧
      (!s.asking.tryYaw.apa.overrideSent) = true) ↔ s.stopsForFan s.clc.overrideTemp := by
  have hover : s.asking.tryYaw.coolingOverride = decide (580 ≤ s.clc.overrideTemp) := by
    rw [tryYaw_override, coolingOverride_of_request (s := s.asking) rfl]
    rfl
  have hsent : 0 < s.motorsHeld →
      ((!(s.apa.overrideSent && !decide s.yawGiven)) = true ↔ s.apa.yawGranted = 0 ∨ s.apa.overrideSent = false) := by
    intro hheld
    by_cases hgive : s.yawGiven
    · have hnone : s.apa.yawGranted = 0 := hy.ungranted (.inr (hy.waiting hgive.1))
      simp [decide_eq_true hgive, hnone]
    · rw [motorsHeld_of_refused hgive] at hheld
      have hne : s.apa.yawGranted ≠ 0 := by omega
      simp [hgive, hne]
  rw [hover, asking_tryYaw_apa, State.stopsForFan, decide_eq_true_eq]
  exact ⟨fun ⟨hhot, hheld, hfree⟩ => ⟨hg, hhot, hheld, (hsent hheld).mp hfree⟩,
    fun ⟨_, hhot, hheld, hfree⟩ => ⟨hhot, hheld, (hsent hheld).mpr hfree⟩⟩

/-- R163: the fan request stays, and no move is stopped for it. -/
theorem fanRequested_waiting (hg : ¬ s.fanGranted s.clc.overrideTemp) (hstop : ¬ s.stopsForFan s.clc.overrideTemp) :
    s.fanRequested s.asking.tryYaw s.clc.overrideTemp := by
  rw [State.fanRequested, if_neg hg, if_neg hstop, motorsFor_free]
  refine ⟨asking_tryYaw_apa s, by rw [tryYaw_clc]; rfl, fun hgive => ?_, fun hgive => tryYaw_turning hgive⟩
  rw [tryYaw_refused (s := s.asking) hgive]
  rfl

/-! ## The move stopped for cooling override (R119, R121, R165, R166) -/

/-- R166: the stop request noted and reported. -/
def State.overrideNoted (s : State) : State :=
  (s.setApa { s.apa with overrideSent := true }).quiet (.event .auxOverride s.clc.overrideTemp)

theorem overrideStop_eq (s : State) : s.overrideStop = s.overrideNoted.yawStopCause false := rfl

/-- R121, R165: the grant of a stopped move is released, and the fan request that waits is tried. -/
theorem enterBrakeApply_released (hb : s.ywc.brakeIn = false) (hr : s.apa.yawRequest = none)
    (hfan : s.apa.fanRequest = true) (hshed : s.apa.shedPending = false) {f : Fin 4} (hstart : s.clc.fanToStart = some f) :
    let given := (s.apa.figures.fanLoad : Int) ≤ s.apa.free + (s.apa.figures.yawLoad * s.apa.yawGranted : Nat)
    s.enterBrakeApply.apa = { s.apa with
      fanRequest := !decide given, fansGranted := if given then s.apa.fansGranted + 1 else s.apa.fansGranted
      yawGranted := 0, overrideSent := false } := by
  intro given
  let u : State := s.braked.setApa { s.apa with yawGranted := 0, overrideSent := false }
  have hrelease : s.braked.releaseYaw = u.tryFan :=
    (congrArg State.tryRequests (if_neg (Bool.eq_false_iff.mp hshed))).trans (tryRequests_of_none hr)
  have htried : u.tryFan = if given then u.grantFan else u := by
    rw [tryFan_of_request (s := u) hfan]
    have hunfirst : ¬ u.yawFirst u.clc.overrideTemp := fun h => Option.some_ne_none _ (h.1.symm.trans hr)
    have hfree : u.apa.free = _ := s.apa.free_yawReleased
    rw [hfree]
    exact if_congr (and_iff_left hunfirst) rfl rfl
  rw [enterBrakeApply_eq, hb, if_neg Bool.false_ne_true, State.endMove, State.yawToIdle_apa, hrelease, htried]
  by_cases hgiven : given
  · rw [if_pos hgiven, if_pos hgiven, grantFan_apa (s := u) hstart, decide_eq_true hgiven]
    rfl
  · rw [if_neg hgiven, if_neg hgiven, decide_eq_false hgiven, Bool.not_false, ← hfan]
    rfl

section
variable {b : Bool} (hy : s.yawFits b) (hstop : s.stopsForFan s.clc.overrideTemp)
include hy hstop

/-- R166: the APA when the stop request is made. -/
theorem overrideNoted_apa : s.asking.tryYaw.overrideNoted.apa = { s.apa with
    fanRequest := true, yawRequest := none, yawGranted := s.motorsHeld, overrideSent := true } := by
  obtain ⟨-, -, hheld, -⟩ := hstop
  have hnone : (if s.yawGiven then none else s.apa.yawRequest) = none := by
    by_cases hgive : s.yawGiven
    · exact if_pos hgive
    · rw [motorsHeld_of_refused hgive] at hheld
      rw [if_neg hgive]
      exact hy.unrequested fun hs => by have := hy.ungranted (.inr hs); omega
  have hapa := asking_tryYaw_apa s
  rw [hnone] at hapa
  have hnoted : s.asking.tryYaw.overrideNoted.apa = { s.asking.tryYaw.apa with overrideSent := true } := rfl
  rw [hnoted, hapa]

omit hstop in
/-- R121: in BRAKE_APPLY the move has been stopped before. -/
theorem asking_tryYaw_applying (hs : s.ywc.state = .brakeApply) : s.asking.tryYaw = s.asking ∧ s.apa.yawRequest = none ∧
    s.motorsHeld = s.apa.yawGranted := by
  have hnone : s.apa.yawRequest = none := hy.unrequested (by rw [hs]; decide)
  exact ⟨tryYaw_of_none hnone, hnone, motorsHeld_of_refused (ungiven_of_none hnone)⟩

/-- R116: else the brake is being opened or the nacelle turns. -/
theorem asking_tryYaw_turning (hs : s.ywc.state ≠ .brakeApply) :
    s.asking.tryYaw.ywc.state = .brakeRelease ∨ s.asking.tryYaw.ywc.state = .moving := by
  obtain ⟨-, -, hheld, -⟩ := hstop
  by_cases hgive : s.yawGiven
  · exact tryYaw_turning hgive
  · rw [motorsHeld_of_refused hgive] at hheld
    have hungranted := hy.ungranted
    rw [tryYaw_refused (s := s.asking) hgive, State.setApa_ywc]
    cases h : s.ywc.state with
    | idle => have := hungranted (.inl h); omega
    | requestPower => have := hungranted (.inr h); omega
    | brakeRelease => exact .inl rfl
    | moving => exact .inr rfl
    | brakeApply => exact absurd h hs

/-- R166: what the stop request of cooling override leaves. -/
theorem fanRequested_stopped (hshed : s.shedFits) {f : Fin 4} (hstart : s.clc.fanToStart = some f) :
    s.fanRequested s.asking.tryYaw.overrideStop s.clc.overrideTemp := by
  have hapa := overrideNoted_apa hy hstop
  have hclc : s.asking.tryYaw.overrideNoted.clc = s.clc := tryYaw_clc s.asking
  have hywc : s.asking.tryYaw.overrideNoted.ywc = s.asking.tryYaw.ywc := rfl
  rw [State.fanRequested, if_neg hstop.1, if_pos hstop, overrideStop_eq]
  by_cases hs : s.ywc.state = .brakeApply
  · obtain ⟨hkept, hnone, hheld⟩ := asking_tryYaw_applying hy hs
    rw [hkept] at hapa hclc hywc ⊢
    rw [if_pos hs, yawStopCause_still (.inr (by rw [hywc]; exact hs))]
    refine ⟨hywc, hapa.trans ?_, congrArg Clc.fans hclc⟩
    rw [hheld, ← hnone]
  · have hfree : s.apa.shedPending = false := Bool.eq_false_iff.mpr fun hp => hs (hshed hp)
    have hnone : s.asking.tryYaw.overrideNoted.apa.yawRequest = none := congrArg Apa.yawRequest hapa
    have hbrake : s.asking.tryYaw.overrideNoted.ywc.brakeIn = s.ywc.brakeIn := tryYaw_brakeIn s.asking
    obtain ⟨hout, hen, hstate⟩ := enterBrakeApply_stopped hnone
    rw [if_neg hs, yawStopCause_turning (by rw [hywc]; exact asking_tryYaw_turning hy hstop hs)]
    refine ⟨hout, hen, ?_⟩
    rw [hbrake] at hstate
    cases hb : s.ywc.brakeIn with
    | true =>
      rw [hb] at hbrake
      rw [if_pos rfl]
      rw [hb, if_pos rfl] at hstate
      refine ⟨hstate.1, ?_, (enterBrakeApply_held hbrake).trans hapa⟩
      rw [enterBrakeApply_eq, hbrake]
      exact congrArg Clc.fans hclc
    | false =>
      rw [hb] at hbrake
      rw [if_neg Bool.false_ne_true]
      rw [hb, if_neg Bool.false_ne_true] at hstate
      refine ⟨hstate.1, hstate.2.1, ?_⟩
      rw [enterBrakeApply_released hbrake hnone (congrArg Apa.fanRequest hapa) ((congrArg Apa.shedPending hapa).trans hfree)
        (hclc ▸ hstart), hapa]
      have hpool := ((s.asking.tryYaw.overrideNoted.apa.free_yawReleased).symm.trans (by rw [hapa]; rfl)).trans
        s.apa.free_yawReleased
      rw [hapa, ← freePower_eq_free s.apa] at hpool
      simp only [hpool]

end

/-- R162 to R166: the examination, by what becomes of the fan request. -/
theorem examine_asking {b : Bool} (hy : s.yawFits b) {f : Fin 4} (hstart : s.clc.fanToStart = some f) :
    s.asking.examine =
      if s.fanGranted s.clc.overrideTemp then s.asking.tryRequests
      else if s.stopsForFan s.clc.overrideTemp then s.asking.tryYaw.overrideStop else s.asking.tryYaw := by
  by_cases hg : s.fanGranted s.clc.overrideTemp
  · have hspec := tryRequests_granted hy hstart hg
    rw [State.fanRequested, if_pos hg] at hspec
    obtain ⟨hapa, -⟩ := hspec
    have hcool : s.asking.tryRequests.coolingOverride = false := by rw [State.coolingOverride, hapa, Bool.false_and]
    rw [if_pos hg, State.examine, if_neg fun h => Bool.false_ne_true (hcool.symm.trans h.1)]
  · rw [if_neg hg, State.examine, tryRequests_refused hy hg]
    exact if_congr (overrideDue_iff hy hg) rfl rfl

/-- R142, R162 to R166: the APA, the fans and the yaw state after it. -/
theorem fanRequested_examine {b : Bool} (hy : s.yawFits b) (hshed : s.shedFits) {f : Fin 4}
    (hstart : s.clc.fanToStart = some f) : s.fanRequested s.asking.examine s.clc.overrideTemp := by
  rw [examine_asking hy hstart]
  split
  · next hg => exact tryRequests_granted hy hstart hg
  · next hg =>
    split
    · next hstop => exact fanRequested_stopped hy hstop hshed hstart
    · next hstop => exact fanRequested_waiting hg hstop

/-- R166: the fault manager after the stop request of cooling override, where no yaw request waits. -/
theorem overrideStop_flm {b : Bool} (hy : s.yawFits b) (hr : s.apa.yawRequest = none)
    (hstop : s.stopsForFan s.clc.overrideTemp) :
    s.asking.overrideStop.flm = s.overrideFlm s.clock s.clc.overrideTemp := by
  have hkept : s.asking.tryYaw = s.asking := tryYaw_of_none hr
  have hstall : (s.flm.take s.stamp (.event .auxOverride s.clc.overrideTemp)).holds .yawStall = s.flm.holds .yawStall :=
    s.flm.take_holds_other _ _ (by simp only [Report.code]; decide)
  have hnoted : s.asking.overrideNoted.flm = s.flm.take s.stamp (.event .auxOverride s.clc.overrideTemp) := rfl
  rw [overrideStop_eq, State.overrideFlm]
  by_cases hs : s.ywc.state = .brakeApply
  · rw [yawStopCause_still (s := s.asking.overrideNoted) (.inr hs), if_neg fun h => h.1 hs]
    rfl
  · have hturning := asking_tryYaw_turning hy hstop hs
    rw [hkept] at hturning
    rw [yawStopCause_turning (s := s.asking.overrideNoted) hturning, enterBrakeApply_flm (s := s.asking.overrideNoted) hr,
      Flm.goneIf, hnoted, hstall]
    have hbrake : s.asking.overrideNoted.ywc.brakeIn = s.ywc.brakeIn := rfl
    rw [hbrake]
    cases s.ywc.brakeIn with
    | true =>
      rw [if_pos rfl, if_neg fun h => Bool.false_ne_true h.2.1.symm]
      rfl
    | false =>
      rw [if_neg Bool.false_ne_true]
      exact if_congr ⟨fun h => ⟨hs, rfl, h⟩, fun h => h.2.2⟩ rfl rfl

/-- R166: the fault manager after the examination, where no yaw request waits. -/
theorem examine_asking_flm {b : Bool} (hy : s.yawFits b) (hr : s.apa.yawRequest = none) {f : Fin 4}
    (hstart : s.clc.fanToStart = some f) : s.asking.examine.flm =
      if s.stopsForFan s.clc.overrideTemp then s.overrideFlm s.clock s.clc.overrideTemp else s.flm := by
  have hkept : s.asking.tryYaw = s.asking := tryYaw_of_none hr
  rw [examine_asking hy hstart]
  by_cases hg : s.fanGranted s.clc.overrideTemp
  · rw [if_pos hg, if_neg fun h => h.1 hg, tryRequests_of_none (s := s.asking) hr, State.tryFan_flm]
    rfl
  · rw [if_neg hg, hkept]
    split
    · next hstop => exact overrideStop_flm hy hr hstop
    · rfl

end

end Sys2Proof.Machine
end

section
/-! SUPPORT. What the CLC does about its fan grants at a cooling evaluation (R141, R142, R165). -/

namespace Sys2Proof.Machine

/-! ## Grants released (R142, R165) -/

/-- From `s` to `t` the fan grants have become `n` and no fan request waits; without a yaw request this is all. -/
structure State.FansReduced (s t : State) (n : Nat) : Prop where
  granted : t.apa.fansGranted = n
  asked : t.apa.fanRequest = false
  still : s.apa.yawRequest = none →
    t.apa = { s.apa with fansGranted := n, fanRequest := false } ∧ t.ywc = s.ywc ∧ t.flm = s.flm

/-- R162: with no fan request an examination tries the yaw request alone. -/
theorem examine_unasked {s : State} (hf : s.apa.fanRequest = false) : s.examine = s.tryYaw := by
  have hcool (t : State) (ht : t.apa.fanRequest = false) : t.coolingOverride = false := by
    rw [State.coolingOverride, ht, Bool.false_and]
  have hfan (t : State) (ht : t.apa.fanRequest = false) : t.tryFan = t :=
    if_neg fun h => Bool.false_ne_true (ht.symm.trans h.1)
  rw [examine_unoverridden (hcool s hf), State.tryRequests, hfan s hf, hfan _ (by rw [tryYaw_apa]; exact hf), ite_self]

/-- R142, R165: an examination after grants given back. -/
theorem fansReduced_examine {s u : State} {n : Nat}
    (hu : u.apa = { s.apa with fansGranted := n, fanRequest := false }) (hywc : u.ywc = s.ywc) (hflm : u.flm = s.flm) :
    s.FansReduced u.examine n := by
  rw [examine_unasked (by rw [hu])]
  refine ⟨(congrArg Apa.fansGranted (tryYaw_apa u)).trans (congrArg Apa.fansGranted hu),
    (congrArg Apa.fanRequest (tryYaw_apa u)).trans (congrArg Apa.fanRequest hu), fun hr => ?_⟩
  rw [tryYaw_of_none (by rw [hu]; exact hr)]
  exact ⟨hu, hywc, hflm⟩

theorem State.FansReduced.trans {r s t : State} {m n : Nat} (h : r.FansReduced s m) (g : s.FansReduced t n) :
    r.FansReduced t n := by
  refine ⟨g.granted, g.asked, fun hr => ?_⟩
  obtain ⟨hapa, hywc, hflm⟩ := h.still hr
  obtain ⟨hapa', hywc', hflm'⟩ := g.still (by rw [hapa]; exact hr)
  exact ⟨by rw [hapa', hapa], hywc'.trans hywc, hflm'.trans hflm⟩

theorem State.FansReduced.refl {s : State} (hf : s.apa.fanRequest = false) : s.FansReduced s s.apa.fansGranted :=
  ⟨rfl, hf, fun _ => ⟨by rw [← hf], rfl, rfl⟩⟩

theorem fansReduced_releaseFan {s : State} (hf : s.apa.fanRequest = false) :
    s.FansReduced s.releaseFan (s.apa.fansGranted - 1) := by
  refine fansReduced_examine ?_ (State.stopFan_ywc _) ?_
  · rw [takeBackFan_apa, ← hf]
  · simp only [State.stopFan]
    split <;> rfl

theorem fansReduced_releaseFans (n : Nat) {s : State} (hf : s.apa.fanRequest = false) :
    s.FansReduced (s.releaseFans n) (s.apa.fansGranted - n) := by
  induction n generalizing s with
  | zero => exact .refl hf
  | succ n ih =>
    have hone := fansReduced_releaseFan hf
    have hrest := ih hone.asked
    rw [hone.granted, Nat.sub_sub, Nat.add_comm 1 n] at hrest
    exact hone.trans hrest

theorem fansReduced_withdrawFan (s : State) : s.FansReduced s.withdrawFan s.apa.fansGranted := by
  rw [State.withdrawFan]
  split
  · exact fansReduced_examine (s := s) rfl rfl rfl
  · next hf => exact .refl (Bool.eq_false_iff.mpr hf)

/-- R142: with no fewer fans granted than wanted the surplus is released. -/
theorem fansReduced_actOnFans {s : State} (h : s.clc.targetStage ≤ s.apa.fansGranted) :
    s.FansReduced s.actOnFans s.clc.targetStage := by
  have hwithdrawn := fansReduced_withdrawFan s
  have hreleased := fansReduced_releaseFans (s.apa.fansGranted - s.clc.targetStage) hwithdrawn.asked
  rw [hwithdrawn.granted, Nat.sub_sub_self h] at hreleased
  have hact : s.actOnFans = s.withdrawFan.releaseFans (s.apa.fansGranted - s.clc.targetStage) := if_neg (Nat.not_lt.mpr h)
  rw [hact]
  exact hwithdrawn.trans hreleased

/-- R142: with fewer fans granted than wanted a request is put in. -/
theorem actOnFans_asking {s : State} (h : s.apa.fansGranted < s.clc.targetStage) : s.actOnFans = s.asking.examine := if_pos h

/-! ## What the arbiter leaves in place -/

section
variable (s : State)

@[simp] theorem State.releaseFans_basis (n : Nat) : (s.releaseFans n).basis = s.basis := by
  induction n generalizing s with
  | zero => rfl
  | succ n ih => exact (ih _).trans (by simp [State.releaseFan])

theorem State.actOnFans_basis : s.actOnFans.basis = s.basis := by
  simp only [State.actOnFans, State.withdrawFan]
  repeat' split
  all_goals simp

theorem State.actOnFans_outlook : s.actOnFans.outlook = s.outlook := by
  simp only [State.actOnFans, State.withdrawFan]
  repeat' split
  all_goals simp

/-- R172: the arbiter reports its own codes alone. -/
theorem actOnFans_holds {c : FaultCode} (hc : c.incidental = false) : s.actOnFans.flm.holds c = s.flm.holds c := by
  obtain ⟨harbiter, -⟩ := FaultCode.incidental_iff hc
  simpa [State.outlook, harbiter] using congrFun (congrArg Outlook.holds s.actOnFans_outlook) c

end

end Sys2Proof.Machine
end

section
/-! SUPPORT. A cooling evaluation: the minimum flow and the stages, the valve and the thermal limit, and the two temperature
faults (R136, R137, R141, R145 to R148). -/

namespace Sys2Proof.Machine

/-! ## Minimum flow and stages (R136, R141) -/

theorem startsOver_eq (s : State) (old : Clc) : s.startsOver old = { s with osc := (s.startsOver old).osc } := by
  simp only [State.startsOver, State.tested]
  repeat' split
  all_goals rfl

theorem startsOver_osc (s : State) (old : Clc) : (s.startsOver old).osc =
    if (s.osc.state = .standby ∧ old.delivering = false ∧ s.clc.delivering = true) ∧ s.mayStart then
      { s.osc with state := .starting, enable := true, startDue := some (s.clock + ms 10000) }
    else s.osc := by
  simp only [State.startsOver, State.tested]
  split
  · next h =>
    simp only [h, true_and]
    split <;> rfl
  · next h => rw [if_neg fun k => h k.1]

/-- R201: what the start goes by. -/
theorem startsOver_osc_congr {s t : State} {old new : Clc} (hosc : t.osc = s.osc) (hclock : t.clock = s.clock)
    (hflm : t.flm = s.flm) (hcvp : t.cvp = s.cvp) (hold : new.delivering = old.delivering)
    (hnew : t.clc.delivering = s.clc.delivering) : (t.startsOver new).osc = (s.startsOver old).osc := by
  simp only [startsOver_osc, State.mayStart, hosc, hclock, hflm, hcvp, hold, hnew]

/-- R136, R141: the state before the CLC acts on its fan grants. -/
def State.coolingStaged (s : State) : State :=
  let now := max s.clock s.clc.evalDue
  { s with
    clock := now
    clc := { s.clc with
      evalDue := s.clc.evalDue + ms 1000, minFlowInForce := s.clc.params.minFlow, stageFlags := s.clc.stage.stageFlags }
    osc := ({ s with
      clock := now, clc := { s.clc with minFlowInForce := s.clc.params.minFlow } }.startsOver s.clc).osc }

theorem coolingEvaluation_eq (s : State) : s.coolingEvaluation =
    s.coolingStaged.actOnFans.formValve.formThermalLimit.judgeOvertemperature.judgeCable := by
  let u : State := (s.runTo s.clc.evalDue).setClc { s.clc with evalDue := s.clc.evalDue + ms 1000 }
  have hosc : u.takeMinFlow.osc = s.coolingStaged.osc := by
    rw [takeMinFlow_eq]
    exact startsOver_osc_congr rfl rfl rfl rfl rfl rfl
  have hstaged : u.takeMinFlow.setClc u.takeMinFlow.clc.stage = s.coolingStaged := by
    have htaken : u.takeMinFlow = { s.coolingStaged with
        clc := { s.coolingStaged.clc with stageFlags := s.clc.stageFlags } } := by
      rw [takeMinFlow_eq, startsOver_eq, ← takeMinFlow_eq, hosc]
      rfl
    rw [htaken]
    rfl
  rw [← hstaged]
  rfl

theorem coolingStaged_flags (s : State) (k : Fin 4) : s.coolingStaged.clc.stageFlags[k] =
    if s.clc.params.stages[k] ≤ s.clc.overrideTemp then true
    else if s.clc.overrideTemp < s.clc.params.stages[k] - 30 then false
    else s.clc.stageFlags[k] := by
  have hget : s.clc.stage.stageFlags[k] = stageFlag s.clc.params.stages[k] s.clc.overrideTemp s.clc.stageFlags[k] := by
    simp [Clc.stage]
  exact hget

theorem usableFans_eq (c : Clc) : c.usableFans = ((List.finRange 4).filter fun f => !c.fans[f].failed).length := by
  rw [Clc.usableFans, toList_eq_map_finRange, List.filter_map, List.length_map]
  rfl

/-! ## Valve and thermal limit (R145, R146) -/

theorem valvePosition_eq (out : Bool) (x target : Int) : (valvePosition out x target : Int) =
    if out = true then 1000 else max 0 (min 1000 (500 + ((x - target) * 5).tdiv 2)) := by
  rw [valvePosition]
  split
  · rfl
  · exact Int.toNat_of_nonneg (Int.le_max_left _ _)

/-! ## The two temperature faults (R147, R148) -/

/-- R147: OVERTEMPERATURE is present or not as T_conv_out has it, or T_conv_out is OUT. -/
abbrev State.heatAgrees (s : State) : Prop :=
  s.clc.convOut.validity = .out ∨ (s.flm.holds .overtemperature = true ↔ 700 ≤ s.clc.convOut.held)

/-- R148: STRING_CABLE_HOT is present or not as T_cable has it, or T_cable is OUT. -/
abbrev State.cableAgrees (s : State) : Prop :=
  s.clc.cable.validity = .out ∨
    (if s.flm.holds .stringCableHot = true then s.clc.params.cableLimit - 20 < s.clc.cable.held
      else s.clc.cable.held ≤ s.clc.params.cableLimit)

section
variable {s : State}

theorem judgeOvertemperature_agrees (h : s.heatAgrees) : s.judgeOvertemperature = s := by
  rw [State.judgeOvertemperature]
  by_cases hout : s.clc.convOut.validity = .out
  · exact if_pos hout
  · have hiff := h.resolve_left hout
    rw [if_neg hout]
    by_cases hhot : 700 ≤ s.clc.convOut.held
    · rw [if_pos hhot, if_pos (hiff.mpr hhot)]
    · rw [if_neg hhot, reportGone_absent (Bool.eq_false_iff.mpr (mt hiff.mp hhot))]

theorem judgeOvertemperature_undisturbed (s : State) : s.Undisturbed s.judgeOvertemperature :=
  .ite (.refl s) (.ite (.ite (.refl s) (report_other_undisturbed s rfl)) (reportGone_undisturbed s _))

theorem judgeOvertemperature_holds (h : s.clc.convOut.validity ≠ .out) :
    s.judgeOvertemperature.flm.holds .overtemperature = true ↔ 700 ≤ s.clc.convOut.held := by
  simp only [State.judgeOvertemperature, if_neg h]
  split
  · next hhot =>
    split
    · next hpresent => simp [hpresent, hhot]
    · simp [report_present_holds (c := .overtemperature) rfl, hhot]
  · next hhot => simp [State.reportGone_holds s (c := .overtemperature) rfl, hhot]

theorem judgeOvertemperature_holds_other {c : FaultCode} (hc : c.incidental = false) (hne : c ≠ .overtemperature) :
    s.judgeOvertemperature.flm.holds c = s.flm.holds c := by
  simp only [State.judgeOvertemperature]
  repeat' split
  · rfl
  · rfl
  · exact report_holds_other hc hne.symm
  · exact reportGone_holds_other hc hne.symm

theorem judgeCable_agrees (h : s.cableAgrees) : s.judgeCable = s := by
  rw [State.judgeCable]
  by_cases hout : s.clc.cable.validity = .out
  · exact if_pos hout
  · have hheld := h.resolve_left hout
    rw [if_neg hout]
    by_cases hpresent : s.flm.holds .stringCableHot = true
    · rw [if_pos hpresent] at hheld
      rw [if_pos hpresent, if_neg (Int.not_le.mpr hheld), ite_self]
    · rw [if_neg hpresent] at hheld
      rw [if_neg (Int.not_lt.mpr hheld), reportGone_absent (Bool.eq_false_iff.mpr hpresent), ite_self]

theorem judgeCable_undisturbed (s : State) : s.Undisturbed s.judgeCable :=
  .ite (.refl s) (.ite (.ite (.refl s) (report_other_undisturbed s rfl)) (.ite (reportGone_undisturbed s _) (.refl s)))

theorem judgeCable_osc (s : State) : s.judgeCable.osc = s.osc := by
  have hreport (v : Int) : (s.report (.present .stringCableHot v)).osc = s.osc :=
    (congrArg State.osc (s.report_mild (.present .stringCableHot v) rfl) :)
  simp only [State.judgeCable, s.reportGone_mild .stringCableHot rfl]
  repeat' split
  all_goals simp [hreport]

theorem judgeCable_holds_other {c : FaultCode} (hc : c.incidental = false) (hne : c ≠ .stringCableHot) :
    s.judgeCable.flm.holds c = s.flm.holds c := by
  simp only [State.judgeCable]
  repeat' split
  · rfl
  · rfl
  · exact report_holds_other hc hne.symm
  · exact reportGone_holds_other hc hne.symm
  · rfl

theorem judgeCable_hot (hin : s.clc.cable.validity ≠ .out) (h : s.clc.params.cableLimit < s.clc.cable.held) :
    s.judgeCable.flm.holds .stringCableHot = true := by
  simp only [State.judgeCable, if_neg hin, if_pos h]
  split
  · next hpresent => exact hpresent
  · exact report_present_holds rfl _

theorem judgeCable_cool (hin : s.clc.cable.validity ≠ .out) (h : s.clc.cable.held ≤ s.clc.params.cableLimit - 20) :
    s.judgeCable.flm.holds .stringCableHot = false := by
  have hnot : ¬ s.clc.params.cableLimit < s.clc.cable.held := by omega
  simp only [State.judgeCable, if_neg hin, if_neg hnot, if_pos h]
  exact State.reportGone_holds s rfl

/-- R148: between the two limits the condition stays. -/
theorem judgeCable_between (h : s.clc.cable.validity = .out ∨
    (s.clc.params.cableLimit - 20 < s.clc.cable.held ∧ s.clc.cable.held ≤ s.clc.params.cableLimit)) : s.judgeCable = s :=
  judgeCable_agrees (h.imp_right fun ⟨hlow, hhigh⟩ => by split; exacts [hlow, hhigh])

end

end Sys2Proof.Machine
end

section
/-! SUPPORT. What a cooling evaluation leaves, and the statement about it (R136, R137, R141 to R148, R162 to R166, R201). -/

namespace Sys2Proof.Machine

theorem Clc.eq_of_fanless {c d : Clc} (h : c.fanless = d.fanless) : c = { d with fans := c.fans } :=
  congrArg (fun x : Clc => { x with fans := c.fans }) h

/-- R146: the rating goes by the table and the own station. -/
theorem ratedOwn_congr {s t : State} (hptb : t.ptb = s.ptb) (hosc : t.osc.station = s.osc.station) :
    t.ratedOwn = s.ratedOwn := by
  rw [State.ratedOwn, State.ratedOwn, hptb, hosc]

theorem fanRequested_congr {s t u v : State} {temp : Int} (hapa : u.apa = s.apa) (hywc : u.ywc = s.ywc)
    (hfans : u.clc.fans = s.clc.fans) (hapa' : v.apa = t.apa) (hywc' : v.ywc = t.ywc) (hfans' : v.clc.fans = t.clc.fans)
    (h : u.fanRequested t temp) : s.fanRequested v temp := by
  have hmotors : u.motorsFor = s.motorsFor := by
    funext free
    rw [State.motorsFor, State.motorsFor, hapa, hywc]
  simpa only [State.fanRequested, State.fanGranted, State.stopsForFan, State.yawFirst, State.motorsHeld, hmotors, hapa, hywc,
    hfans, hapa', hywc', hfans'] using h

/-- What valve and thermal limit leave. -/
theorem formLimits_parts (u : State) : u.formValve.formThermalLimit.clock = u.clock ∧
    u.formValve.formThermalLimit.osc = u.osc ∧ u.formValve.formThermalLimit.apa = u.apa ∧
    u.formValve.formThermalLimit.ywc = u.ywc ∧ u.formValve.formThermalLimit.flm = u.flm ∧
    u.formValve.formThermalLimit.clc.fans = u.clc.fans := ⟨rfl, rfl, rfl, rfl, rfl, rfl⟩

theorem formLimits_clc (u : State) : u.formValve.formThermalLimit.clc = { u.clc with
    valve := valvePosition (u.clc.convIn.validity == .out) u.clc.convIn.held
      (u.clc.params.valveTarget + if u.cts.condensation then 50 else 0)
    tOwn := u.clc.thermalLimit u.ratedOwn } := rfl

section
variable (s : State)

/-- R137: the state of a cooling evaluation before the temperature faults are judged. -/
def State.coolingFormed (s : State) : State := s.coolingStaged.actOnFans.formValve.formThermalLimit

theorem coolingFormed_parts : s.coolingFormed.clock = s.coolingStaged.actOnFans.clock ∧
    s.coolingFormed.osc = s.coolingStaged.actOnFans.osc ∧ s.coolingFormed.apa = s.coolingStaged.actOnFans.apa ∧
    s.coolingFormed.ywc = s.coolingStaged.actOnFans.ywc ∧ s.coolingFormed.flm = s.coolingStaged.actOnFans.flm ∧
    s.coolingFormed.clc.fans = s.coolingStaged.actOnFans.clc.fans := by
  rw [State.coolingFormed]
  exact formLimits_parts _

theorem coolingStaged_ratedOwn : s.coolingStaged.ratedOwn = s.ratedOwn := by
  refine ratedOwn_congr rfl ?_
  have hosc : s.coolingStaged.osc = _ := startsOver_osc _ s.clc
  rw [hosc]
  split <;> rfl

theorem coolingFormed_clc : s.coolingFormed.clc = { s.coolingStaged.clc with
    fans := s.coolingFormed.clc.fans
    valve := valvePosition (s.clc.convIn.validity == .out) s.clc.convIn.held
      (s.clc.params.valveTarget + if s.cts.condensation then 50 else 0)
    tOwn := s.clc.thermalLimit s.ratedOwn } := by
  have hbasis := s.coolingStaged.actOnFans_basis
  have hclc : s.coolingStaged.actOnFans.clc = { s.coolingStaged.clc with fans := s.coolingStaged.actOnFans.clc.fans } :=
    Clc.eq_of_fanless (congrArg Basis.cooling hbasis)
  have hcts : s.coolingStaged.actOnFans.cts = s.cts := congrArg Basis.cts hbasis
  have hptb : s.coolingStaged.actOnFans.ptb = s.coolingStaged.ptb := congrArg Basis.ptb hbasis
  have hstation : s.coolingStaged.actOnFans.osc.station = s.coolingStaged.osc.station :=
    congrArg (fun b => b.osc.station) hbasis
  rw [State.coolingFormed, formLimits_clc, ratedOwn_congr hptb hstation, coolingStaged_ratedOwn, hcts, hclc]
  rfl

theorem coolingFormed_clock : s.coolingFormed.clock = max s.clock s.clc.evalDue := by
  obtain ⟨hclock, -⟩ := coolingFormed_parts s
  exact hclock.trans (congrArg Basis.clock s.coolingStaged.actOnFans_basis)

theorem coolingFormed_osc : s.coolingFormed.osc = s.coolingStaged.osc := by
  obtain ⟨-, hosc, -⟩ := coolingFormed_parts s
  exact hosc.trans (congrArg Basis.osc s.coolingStaged.actOnFans_basis)

theorem coolingFormed_holds {c : FaultCode} (hc : c.incidental = false) : s.coolingFormed.flm.holds c = s.flm.holds c := by
  obtain ⟨-, -, -, -, hflm, -⟩ := coolingFormed_parts s
  rw [hflm, actOnFans_holds _ hc]
  rfl

/-- R142, R162 to R166: one fan more asked for. -/
theorem coolingFormed_asking (hp : s.powerSound) (hy : s.yawSound)
    (hfew : s.apa.fansGranted < s.coolingStaged.clc.targetStage) :
    s.fanRequested s.coolingFormed s.clc.overrideTemp ∧ (s.apa.yawRequest = none → s.coolingFormed.flm =
      if s.stopsForFan s.clc.overrideTemp then s.overrideFlm (max s.clock s.clc.evalDue) s.clc.overrideTemp else s.flm) := by
  obtain ⟨-, -, hapa, hywc, hflm, hclc⟩ := coolingFormed_parts s
  obtain ⟨⟨hfans, -, hshed⟩, -⟩ := (powerSound_iff s).mp hp
  have hfits : s.coolingStaged.yawFits s.osc.state.isUnloaded := (yawSound_iff s).mp hy
  obtain ⟨f, hstart⟩ := fanToStart_of_fewer (s := s.coolingStaged) hfans (hfew.trans_le (Nat.min_le_right _ _))
  have hact : s.coolingStaged.actOnFans = s.coolingStaged.asking.examine := actOnFans_asking hfew
  have hrequested := fanRequested_examine hfits hshed hstart
  rw [← hact] at hrequested
  refine ⟨fanRequested_congr rfl rfl rfl hapa hywc hclc hrequested, fun hr => ?_⟩
  have hexamined := examine_asking_flm hfits hr hstart
  rw [← hact] at hexamined
  exact hflm.trans hexamined

/-- R142, R165: the surplus released. -/
theorem coolingFormed_reduced (henough : s.coolingStaged.clc.targetStage ≤ s.apa.fansGranted) :
    s.FansReduced s.coolingFormed s.coolingStaged.clc.targetStage := by
  obtain ⟨-, -, hapa, hywc, hflm, -⟩ := coolingFormed_parts s
  obtain ⟨hgranted, hasked, hstill⟩ := fansReduced_actOnFans (s := s.coolingStaged) henough
  refine ⟨by rw [hapa, hgranted], by rw [hapa, hasked], fun hr => ?_⟩
  obtain ⟨hapa', hywc', hflm'⟩ := hstill hr
  exact ⟨hapa.trans hapa', hywc.trans hywc', hflm.trans hflm'⟩

theorem coolingFormed_heatAgrees : s.coolingFormed.heatAgrees ↔ s.heatAgrees := by
  rw [State.heatAgrees, coolingFormed_clc, coolingFormed_holds s rfl]
  exact Iff.rfl

theorem coolingFormed_cableAgrees : s.coolingFormed.cableAgrees ↔ s.cableAgrees := by
  rw [State.cableAgrees, coolingFormed_clc, coolingFormed_holds s rfl]
  exact Iff.rfl

end

section
variable (s : State)

/-- R137: the state after a cooling evaluation. -/
def State.cooled (s : State) : State := s.coolingFormed.judgeOvertemperature.judgeCable

theorem cooled_undisturbed : s.coolingFormed.Undisturbed s.cooled :=
  (judgeOvertemperature_undisturbed _).trans (judgeCable_undisturbed _)

theorem cooled_clc : s.cooled.clc = { s.coolingStaged.clc with
    fans := s.coolingFormed.clc.fans
    valve := valvePosition (s.clc.convIn.validity == .out) s.clc.convIn.held
      (s.clc.params.valveTarget + if s.cts.condensation then 50 else 0)
    tOwn := s.clc.thermalLimit s.ratedOwn } := (cooled_undisturbed s).clc.trans (coolingFormed_clc s)

theorem cooled_osc (h : s.heatAgrees) : s.cooled.osc = s.coolingStaged.osc := by
  rw [State.cooled, judgeCable_osc, judgeOvertemperature_agrees ((coolingFormed_heatAgrees s).mpr h), coolingFormed_osc]

theorem cooled_flm (hheat : s.heatAgrees) (hcable : s.cableAgrees) : s.cooled.flm = s.coolingFormed.flm := by
  rw [State.cooled, judgeOvertemperature_agrees ((coolingFormed_heatAgrees s).mpr hheat),
    judgeCable_agrees ((coolingFormed_cableAgrees s).mpr hcable)]

/-- R141: the target stage in the terms of the statement. -/
theorem cooled_wanted :
    min (countSet s.cooled.clc.stageFlags) ((List.finRange 4).filter fun f => !s.clc.fans[f].failed).length =
      s.coolingStaged.clc.targetStage := by
  rw [cooled_clc, ← usableFans_eq]
  rfl

/-- R145: the valve in the terms of the statement. -/
theorem cooled_valve : (s.cooled.clc.valve : Int) = if s.clc.convIn.validity = .out then 1000 else
    max 0 (min 1000 (500 + ((s.clc.convIn.held - (s.clc.params.valveTarget +
      (if s.cts.channels[4].reported = some .wet ∨ s.cts.channels[5].reported = some .wet then 50 else 0))) * 5).tdiv 2)) := by
  have hraise : s.cts.condensation = true ↔
      s.cts.channels[4].reported = some .wet ∨ s.cts.channels[5].reported = some .wet := by simp [Cts.condensation]
  rw [cooled_clc]
  simp only [valvePosition_eq, hraise, beq_iff_eq]

/-- R147, R148: the two temperatures as they stand when the faults are judged. -/
theorem judged_temperatures : s.coolingFormed.clc.convOut = s.clc.convOut ∧
    s.coolingFormed.judgeOvertemperature.clc.cable = s.clc.cable ∧
    s.coolingFormed.judgeOvertemperature.clc.params = s.clc.params := by
  rw [(judgeOvertemperature_undisturbed s.coolingFormed).clc, coolingFormed_clc]
  exact ⟨rfl, rfl, rfl⟩

/-- R147: the condition of OVERTEMPERATURE. -/
theorem cooled_overtemperature :
    (s.clc.convOut.validity ≠ .out → (s.cooled.flm.holds .overtemperature = true ↔ 700 ≤ s.clc.convOut.held)) ∧
      (s.clc.convOut.validity = .out → s.cooled.flm.holds .overtemperature = s.flm.holds .overtemperature) := by
  obtain ⟨hconv, -⟩ := judged_temperatures s
  have hcable : s.cooled.flm.holds .overtemperature = s.coolingFormed.judgeOvertemperature.flm.holds .overtemperature :=
    judgeCable_holds_other rfl (by decide)
  refine ⟨fun hin => ?_, fun hout => ?_⟩
  · rw [hcable, judgeOvertemperature_holds (by rw [hconv]; exact hin), hconv]
  · rw [hcable, judgeOvertemperature_agrees (.inl (by rw [hconv]; exact hout)), coolingFormed_holds s rfl]

/-- R148: the condition of STRING_CABLE_HOT. -/
theorem cooled_stringCableHot :
    (s.clc.cable.validity ≠ .out →
      (s.clc.params.cableLimit < s.clc.cable.held → s.cooled.flm.holds .stringCableHot = true) ∧
      (s.clc.cable.held ≤ s.clc.params.cableLimit - 20 → s.cooled.flm.holds .stringCableHot = false)) ∧
    (s.clc.cable.validity = .out ∨
        (s.clc.params.cableLimit - 20 < s.clc.cable.held ∧ s.clc.cable.held ≤ s.clc.params.cableLimit) →
      s.cooled.flm.holds .stringCableHot = s.flm.holds .stringCableHot) := by
  obtain ⟨-, hcable, hparams⟩ := judged_temperatures s
  have hheat : s.coolingFormed.judgeOvertemperature.flm.holds .stringCableHot = s.flm.holds .stringCableHot :=
    (judgeOvertemperature_holds_other rfl (by decide)).trans (coolingFormed_holds s rfl)
  rw [← hcable, ← hparams, ← hheat]
  exact ⟨fun hin => ⟨judgeCable_hot hin, judgeCable_cool hin⟩, fun h => by rw [State.cooled, judgeCable_between h]⟩

end

/-- Settles O50: the evaluation in its steps, each by what it leaves. -/
theorem aCoolingEvaluationFormsItsValues : Obligations.ACoolingEvaluationFormsItsValues := by
  intro s hp hy now staging target limit
  have hclc := cooled_clc s
  obtain ⟨hheatIn, hheatOut⟩ := cooled_overtemperature s
  obtain ⟨hcableIn, hcableOut⟩ := cooled_stringCableHot s
  have hexec : exec .coolingEvaluation s = .next s.cooled := congrArg Host.Outcome.next (coolingEvaluation_eq s)
  refine ⟨s.cooled, hexec, (cooled_undisturbed s).clock.trans (coolingFormed_clock s), by rw [hclc]; rfl, by rw [hclc]; rfl,
    by rw [hclc]; rfl, by rw [hclc]; rfl, by rw [hclc]; rfl, by rw [hclc]; rfl, fun hheat => ?osc, fun k => ?flags, ?fans,
    cooled_valve s, ?limit, hheatIn, hheatOut, hcableIn, hcableOut⟩
  case osc => exact cooled_osc s hheat
  case flags =>
    rw [hclc]
    exact coolingStaged_flags s k
  case limit =>
    rw [hclc]
    exact thermalLimit_eq s.clc s.ratedOwn
  case fans =>
    intro wanted
    have hwanted : wanted = s.coolingStaged.clc.targetStage := cooled_wanted s
    have hapa := (cooled_undisturbed s).apa
    have hywc := (cooled_undisturbed s).ywc
    have hfans := congrArg Clc.fans (cooled_undisturbed s).clc
    rw [hwanted]
    by_cases hfew : s.apa.fansGranted < s.coolingStaged.clc.targetStage
    · obtain ⟨hrequested, hflm⟩ := coolingFormed_asking s hp hy hfew
      rw [if_pos hfew]
      refine ⟨fanRequested_congr rfl rfl rfl hapa hywc hfans hrequested, fun hr hheat hcable => ?_⟩
      rw [cooled_flm s hheat hcable, hflm hr]
      exact if_congr (iff_and_self.mpr fun _ => hfew) rfl rfl
    · obtain ⟨hgranted, hasked, hstill⟩ := coolingFormed_reduced s (Nat.le_of_not_lt hfew)
      rw [if_neg hfew, hapa, hywc]
      refine ⟨⟨hgranted, hasked, fun hr => ?_⟩, fun hr hheat hcable => ?_⟩
      · obtain ⟨hapa', hywc', -⟩ := hstill hr
        exact ⟨hapa', hywc'⟩
      · obtain ⟨-, -, hflm⟩ := hstill hr
        rw [cooled_flm s hheat hcable, hflm, if_neg fun h => hfew h.1]

end Sys2Proof.Machine
end
